-- ==== Sys2Proof/Word.lean ====
section
/-!
DEFINITION. The words of the device: every word is 32 bits wide unless a field map says otherwise (R6).
-/

namespace Sys2Proof

/-- A 32-bit word (R6). -/
abbrev Word := BitVec 32

/-- A character of the back channel, or one byte of a word (R6). -/
abbrev Byte := BitVec 8

end Sys2Proof
end

