-- ==== Sys2Proof/Syntax.lean ====
section
/-!
DEFINITION. The commands of the device, one constructor per row of the table of operations and events: the packets of the
host, the register writes and reads that have a row of their own, and the happenings inside and around the device.
-/

namespace Sys2Proof

/-- A framed command packet whose CRC is good: the fields of words 0 and 1 of R455 but OPCODE, and its payload. `rsvd` holds
the RSVD bits of both words together, 0 in a packet that keeps R455. The length L is that of `payload`. -/
structure Pkt where
  tag : Nat
  gen : Nat
  order : Bool
  rsvd : Nat
  seq : Nat
  payload : List Word
  deriving DecidableEq, Repr

/-- What Roll Call part 1 finds (R498, R37): bit i of `fails` for item i, the failed bond groups as (pbx, pby) of R54, and
its duration in µs. -/
structure RollCall where
  fails : Nat
  bonds : List (Nat × Nat)
  us : Nat
  deriving DecidableEq, Repr

/-- One row and sample converted in a cycle (R61, R72): the row number y + 48, the sample (0 HCG to 3 short), whether the
row belongs to the frame before the one being read, the counts (Nr, Ns) at which each converter's ramps flipped, in
ascending x from -24, and whether the row tag passed its sample-bus check (R355). -/
structure RowSample where
  row : Nat
  sample : Nat
  prev : Bool
  flips : List (Nat × Nat)
  tagGood : Bool
  deriving DecidableEq, Repr

/-- A companion frame as the port received it (R302, R303): its lines in order with their pixel codes, and whether the line
buffers overflowed or the last output row was late (R324). -/
structure CompFrame where
  lines : List (List Nat)
  overflow : Bool
  late : Bool
  deriving DecidableEq, Repr

/-- How an I²C register transfer ended (R305). -/
inductive I2cResult where
  | ack
  | nack
  | stretchTimeout
  deriving DecidableEq, Repr


/-- The commands of the device: one constructor per row of the table of operations and events. -/
inductive Instr where
  /-- PING (R477): The front end echoes the payload of a PING in a reply OK. -/
  | ping (k : Pkt)
  /-- GET_IDENTITY (R698): Returns the part, mosaic, UID, firmware, counter and Homeroom identity words. -/
  | getIdentity (k : Pkt)
  /-- GET_STATUS (R699): Returns the summary status words of the device. -/
  | getStatus (k : Pkt)
  /-- SET_MODE (R492): Checks a mode change, decides it and answers OK once it has taken effect under R488. -/
  | setMode (k : Pkt)
  /-- GET_MODE (R493): Returns the present and previous modes, the start data and the first-displayable-frame data. -/
  | getMode (k : Pkt)
  /-- SOFT_RESET (R700): Answers OK, clears the command front end, ends the session, and restarts the firmware (or, in LIMP, the whole device). -/
  | softReset (k : Pkt)
  /-- EVENT_MASK (R480): Sets the mask of events that are neither queued nor counted as lost. -/
  | eventMask (k : Pkt)
  /-- HALL_PASS_QUERY (R468): The front end returns the advertised and released credits and the packets held. -/
  | hallPassQuery (k : Pkt)
  /-- REG_READ (R482): Returns the value of one register. -/
  | regRead (k : Pkt)
  /-- REG_WRITE (R482): Writes one register under the checks and staging of its chapter. -/
  | regWrite (k : Pkt)
  /-- REG_MODIFY (R482): Does an atomic read-modify-write of one register under MASK and VALUE. -/
  | regModify (k : Pkt)
  /-- REG_READ_BLOCK (R482): Returns COUNT consecutive registers. -/
  | regReadBlock (k : Pkt)
  /-- REG_WRITE_BLOCK (R482): Writes consecutive registers in address order and stops at the first refused word. -/
  | regWriteBlock (k : Pkt)
  /-- TABLE_WRITE (R485): Writes a run of words into a memory window as one unit. -/
  | tableWrite (k : Pkt)
  /-- TABLE_READ (R485): Returns a run of words from a memory window. -/
  | tableRead (k : Pkt)
  /-- SETTINGS_COMMIT (R111): Moves the staged set into the pending set and returns the apply FN. -/
  | settingsCommit (k : Pkt)
  /-- SET_FRAME_RATE (R116): Stages a new RP and VTOTAL for a frame period. -/
  | setFrameRate (k : Pkt)
  /-- LOCK_REFERENCE (R117): Selects the crystal or the line marks as reference and, for marks, starts acquisition. -/
  | lockReference (k : Pkt)
  /-- GET_TIMEBASE (R118): Returns TB, the current FN, the TB of that frame's start, TT_STAT and TT_PHASE. -/
  | getTimebase (k : Pkt)
  /-- EVENT_TABLE_LOAD (R119): Loads a chunk of a frame template and, on LAST, checks and stages it. -/
  | eventTableLoad (k : Pkt)
  /-- STROBE_CONFIG (R120): Stages the strobe mode, polarity, period, phase and positions. -/
  | strobeConfig (k : Pkt)
  /-- AE_CONFIG (R164): Stages the auto-exposure enable, profile and parameters. -/
  | aeConfig (k : Pkt)
  /-- SET_EXPOSURE (R165): Stages TL, mask and gains, and commits them when COMMIT is set. -/
  | setExposure (k : Pkt)
  /-- HDR_CONFIG (R166): Stages the short ratio, the merge thresholds and the motion settings. -/
  | hdrConfig (k : Pkt)
  /-- SEQ_CONTEXT_WRITE (R168): Writes one settings context. -/
  | seqContextWrite (k : Pkt)
  /-- SEQ_LIST_LOAD (R169): Loads a chunk of the sequence list. -/
  | seqListLoad (k : Pkt)
  /-- SEQ_START (R160): Checks the list and starts a sequence as a commit. -/
  | seqStart (k : Pkt)
  /-- SEQ_STOP (R163): Schedules the last sequence frame and the return to the base set. -/
  | seqStop (k : Pkt)
  /-- FLICKER_CONFIG (R167): Stages the mains and LED flicker settings. -/
  | flickerConfig (k : Pkt)
  /-- SP_ENABLE (R205): Stages SP_CTRL.EN. -/
  | spEnable (k : Pkt)
  /-- SP_LAW_CONFIG (R206): Stages the Seating Plan law, band and AE_COMP settings. -/
  | spLawConfig (k : Pkt)
  /-- SP_MASK_LOAD (R207): Writes one mask byte to a rectangle of the staged mask. -/
  | spMaskLoad (k : Pkt)
  /-- SP_OVERRIDE (R208): Stages ACTION and FORCE_K. -/
  | spOverride (k : Pkt)
  /-- SP_MAP_READ (R209): Returns a run of a complete block-index map. -/
  | spMapRead (k : Pkt)
  /-- WINDOW_SET (R247): Stages one window and returns its index and the staged VMIN. -/
  | windowSet (k : Pkt)
  /-- WINDOW_CLEAR (R248): Disables windows in the staged set. -/
  | windowClear (k : Pkt)
  /-- BINNING_SET (R249): Stages the binning mode. -/
  | binningSet (k : Pkt)
  /-- TRIGGER_CONFIG (R250): Sets the Bell configuration on acceptance. -/
  | triggerConfig (k : Pkt)
  /-- TRIGGER_FIRE (R251): The front end raises a Bell event now or schedules it at time AT. -/
  | triggerFire (k : Pkt)
  /-- PIPE_A_CONFIG (R285): Stages the PA_CTRL, PA_BLC, PA_DEFECT and PA_DGAIN settings. -/
  | pipeAConfig (k : Pkt)
  /-- TONE_CURVE_LOAD (R286): Writes tone-curve entries into the staged bank and, on LAST, marks it ready. -/
  | toneCurveLoad (k : Pkt)
  /-- CCM_SET (R287): Stages the colour matrix, channel gains and IR subtraction coefficients. -/
  | ccmSet (k : Pkt)
  /-- TNR_CONFIG (R288): Stages the TNR settings and, optionally, a TNR reset. -/
  | tnrConfig (k : Pkt)
  /-- PIPE_B_CONFIG (R326): Stages the Pipeline B settings and acts on a change of EN. -/
  | pipeBConfig (k : Pkt)
  /-- COMPANION_PROFILE_LOAD (R327): Loads a chunk of the companion profile and, on LAST, checks it. -/
  | companionProfileLoad (k : Pkt)
  /-- COMPANION_REG_ACCESS (R328): Reads or writes companion registers now, or queues a write set for target frame T. -/
  | companionRegAccess (k : Pkt)
  /-- STATS_CONFIG (R347): Stages the statistics push selection and the histogram rectangle. -/
  | statsConfig (k : Pkt)
  /-- STATS_READ (R348): Returns a run of one part of a closed statistics set. -/
  | statsRead (k : Pkt)
  /-- OUTPUT_ROUTE (R390): Stages the selection of routed streams. -/
  | outputRoute (k : Pkt)
  /-- DISPLAY_FORMAT (R391): Stages the display A format, size and crop. -/
  | displayFormat (k : Pkt)
  /-- WARP_MESH_LOAD (R392): Writes mesh nodes into the staged bank and, on LAST, checks it and marks it ready. -/
  | warpMeshLoad (k : Pkt)
  /-- CODING_CONFIG (R393): Stages the coding and recorder bit rates. -/
  | codingConfig (k : Pkt)
  /-- VISION_FORMAT (R394): Stages the vision mode, depth, curve and sample selection. -/
  | visionFormat (k : Pkt)
  /-- STREAM_PRIORITY (R395): Sets the shed order of the stream groups on acceptance. -/
  | streamPriority (k : Pkt)
  /-- LINK_STATUS (R439): Returns the link state, configuration, equaliser settings and next LSEQ. -/
  | linkStatus (k : Pkt)
  /-- LINK_RATE (R440): Sets the lane rate and retrains the link. -/
  | linkRate (k : Pkt)
  /-- LANE_MAP (R440): Sets the configured lanes, polarity and map, and retrains the link. -/
  | laneMap (k : Pkt)
  /-- FFE_REQUEST (R441): Steps, presets or sets the lane equaliser coefficients. -/
  | ffeRequest (k : Pkt)
  /-- PRBS_CONFIG (R442): Starts a PRBS test on the selected targets for DURATION. -/
  | prbsConfig (k : Pkt)
  /-- PRBS_READ (R442): Returns the bits checked and the errors of one PRBS checker. -/
  | prbsRead (k : Pkt)
  /-- LOOPBACK (R442): Starts or ends an internal lane loopback or the back-channel echo. -/
  | loopback (k : Pkt)
  /-- POWER_STATUS (R554): Returns the power registers and VIN. -/
  | powerStatus (k : Pkt)
  /-- RAIL_CONFIG (R545): Issues a voltage command for VDD_LOGIC or VCMP through the power manager. -/
  | railConfig (k : Pkt)
  /-- REPORT_CARD_READ (R553): Returns Report Card records, newest first. -/
  | reportCardRead (k : Pkt)
  /-- REPORT_CARD_CLEAR (R553): Writes a CLEARED record into the Report Card. -/
  | reportCardClear (k : Pkt)
  /-- HK_SEQUENCE_LOAD (R570): Writes entries of a staged housekeeping sequence and, on LAST, checks and applies both sequences. -/
  | hkSequenceLoad (k : Pkt)
  /-- HK_READ (R571): Returns housekeeping result registers and, optionally, clears their NEW and OVR bits. -/
  | hkRead (k : Pkt)
  /-- THERMAL_CONFIG (R585): Sets the thermal warning level, grace and ENF2 time on acceptance. -/
  | thermalConfig (k : Pkt)
  /-- THROTTLE_ACK (R575): Acknowledges a throttle request and may extend the grace timer once. -/
  | throttleAck (k : Pkt)
  /-- HEATER_CONFIG (R580): Sets the lens-heater configuration from the next tick. -/
  | heaterConfig (k : Pkt)
  /-- OTP_READ (R605): Reads a run of OTP words, applying the double-reference read afresh. -/
  | otpRead (k : Pkt)
  /-- OTP_PROGRAM (R606): Programs 1 to 16 OTP words. -/
  | otpProgram (k : Pkt)
  /-- OTP_FUSE_LOCK (R607): Blows the seal bit or the COMPAT lock of a region. -/
  | otpFuseLock (k : Pkt)
  /-- COUNTER_ADVANCE (R608): Advances an anti-rollback counter or revokes key slots. -/
  | counterAdvance (k : Pkt)
  /-- OTP_STATUS (R609): Returns the OTP status, lock, margin and counter registers. -/
  | otpStatus (k : Pkt)
  /-- AUTH_HELLO (R621): Starts a session handshake or provisions the root secret. -/
  | authHello (k : Pkt)
  /-- AUTH_FINISH (R621): Checks the host confirmation and, for SERVICE, its signature, and opens the session. -/
  | authFinish (k : Pkt)
  /-- LIVENESS_CONFIG (R625): Selects the streams that carry liveness records, the cover, or closes the session. -/
  | livenessConfig (k : Pkt)
  /-- NONCE_PUSH (R628): Records a host nonce with its arrival TB for the liveness records. -/
  | noncePush (k : Pkt)
  /-- POP_QUIZ (R635): Schedules host-chosen known-answer blocks in the apply frame and reports their results. -/
  | popQuiz (k : Pkt)
  /-- ALARM_STATUS (R635): Returns the security status and alarm registers. -/
  | alarmStatus (k : Pkt)
  /-- ALARM_CLEAR (R634): Clears the latched alarm bits of its mask. -/
  | alarmClear (k : Pkt)
  /-- REC_MOUNT (R655): Mounts the recorder, formatting a new layout when FORMAT is set. -/
  | recMount (k : Pkt)
  /-- REC_CONFIG (R655): Sets the Chalkboard and clip configuration. -/
  | recConfig (k : Pkt)
  /-- REC_EVENT (R650): Raises a recorder event that opens or extends a clip. -/
  | recEvent (k : Pkt)
  /-- REC_INDEX_READ (R655): Returns index entries of clips. -/
  | recIndexRead (k : Pkt)
  /-- REC_CLIP_READ (R654): Sends a clip's frame records on stream 0x31. -/
  | recClipRead (k : Pkt)
  /-- REC_ERASE (R655): Erases a range of clips. -/
  | recErase (k : Pkt)
  /-- REC_UNMOUNT (R655): Cuts open post windows, writes their clips and unmounts the recorder. -/
  | recUnmount (k : Pkt)
  /-- FW_STAGE_BEGIN (R667): Erases the target boot partition to stage a new image. -/
  | fwStageBegin (k : Pkt)
  /-- FW_STAGE_CHUNK (R667): Writes a chunk of the staged image. -/
  | fwStageChunk (k : Pkt)
  /-- FW_STAGE_VERIFY (R670): Verifies the staged image under the checks of R632. -/
  | fwStageVerify (k : Pkt)
  /-- FW_SWITCH (R668): Switches to the verified image live and/or selects it for the next start. -/
  | fwSwitch (k : Pkt)
  /-- FW_INFO (R670): Returns SAF_FWSTAT and OTP_FW_VERSION. -/
  | fwInfo (k : Pkt)
  /-- SELFTEST_RUN (R670): Runs the selected self-tests and reports a pass bit for each. -/
  | selftestRun (k : Pkt)
  /-- FAULT_READ (R670): Returns the fault registers and the count of each fault. -/
  | faultRead (k : Pkt)
  /-- FAULT_CLEAR (R670): Clears the latched bits and the active event faults of its mask. -/
  | faultClear (k : Pkt)
  /-- ECC_STATUS (R670): Returns the ECC counts of every memory and optionally clears them. -/
  | eccStatus (k : Pkt)
  /-- ROLL_CALL_RESULT (R499): Returns the Roll Call failures and durations. -/
  | rollCallResult (k : Pkt)
  /-- REGISTER_WRITE (R11): A write to a register field that has no row of its own acts by its type code. -/
  | registerWrite (addr : Nat) (value : Word)
  /-- CNV_CAL_START (R67): A write of 1 to CNV_CAL.START starts a full converter calibration in CALIBRATION mode. -/
  | cnvCalStart (value : Word)
  /-- TT_COMMIT_REQ (R111): A write of 1 to TT_COMMIT.REQ moves the staged set into the pending set. -/
  | ttCommitReq
  /-- TPL_CHECK (R102): A write of 1 to TT_CTRL.TPL_CHECK checks and stages the template written by TABLE_WRITE. -/
  | tplCheck (value : Word)
  /-- SEQ_CTRL_START (R183): A write of 1 to SEQ_CTRL.START acts as SEQ_START with SEQ_LOOPS. -/
  | seqCtrlStart (value : Word)
  /-- SEQ_CTRL_STOP (R183): A write of 1 to SEQ_CTRL.STOP acts as SEQ_STOP with WHEN. -/
  | seqCtrlStop (value : Word)
  /-- COMPANION_ENABLE (R310): A write of PB_CTRL.EN from 0 to 1 starts the companion power-up sequence. -/
  | companionEnable (value : Word)
  /-- COMPANION_DISABLE (R311): A write of PB_CTRL.EN from 1 to 0 powers the companion down. -/
  | companionDisable (value : Word)
  /-- PROF_CHECK (R309): A write of 1 to PB_CTRL.PROF_CHECK checks the companion profile. -/
  | profCheck (value : Word)
  /-- HK_APPLY (R570): A write of 1 to HK_CTRL.APPLY checks both staged housekeeping sequences and applies them. -/
  | hkApply
  /-- LNK_TEST_START (R451): A write of 1 to LNK_TEST.START runs a test as PRBS_CONFIG does. -/
  | lnkTestStart (value : Word)
  /-- LNK_LOOP_WRITE (R451): A write of LNK_LOOP.MODE acts as LOOPBACK with LNK_TEST.DURATION. -/
  | lnkLoopWrite (value : Word)
  /-- LNK_CFG_WRITE (R443): A write of LNK_CFG acts as LINK_RATE or LANE_MAP. -/
  | lnkCfgWrite (value : Word)
  /-- RELOCK (R533): A write of 1 to CLK_PLLn_CFG.RELOCK re-locks PLL n under R524. -/
  | relock (pll : Nat) (value : Word)
  /-- SYS_CTRL_SOFT_RESET (R696): A write of 1 to SYS_CTRL.SOFT_RESET acts as SOFT_RESET once the write is answered OK. -/
  | sysCtrlSoftReset
  /-- KICK (R664): A write of SAF_WDOG.KICK by the control controller restarts the watchdog window. -/
  | kick
  /-- COUNTER_CLR (R85): A write of 1 to a counter's CLR bit sets its count to 0. -/
  | counterClr (addr : Nat)
  /-- LOCK_SET (R691): A write of 1 to a bank's RWS LOCK bit freezes that bank's RWL fields until power-on or RESET_N. -/
  | lockSet (addr : Nat)
  /-- OTP_LOCK_WRITE (R599): A write to OTP_LOCK sets sticky region, counter and programming locks. -/
  | otpLockWrite (value : Word)
  /-- TT_TB_LO_READ (R88): A read of TT_TB_LO copies TB[63:32] into TT_TB_HI in the same cycle. -/
  | ttTbLoRead
  /-- BEL_LAST_LO_READ (R257): A read of BEL_LAST_LO copies the high word of the last Bell TB. -/
  | belLastLoRead
  /-- PB_VSTB_LO_READ (R335): A read of PB_VSTB_LO copies the high word of the last companion frame-start TB. -/
  | pbVstbLoRead
  /-- LNK_PRBSBITS_LO_READ (R450): A read of LNK_PRBSBITS_LO copies the high word of the bits checked. -/
  | lnkPrbsbitsLoRead
  /-- VIN_RISE (R495): VIN first exceeds 6.0 V: the power die limits inrush, reads MTP and sequences the rails. -/
  | vinRise (vin : Nat)
  /-- UVLO (R537): VIN below 5.4 V for 50 µs starts the power-down sequence and writes a UVLO record. -/
  | uvlo (vin : Nat)
  /-- VIN_HI (R537): VIN above 19.5 V for 10 µs sets PWR_STAT.VIN_HI and raises FAULT. -/
  | vinHi (vin : Nat)
  /-- SURGE (R537): VIN above 24.5 V for 100 µs stops all switching and writes a SURGE record. -/
  | surge (vin : Nat)
  /-- SURGE_RECOVERY (R537): VIN below 19.0 V for 1.0 ms after a surge runs soft start again. -/
  | surgeRecovery (vin : Nat)
  /-- RESET_N_ASSERT (R494): RESET_N held low for 10 µs or more puts the device into reset. -/
  | resetNAssert
  /-- RESET_RELEASE (R495): Reset is released at power-good with RESET_N high, and the boot ROM starts. -/
  | resetRelease (refclk : Bool) (measuredKhz : Nat) (emmc : Bool)
  /-- SOFT_START_STEP (R547): A rail reaches power-good and the next rail in the sequence starts its soft start. -/
  | softStartStep
  /-- SOFT_START_TIMEOUT (R547): A rail not power-good within 5.0 ms of its ramp start is a rail fault. -/
  | softStartTimeout (rail : Nat)
  /-- RAIL_FAULT (R549): A rail held below 90 % after fold-back for 100 µs stops with the rails after it. -/
  | railFault (rail : Nat)
  /-- RAIL_OV (R549): An output above 110 % for 20 µs holds its high side off and writes a record. -/
  | railOv (rail : Nat)
  /-- HICCUP_RESTART (R549): 10 ms after a rail fault the rail and those after it restart, latching after 3 failures. -/
  | hiccupRestart (rail : Nat)
  /-- VCMD_DONE (R544): A slewing rail comes within ±1 % of its target and its command is acknowledged DONE. -/
  | vcmdDone (rail : Nat)
  /-- VCMD_TIMEOUT (R544): A rail not within ±1 % by the slew time plus 200 µs is acknowledged TIMEOUT. -/
  | vcmdTimeout (rail : Nat)
  /-- VID_FRAME (R546): An external load sends a VID frame that commands VCMP or queries a status. -/
  | vidFrame (bits : Nat)
  /-- PHASE_SHED (R542): At light load the core controller disables one phase every 16 switching cycles. -/
  | phaseShed
  /-- SHED_ABORT (R542): Current above READD_MA or a 1.8 A peak enables every phase within one cycle. -/
  | shedAbort
  /-- SHED_HOLD_EXPIRY (R543): HOLD switching cycles after LSTEP falls, shedding is allowed again. -/
  | shedHoldExpiry
  /-- THERMAL_COMPARATOR_TRIP (R577): A power-die analogue comparator at 130 °C causes thermal shutdown. -/
  | thermalComparatorTrip (sensor : Nat)
  /-- PLL_LOCK_DONE (R524): After 64 in-window comparisons a synthesiser switches back to its VCO and is LOCKED. -/
  | pllLockDone (pll : Nat) (band : Nat) (kvco : Nat) (roll : RollCall)
  /-- LOSS_OF_LOCK (R525): Four consecutive out-of-window comparisons start a re-lock and report a clock fault. -/
  | lossOfLock (pll : Nat)
  /-- REFERENCE_LOST (R526): No reference edge within 4 periods puts every synthesiser in HOLDOVER. -/
  | referenceLost
  /-- REFERENCE_RETURN (R526): The reference present for 1,024 periods re-locks every synthesiser in HOLDOVER. -/
  | referenceReturn
  /-- DRAM_READY (R495): DRAM training completes and Roll Call part 2 checks the DRAM channel. -/
  | dramReady (pass : Bool) (us : Nat) (selftests : Nat)
  /-- QUICK_CALIBRATION (R66): The converters' quick calibration completes and sets the correction table. -/
  | quickCalibration (sums : List (Int × Int))
  /-- FIRMWARE_READY (R504): The verified firmware reports ready and waits for the next COMMIT event to take over. -/
  | firmwareReady
  /-- TAKEOVER_TIMEOUT (R503): Firmware not ready 400 ms after the start origin enters LIMP with cause TAKEOVER_TO. -/
  | takeoverTimeout
  /-- BACK_CHANNEL_FRAME (R452): A back-channel frame arrives and the front end frames, checks and holds its command packets. -/
  | backChannelFrame (chars : List Byte) (ended : Bool)
  /-- MARK (R91): A line mark arrives, is timestamped and updates acquisition or tracking. -/
  | mark (after : Nat) (line : Nat) (hfc : Nat) (crc : Nat)
  /-- MARK_MISSED (R91): A mark not received 1.5 × M RL after the previous valid one counts as missed. -/
  | markMissed
  /-- COAST_TIMEOUT (R92): No valid mark for 4 × M RL moves TRACK to COAST. -/
  | coastTimeout
  /-- ACQUIRE_TIMEOUT (R93): TRACK not reached within ACQ_TO ms gives the final reply TIMEOUT while acquisition continues. -/
  | acquireTimeout
  /-- LSTATE (R425): A host receiver-state item arrives and drives acknowledgement, replay and lane changes. -/
  | lstate (b : Nat) (ack : Nat) (crc : Nat)
  /-- LANE_READD (R431): A lane GOOD for READD_S seconds is added at the next DSK index. -/
  | laneReadd (lane : Nat)
  /-- HOST_SILENT (R425): No good LSTATE for SILENT_MS sets HOST_SILENT. -/
  | hostSilent
  /-- BC_IDLE (R422): A back-channel IDLE set is checked against PRBS-15 and counts towards BC_LOCK. -/
  | bcIdle (chars : List Byte) (violation : Bool)
  /-- BC_ADAPT_WINDOW (R423): At the end of each 1,024 UI window the back-channel equaliser adapts or freezes. -/
  | bcAdaptWindow (transitions : Nat) (violation : Bool) (steps : List Int)
  /-- EYE_MONITOR (R424): Once per second the eye opening is measured and the tap centres updated or restored. -/
  | eyeMonitor (height : Nat) (width : Nat)
  /-- LINK_ACTIVE (R427): The first good LSTATE with READY ends training and the link enters ACTIVE. -/
  | linkActive
  /-- TRAIN_TIMEOUT (R427): TRAIN_TO without READY puts every configured lane ACTIVE with NO_LSTATE. -/
  | trainTimeout
  /-- FFE_APPLY (R412): A coefficient change takes effect at the lane's next deskew marker. -/
  | ffeApply (lane : Nat)
  /-- TEST_END (R435): A PRBS test or loopback ends after DURATION, the lanes retrain and the final reply is sent. -/
  | testEnd
  /-- FRAME_START (R98): A frame begins: its blanking is fixed and per-frame actions run. -/
  | frameStart
  /-- COMMIT_EVENT (R112): At the COMMIT event the pending set is taken into force for its apply frame. -/
  | commitEvent
  /-- ROW_RESET (R42): Long integration starts for k = 0 blocks of a row and indices are issued. -/
  | rowReset (row : Nat)
  /-- BLOCK_RESET (R42): SGS lines of blocks with k above 0 fall to start their long integration. -/
  | blockReset (row : Nat) (k : Nat)
  /-- SHORT_RESET (R42): The short integration of a row begins. -/
  | shortReset (row : Nat)
  /-- LONG_READ (R41): A read window reads the long samples of a row. -/
  | longRead (row : Nat) (record : List (Nat × Bool))
  /-- SHORT_READ (R41): Phases 12 to 15 read the short sample of a row. -/
  | shortRead (row : Nat)
  /-- POP_QUIZ_EVENT (R630): A quiz block's TXS and OFS are held low through its reads. -/
  | popQuizEvent (n : Nat)
  /-- STROBE_ON (R114): The template drives STROBE_OUT on. -/
  | strobeOn
  /-- STROBE_OFF (R114): The template drives STROBE_OUT off. -/
  | strobeOff
  /-- LSTEP (R110): The load-step warning rises 2.0 µs before a read window and every phase is enabled. -/
  | lstep
  /-- STATS_CUT (R338): The statistics cut event closes the frame's set unless its last row is still to be merged. -/
  | statsCut
  /-- CONVERSION_CYCLE (R61): All converters run one conversion cycle and send codes with row tags on the sample bus. -/
  | conversionCycle (rows : List RowSample)
  /-- OFFSET_TRACKING (R68): In vertical blanking the converters convert VLO twice and move their offsets. -/
  | offsetTracking (sums : List Int)
  /-- STATS_SET_CLOSE (R338): A statistics set closes at the later of its cut and its last merged row and is written to DRAM. -/
  | statsSetClose
  /-- AE_RUN (R153): The firmware or boot ROM runs auto-exposure on the closed set and may commit. -/
  | aeRun
  /-- AWB_RUN (R272): The firmware sets the channel gains from the zone statistics. -/
  | awbRun
  /-- DISPLAY_LINE_DUE (R374): A display A line falls due and is sent, slipped from the previous picture if its rows are missing. -/
  | displayLineDue (line : Nat)
  /-- DSTALL (R661): No display A footer within SAF_DSTALL.FRAMES frame periods raises DSTALL. -/
  | dstall
  /-- BELL_TAKE (R239): A Bell event is taken at the next slot boundary and starts a frame or is queued. -/
  | bellTake
  /-- TRIG_IN_EDGE (R238): An edge on TRIG_IN held for MINW raises a Bell event. -/
  | trigInEdge (after : Nat) (falling : Bool) (held : Nat)
  /-- TRIGGER_AT_REACHED (R245): TB reaches the AT of a scheduled TRIGGER_FIRE and the event fires. -/
  | triggerAtReached
  /-- BELL_BUSY_END (R242): The Bell busy time ends and a held event is taken at once. -/
  | bellBusyEnd
  /-- CALIBRATION_COMPLETE (R67): A full calibration ends and its shadow table is copied in the next blanking. -/
  | calibrationComplete (sums : List (Int × Int))
  /-- COMPANION_POWERUP_DELAY (R310): A power-up delay of the companion sequence expires and the next step runs. -/
  | companionPowerupDelay
  /-- COMPANION_START_TIMEOUT (R310): No whole frame within 500 ms of WAIT sets ERROR and answers TIMEOUT. -/
  | companionStartTimeout
  /-- COMPANION_POWERDOWN_DELAY (R311): A power-down delay of the companion expires and the next step runs. -/
  | companionPowerdownDelay
  /-- COMPANION_FRAME_START (R312): A companion frame starts: CFN advances, buffers are taken and write sets finish. -/
  | companionFrameStart (after : Nat) (line : Nat)
  /-- COMPANION_FRAME_END (R324): A companion frame's last output row is written and its buffer becomes READY. -/
  | companionFrameEnd (frame : CompFrame)
  /-- WRITE_SET_BURST (R313): At line WIN_OPEN of an issue frame the Timetable releases a write-set burst to the I2C master. -/
  | writeSetBurst
  /-- I2C_TRANSFER_DONE (R305): An I2C register transfer ends with ACK, NACK after retries, or stretch timeout. -/
  | i2cTransferDone (result : I2cResult) (data : Word) (late : Bool)
  /-- COMPANION_LOST (R304): No frame start within 2 × FRAME_US moves the companion to LOST and reports a fault. -/
  | companionLost
  /-- PCLK_TIMEOUT (R304): No CP_PCLK edge for 1.0 ms clears PCLK_OK. -/
  | pclkTimeout
  /-- HK_FAST_ROUND (R563): A housekeeping converter runs a fast round of its sequence. -/
  | hkFastRound (conv : Nat) (codes : List Nat)
  /-- HK_TICK (R563): The 1.024 ms tick runs the slow rounds, plausibility, thermal logic and heater period. -/
  | hkTick (codesA : List Nat) (codesB : List Nat)
  /-- URGENT_REQUEST (R565): The core controller's request samples all four phase currents for HKA. -/
  | urgentRequest (codes : List Nat)
  /-- UNSOLICITED_URGENT_REQUEST (R566): After a shed abort or re-add an urgent request is served or dropped. -/
  | unsolicitedUrgentRequest (codes : List Nat)
  /-- GRACE_EXPIRY (R574): The grace timer expires in REQUEST and the state goes to ENF1. -/
  | graceExpiry
  /-- CLEAR_HOLD_EXPIRY (R574): CLEAR held for 1.0 s or 10 s lowers the thermal state. -/
  | clearHoldExpiry
  /-- ENF2_TIMEOUT (R574): ENF1 held for ENF2_S seconds at WARN or above goes to ENF2. -/
  | enf2Timeout
  /-- HEATER_PWM_OFF (R579): The heater on-time of the period ends and HTR_G goes low. -/
  | heaterPwmOff
  /-- OTP_WORD_PROGRAMMED (R602): The programming of one OTP word ends and is verified. -/
  | otpWordProgrammed (short : Word) (loose : Word)
  /-- ALARM_DETECT (R633): A security alarm source is detected and recorded, erasing keys at level ERASE. -/
  | alarmDetect (source : Nat)
  /-- HANDSHAKE_DONE (R621): The key agreement of AUTH_HELLO completes and the reply OK carries the device confirmation. -/
  | handshakeDone
  /-- HANDSHAKE_TIMEOUT (R621): AUTH_FINISH later than 1.0 s after the AUTH_HELLO reply is answered TIMEOUT. -/
  | handshakeTimeout
  /-- WATCHDOG (R664): A missing or early kick raises the WATCHDOG fault and restarts the firmware. -/
  | watchdog
  /-- LOCKSTEP (R664): The core comparator finds a mismatch and both cores halt. -/
  | lockstep
  /-- MEM_UNCORR (R663): An uncorrectable memory error in a protected region restarts the firmware. -/
  | memUncorr (memory : Nat)
  /-- SWITCH_LOAD_DONE (R668): The incoming image of a live switch is loaded, checked and ready. -/
  | switchLoadDone
  /-- SWITCH_TIMEOUT (R668): An incoming image not ready within 200 ms is unloaded and the switch answered INTERNAL. -/
  | switchTimeout
  /-- PARKING_FRAME (R505): Every 500 ms in PARKING_WATCH a cell picture is read and checked for motion. -/
  | parkingFrame (sums : List Nat)
  /-- EXTERNAL_WAKE (R510): WAKE held low by another driver for 1.0 ms wakes the device. -/
  | externalWake
  /-- WAKE_PULSE_END (R511): The device releases WAKE 10 ms after pulling it low. -/
  | wakePulseEnd
  /-- PARKING_LINK_IDLE (R512): 10 s without command traffic returns the lanes and CK to electrical idle. -/
  | parkingLinkIdle
  /-- WARM_START_WRITE (R502): The firmware writes the warm-start record at most once every 30 minutes while streaming. -/
  | warmStartWrite
  /-- CHALKBOARD_ADD (R647): A whole coding frame record is added to the Chalkboard once its footer is formed. -/
  | chalkboardAdd
  /-- EMMC_COMMAND_DONE (R640): An eMMC command completes or fails after its retries. -/
  | emmcCommandDone (good : Bool)
  /-- POST_WINDOW_END (R650): An open clip's post window ends. -/
  | postWindowEnd
  /-- CLIP_WRITE_COMPLETE (R646): A clip's units, journal COMMIT and index entry are written. -/
  | clipWriteComplete
  /-- MOUNT_COMPLETE (R653): The recorder mount with journal replay completes or fails. -/
  | mountComplete (responds : Bool) (superblock : Bool)
  /-- WEAR_CHECK (R640): Every 60 s the eMMC life-time estimates are read into REC_WEAR. -/
  | wearCheck (lifeA : Nat) (lifeB : Nat) (preEol : Nat)
  /-- UNPOWERED (R577): VIN falls below 4.5 V, the power die stops and the thermal-shutdown latch clears. -/
  | unpowered
  /-- VIN_HI_END (R537): VIN returns below the high-input threshold and the VIN_HI condition fault ends. -/
  | vinHiEnd
  /-- RECESS_RESUME (R551): 64 switching cycles after a frame's last conversion the regulators return to Recess. -/
  | recessResume
  /-- PENDING_SET_TAKEN (R112): While no frame runs, the pending set is taken 1 RP after REQ at the RP in force. -/
  | pendingSetTaken
  /-- FRAME_END (R488): The frame being read ends and a pending change to a non-streaming mode takes effect, with no further frame started. -/
  | frameEnd
  /-- MTP_WRITE_DONE (R553): A write of a Homeroom slot, warm-start record or Report Card record to MTP completes. -/
  | mtpWriteDone
  /-- SLEW_COMPLETE (R521): A small-step slew of PLL-S and PLL-C ends and the output settles at its target. -/
  | slewComplete
  /-- PLAN_LOCK_TIMEOUT (R520): A stored plan fails to lock within 200 µs and the synthesiser falls back to a band search. -/
  | planLockTimeout (pll : Nat)
  /-- HEALTH_TEST_PASS (R617): The random-bit-generator health tests pass and SEC_STAT.RNG_OK becomes 1. -/
  | healthTestPass
  /-- FINISH_CHECK_DONE (R621): The confirmation and signature checks of AUTH_FINISH complete and the session opens or is refused. -/
  | finishCheckDone
  /-- STAGE_VERIFY_DONE (R670): The verification of the staged firmware image completes and FW_STAGE_VERIFY receives its final reply. -/
  | stageVerifyDone
  /-- SELFTEST_COMPLETE (R670): The selected self-tests, including the 1.0 ms FAULT_N pulse, end and the final reply is sent. -/
  | selftestComplete (passed : Nat)
  /-- PCLK_EDGE (R304): CP_PCLK edges return and PB_STAT.PCLK_OK becomes 1. -/
  | pclkEdge
  deriving DecidableEq, Repr

end Sys2Proof
end

