-- ==== Sys2Proof/Config.lean ====
section
/-!
DEFINITION. What the spec leaves open and the model leaves free: constants with no body, so that nothing can be proved of
their values. Each is named in a row of the assumption log.
-/

namespace Sys2Proof.Config

open Sys2Proof (Word Byte)

/-- The n-th free value: results that the spec does not state. -/
opaque freeWord : Nat → Word

/-- The ordering variant's mosaic code (R1, R50). -/
opaque mosaicCode : Nat

/-- ARR_ID.MOSAIC: 0 -BG, 1 -CB, 2 -IX, 3 -MN (R50). -/
def mosaic : Nat := mosaicCode % 4

/-- The bits of a register that the boot ROM takes from FACTORY_TRIM or SECURITY_CONFIG, by address, from the start-read
words of OTP; which OTP bit holds which trim is not disclosed. -/
opaque trim : Nat → Nat

/-- Which check bits each data bit of a Seating Plan context enters; the assignment is not disclosed (R184). -/
opaque ctxPick : Nat → Nat

/-- The frequency correction that the second-order loop of R95 asks for, in 2^-20 of 0.01 ppm, and its integral after that: from its
bandwidth in 1/1,000 Hz (R131), the fraction of an RP that it is to remove in TB units, the time since the mark before in units of
`clk`, its integral and the correction in force. The spec gives its order and bandwidth, not its damping. -/
opaque loopCorr : Nat → Int → Nat → Int → Int → Int × Int

/-- The words of FACTORY_TRIM and SECURITY_CONFIG that the factory programs, by address (R588, R615); not disclosed. -/
opaque otpFactory : Nat → Word

/-- The temperature of knot 0 and of knot 32 of HK.NTC after reset: the codes 0 and 4,096 lie outside the curve (R582). -/
opaque ntcEnd : Nat → Nat

/-- AES-256-CMAC with a key over a message: the 16 bytes of the tag (R614 and the head of its chapter). -/
opaque cmac : List Byte → List Byte → List Byte

/-- HKDF-SHA-256 of RFC 5869: input key, salt, info, and the number of bytes. -/
opaque hkdf : List Byte → List Byte → List Byte → Nat → List Byte

/-- SHA-256. -/
opaque sha256 : List Byte → List Byte

/-- (x mod (n - 1)) + 1 for the 40 bytes of x, with n the order of P-256 (R616). -/
opaque scalar : List Byte → List Byte

/-- The point d × G of P-256 in 64 bytes. -/
opaque pointOf : List Byte → List Byte

/-- The x-coordinate of ECDH on P-256: private scalar, peer point. -/
opaque ecdh : List Byte → List Byte → List Byte

/-- ECDSA P-256 verification: public key, SHA-256 digest, signature. -/
opaque ecdsaVerify : List Byte → List Byte → List Byte → Bool

/-- The AES key wrap of RFC 3394: wrapping key, key. -/
opaque keyWrap : List Byte → List Byte → List Byte

/-- Whether the merge finds motion where the expected noise of R147 is the root of a negative number: from twice the short
sample's code and its black. -/
opaque motionOpen : Nat → Rat → Bool

/-- The requests that the initiators make to the interconnect in a slot, as class less 1 and bytes; the traffic is its own (R17). -/
opaque icnTraffic : Nat → List (Nat × Nat)

/-- Whether the transaction at a place among those under way has its data, or its write acknowledged, in a slot (R20). -/
opaque icnEnds : Nat → Nat → Bool

/-- Whether the history data of row i of a frame's region has not arrived when the row is processed, at a time of `clk` (R269): class 1's
guaranteed share makes this a fault indication. -/
opaque historyLate : Nat → Nat → Bool

/-- The high-side on-time of a pulse that the control loop of switching output n asks for at a time of `clk`, in ns (R541). -/
opaque demand : Nat → Nat → Nat

/-- Where the period of the power die's own switching oscillator begins, in units of `clk` (R498). -/
opaque ownPhase : Nat

/-- The output of synthesiser n in HOLDOVER at a time of `clk`, as its distance in 0.01 ppm from where it was held (R526): it is clamped
to ±300 ppm, and to ±5 % where it is a ring. -/
opaque holdover : Nat → Nat → Int

/-- The level of LOCK_A where no comparison sets it, in HOLDOVER and while the synthesiser is OFF, at a time of `clk` (R529 states
none). -/
opaque lockPin : Nat → Bool

/-- The 1 MB units that the user area of the eMMC that is fitted has room for (R643). -/
opaque emmcUnits : Nat

/-- Whether a stage of a pipeline rounds an exact value up, where the spec bounds its error or states no rounding (R259). -/
opaque roundsUp : Nat → Rat → Bool

/-- A channel of the demosaic of a variant's mosaic, at a phase of the mosaic, from the pixels of its support row by row: the
weights of the gradients are not stated (R273). -/
opaque demosaic : Nat → Nat → Nat → Nat → List Rat → Rat

/-- A pixel of a bond-failed block between the nearest pixels of its colour left, right, above and below the block, each with its
distance where there is one: how the four share is not stated (R265). -/
opaque acrossBlock : List (Option (Nat × Rat)) → Rat

/-- A pixel that is to be corrected and has no usable neighbour, by frame and place (R265). -/
opaque lonePixel : Nat → Nat → Nat → Rat

/-- Whether the dynamic detector finds two values apart where the noise of R266 is the root of a negative number. -/
opaque noiseOpen : Rat → Rat → Bool

/-- The zone log-mean at a pixel between zones of which some have no pixel: the four with their shares, log-means and counts
(R278). -/
opaque openZone : List (Rat × Nat × Nat) → Rat

/-- One output of the scaler of display B from its six taps: input size, output size, position (R318). -/
opaque scaled : Nat → Nat → Nat → List Nat → Nat

/-- A byte of the JPEG XS codestream of a picture (Y, U, V by rows) at a rate in 1/16 bpp: the spec fixes its profile and its
length, not its bytes (R377 to R379). -/
opaque codeByte : List (List (Nat × Nat × Nat)) → Nat → Nat → Byte

end Sys2Proof.Config
end

