-- ==== Sys2Proof/Machine/Bits.lean ====
section
/-!
DEFINITION. Fields of words, signed values, byte order, the CRCs of R355, R356 and R415, and the exact forms of the square
root and of the logarithms that the spec's laws use.
-/

namespace Sys2Proof.Machine

open Sys2Proof (Word Byte)

/-- The word whose value is `n` modulo 2^32. -/
def w32 (n : Nat) : Word := BitVec.ofNat 32 n

/-- The byte whose value is `n` modulo 256. -/
def w8 (n : Nat) : Byte := BitVec.ofNat 8 n

/-- Bits [lo+len-1:lo] of `w`, as a number (R6). -/
def bits (w : Word) (lo len : Nat) : Nat := (w.toNat >>> lo) % 2 ^ len

/-- Bit `i` of `w`. -/
def bit (w : Word) (i : Nat) : Bool := w.toNat.testBit i

/-- `w` with bits [lo+len-1:lo] replaced by `v` modulo 2^len. -/
def putBits (w : Word) (lo len v : Nat) : Word :=
  let m := (2 ^ len - 1) <<< lo
  w32 ((w.toNat - (w.toNat &&& m)) ||| ((v % 2 ^ len) <<< lo))

/-- `n` with bit `i` at 0. -/
def clearBit (n i : Nat) : Nat := if n.testBit i then n - 2 ^ i else n

/-- `n` with bit `i` at 1. -/
def setBit (n i : Nat) : Nat := if n.testBit i then n else n + 2 ^ i

/-- The bits of `w` that the mask `m` does not name. -/
def clearMask (w : Word) (m : Nat) : Word := w &&& ~~~ (w32 m)

/-- The bits of `w` that the mask `m` names. -/
def keepMask (w : Word) (m : Nat) : Word := w &&& w32 m

/-- The number that `len` bits of value `v` stand for in two's complement. -/
def signed (len v : Nat) : Int := if v < 2 ^ (len - 1) then (v : Int) else (v : Int) - (2 ^ len : Nat)

/-- The low `len` bits of the two's complement form of `i`. -/
def unsigned (len : Nat) (i : Int) : Nat := (i % ((2 ^ len : Nat) : Int)).toNat

/-- A flag as one bit. -/
def flag (b : Bool) : Nat := if b then 1 else 0

/-- `v` limited to lo..hi. -/
def clampN (lo hi v : Nat) : Nat := if v < lo then lo else if hi < v then hi else v

/-- `v` limited to lo..hi. -/
def clampI (lo hi v : Int) : Int := if v < lo then lo else if hi < v then hi else v

/-- n / d to the nearest whole number, a tie going up; 0 where d is 0. -/
def roundUp (n d : Nat) : Nat := if d = 0 then 0 else (2 * n + d) / (2 * d)

/-- n / d to the nearest whole number, a tie going down; 0 where d is 0. -/
def roundDown (n d : Nat) : Nat := if d = 0 then 0 else (2 * n + d - 1) / (2 * d)

/-- n / d to the nearest whole number, ties away from zero; 0 where d is 0. -/
def roundI (n : Int) (d : Nat) : Int :=
  if n < 0 then - (roundUp n.natAbs d : Int) else (roundUp n.natAbs d : Int)

/-- ceil(n / d); 0 where d is 0. -/
def ceilDiv (n d : Nat) : Nat := if d = 0 then 0 else (n + d - 1) / d

/-- `f` applied `n` times. -/
def iter {α : Type} (f : α → α) : Nat → α → α
  | 0, x => x
  | n + 1, x => iter f n (f x)

/-- floor(sqrt n), found bit by bit from bit `k` down. -/
def isqrtFrom (n : Nat) : Nat → Nat → Nat
  | 0, r => r
  | k + 1, r =>
    let c := r + 2 ^ k
    isqrtFrom n k (if c * c ≤ n then c else r)

/-- floor(sqrt n). -/
def isqrt (n : Nat) : Nat := isqrtFrom n (n.log2 / 2 + 1) 0

/-- Bit search of `rootRound`: the largest r with (2·r - 1)^k · den ≤ 2^k · num, tried from bit `i` down. -/
def rootFrom (k num den : Nat) : Nat → Nat → Nat
  | 0, r => r
  | i + 1, r =>
    let c := r + 2 ^ i
    rootFrom k num den i (if (2 * c - 1) ^ k * den ≤ 2 ^ k * num then c else r)

/-- The nearest whole number to the k-th root of num / den, a tie going up, for results below 2^40. -/
def rootRound (k num den : Nat) : Nat := rootFrom k num den 40 0

/-- The four bytes of a word, least significant first (R6). -/
def wordBytes (w : Word) : List Byte :=
  [w.setWidth 8, (w >>> 8).setWidth 8, (w >>> 16).setWidth 8, (w >>> 24).setWidth 8]

/-- The word whose bytes are `a`, `b`, `c`, `d`, least significant first (R6). -/
def bytesWord (a b c d : Byte) : Word :=
  w32 (a.toNat + b.toNat * 2 ^ 8 + c.toNat * 2 ^ 16 + d.toNat * 2 ^ 24)

/-- One bit of a reflected CRC with polynomial `p`. -/
def crcBitR (p c : Nat) : Nat := if c % 2 = 1 then (c / 2) ^^^ p else c / 2

/-- One byte of the CRC-32C of R356: bit-reflected polynomial 0x1EDC_6F41. -/
def crc32cByte (c : Nat) (b : Byte) : Nat := iter (crcBitR 0x82F63B78) 8 (c ^^^ b.toNat)

/-- The CRC-32C of R356 over bytes in order. -/
def crc32cBytes (bs : List Byte) : Word := w32 ((bs.foldl crc32cByte 0xFFFFFFFF) ^^^ 0xFFFFFFFF)

/-- The CRC-32C of R356 over words, each least significant byte first. -/
def crc32c (ws : List Word) : Word := crc32cBytes (ws.flatMap wordBytes)

/-- One bit of the CRC-8 of R355: x^8 + x^2 + x + 1, most significant bit first. -/
def crc8Bit (c : Nat) : Nat := if 128 ≤ c then (c * 2 % 256) ^^^ 0x07 else c * 2

/-- The CRC-8 of R355 over bytes in order. -/
def crc8 (bs : List Byte) : Nat := bs.foldl (fun c b => iter crc8Bit 8 (c ^^^ b.toNat)) 0

/-- The log code of R269 and R340: the nearest whole number to 1,024 · log2 (y + 1), from the exact power (y + 1)^2048. -/
def logCode (y : Nat) : Nat := (Nat.log2 (2 * (y + 1) ^ 2048)) / 2

/-- floor (2 · log2 (a / b)) for a ≥ b > 0, else 0: the largest n with b² · 2^n ≤ a². -/
def floor2log (a b : Nat) : Nat := if b = 0 then 0 else Nat.log2 (a * a / (b * b))

/-- ceil (2 · log2 (a / b)) for a > b > 0, else 0. -/
def ceil2log (a b : Nat) : Nat :=
  let n := floor2log a b
  if b * b * 2 ^ n < a * a then n + 1 else n

/-- The nearest whole number to 2 · log2 (a / b) for a ≥ b > 0: the n for which 2·n - 1 ≤ 4 · log2 (a / b) < 2·n + 1. -/
def round2logUp (a b : Nat) : Nat := if b = 0 then 0 else (Nat.log2 (a ^ 4 / b ^ 4) + 1) / 2

/-- round (2 · log2 (a / b)), ties away from zero (R191); 0 where a or b is 0. -/
def round2log (a b : Nat) : Int :=
  if a = 0 ∨ b = 0 then 0
  else if b ≤ a then (round2logUp a b : Int)
  else - (round2logUp b a : Int)

end Sys2Proof.Machine
end

