-- ==== Sys2Proof/Machine/Blocks.lean ====
section
/-!
DEFINITION. The 130-bit blocks of the lanes: their payloads and CRC-16 (R413, R415 to R418, R430), and the scrambler of a lane (R414).
-/

namespace Sys2Proof.Machine

open Sys2Proof (Word)

/-- A block before it is scrambled (R413): a control block or a data block, with its 128 payload bits. -/
structure LaneBlock where
  ctl : Bool
  payload : Nat
  deriving DecidableEq, Repr

/-- A lane's transmitter: the last 58 scrambled bits, the newest in bit 0, and the 130 bits of the last block as sent, bit 0 first. -/
structure LaneTx where
  scr : Nat
  sent : Nat
  deriving DecidableEq, Repr

/-- One bit of the CRC-16 of R415. -/
def crc16Bit (c : Nat) (b : Bool) : Nat := (c * 2 % 65536) ^^^ (if (c.testBit 15 != b) then 0x1021 else 0)

/-- The CRC-16 of R415 over the low `n` bits of a number, bit 0 first. -/
def crc16 (n x : Nat) : Nat := (List.range n).foldl (fun c i => crc16Bit c (x.testBit i)) 0xFFFF

/-- A control block with its type and its fields in bits [111:8], closed by its CRC-16 (R415). -/
def ctlBlock (type fields : Nat) : LaneBlock :=
  let p := (type + fields * 2 ^ 8) % 2 ^ 112
  ⟨true, p + crc16 112 p * 2 ^ 112⟩

/-- IDLE (R415). -/
def idleBlock : LaneBlock := ctlBlock 0x1E 0

/-- The marker of a lane (R416). -/
def dskBlock (lane active rate mcount lseq : Nat) : LaneBlock :=
  ctlBlock 0x4B (lane + active % 16 * 2 ^ 2 + rate % 4 * 2 ^ 6 + mcount % 2 ^ 32 * 2 ^ 8 + lseq % 65536 * 2 ^ 40)

/-- The training block of a lane (R416). -/
def tsBlock (lane lanes rate cm1 cp1 tcount : Nat) : LaneBlock :=
  ctlBlock 0x55 (lane + lanes % 16 * 2 ^ 2 + rate % 4 * 2 ^ 6 + cm1 % 16 * 2 ^ 8 + cp1 % 32 * 2 ^ 12 + tcount % 65536 * 2 ^ 40 +
    tcount / 65536 % 2 ^ 32 * 2 ^ 56)

/-- LCHG with the new active mask and the LSEQ from which it replays (R430). -/
def lchgBlock (mask lseq : Nat) : LaneBlock := ctlBlock 0x66 (mask % 16 * 2 ^ 2 + lseq % 65536 * 2 ^ 24)

/-- RSYNC with the LSEQ of the oldest held packet (R429). -/
def rsyncBlock (lseq : Nat) : LaneBlock := ctlBlock 0x78 (lseq % 65536 * 2 ^ 8)

/-- The header block of a packet (R418). -/
def pktBlock (stream lseq : Nat) (ws : List Word) : LaneBlock :=
  ctlBlock 0x2D (stream % 256 + ws.length % 8192 * 2 ^ 8 + lseq % 65536 * 2 ^ 24 + (crc32c ws).toNat * 2 ^ 56)

/-- Words in data blocks of four, the last one padded with zero words (R413, R417). -/
def dataBlocks : List Word → List LaneBlock
  | [] => []
  | [a] => [⟨false, a.toNat⟩]
  | [a, b] => [⟨false, a.toNat + b.toNat * 2 ^ 32⟩]
  | [a, b, c] => [⟨false, a.toNat + b.toNat * 2 ^ 32 + c.toNat * 2 ^ 64⟩]
  | a :: b :: c :: d :: ws => ⟨false, a.toNat + b.toNat * 2 ^ 32 + c.toNat * 2 ^ 64 + d.toNat * 2 ^ 96⟩ :: dataBlocks ws

/-- The blocks of a packet (R417). -/
def packetBlocks (stream lseq : Nat) (ws : List Word) : List LaneBlock := pktBlock stream lseq ws :: dataBlocks ws

/-- One bit scrambled by x^58 + x^39 + 1 (R414), and the register after it. -/
def scrambleBit (scr : Nat) (b : Bool) : Bool × Nat :=
  let o := (b != scr.testBit 38) != scr.testBit 57
  (o, (scr * 2 + flag o) % 2 ^ 58)

/-- The low `n` bits of a payload scrambled from bit 0 on, and the register after them (R414). -/
def scramble (scr n x : Nat) : Nat × Nat :=
  (List.range n).foldl (fun p i => let q := scrambleBit p.2 (x.testBit i); (p.1 + flag q.1 * 2 ^ i, q.2)) (0, scr)

/-- A block sent by a lane (R413, R414): the sync header 0b01 or 0b10 in the clear, bit 0 first, then the scrambled payload. -/
def LaneTx.send (l : LaneTx) (b : LaneBlock) : LaneTx :=
  let p := scramble l.scr 128 b.payload
  ⟨p.2, (if b.ctl then 2 else 1) + p.1 * 4⟩

end Sys2Proof.Machine
end

