-- ==== Sys2Proof/Machine/Fields.lean ====
section
/-!
DEFINITION. The fields of the register tables, one name per field, as the spec's chapters list them: register address, lowest bit, width.
-/

namespace Sys2Proof.Machine

/-- A register field: address, lowest bit, width (R10). -/
structure Fld where
  addr : Nat
  lo : Nat
  len : Nat
  deriving DecidableEq, Repr

namespace F

def CMD_CRCERR_COUNT : Fld := ⟨0x0100, 0, 16⟩
def CMD_FRAMING_COUNT : Fld := ⟨0x0101, 0, 16⟩
def CMD_LENSKIP_COUNT : Fld := ⟨0x0102, 0, 16⟩
def CMD_CREDITVIOL_COUNT : Fld := ⟨0x0103, 0, 16⟩
def CMD_TAGCOL_COUNT : Fld := ⟨0x0104, 0, 16⟩
def CMD_UNKOP_COUNT : Fld := ⟨0x0105, 0, 16⟩
def CMD_STATE_COUNT : Fld := ⟨0x0106, 0, 16⟩
def CMD_SEQGAP_COUNT : Fld := ⟨0x0107, 0, 16⟩
def CMD_EVDROP_COUNT : Fld := ⟨0x0108, 0, 16⟩
def ARR_CTRL_LOFIC_EN : Fld := ⟨0x0301, 0, 1⟩
def ARR_CTRL_SG_HOLD : Fld := ⟨0x0301, 4, 1⟩
def ARR_BOND_FAIL_COUNT : Fld := ⟨0x0303, 0, 11⟩
def ARR_BOND_ARRAY_FAULT : Fld := ⟨0x0303, 31, 1⟩
def ARR_BONDLAST_PBX : Fld := ⟨0x0304, 0, 11⟩
def ARR_BONDLAST_PBY : Fld := ⟨0x0304, 16, 11⟩
def ARR_BONDLAST_VALID : Fld := ⟨0x0304, 31, 1⟩
def CNV_CTRL_DIRECT : Fld := ⟨0x0400, 0, 1⟩
def CNV_CTRL_TRACK_EN : Fld := ⟨0x0400, 1, 1⟩
def CNV_CTRL_REF_CHECK_EN : Fld := ⟨0x0400, 2, 1⟩
def CNV_RAMP_GAIN_HCG : Fld := ⟨0x0401, 0, 2⟩
def CNV_RAMP_GAIN_LCG : Fld := ⟨0x0401, 2, 2⟩
def CNV_RAMP_GAIN_LOFIC : Fld := ⟨0x0401, 4, 2⟩
def CNV_RAMP_GAIN_SHORT : Fld := ⟨0x0401, 6, 2⟩
def CNV_REFCHK_TOL : Fld := ⟨0x0404, 0, 8⟩
def CNV_REFCHK_FAIL_ROWS : Fld := ⟨0x0404, 8, 8⟩
def CNV_CAL_DONE : Fld := ⟨0x0405, 2, 1⟩
def CNV_CAL_ERR : Fld := ⟨0x0405, 3, 1⟩
def CNV_CAL_AVG_LOG2 : Fld := ⟨0x0405, 8, 4⟩
def CNV_BAD_FAULT : Fld := ⟨0x0406, 31, 1⟩
def CNV_INVCNT_COUNT : Fld := ⟨0x0408, 0, 16⟩
def CNV_REFFAIL_COUNT : Fld := ⟨0x0409, 0, 16⟩
def CNV_TRKSKIP_COUNT : Fld := ⟨0x040A, 0, 16⟩
def TT_CTRL_QUIET_EN : Fld := ⟨0x0200, 2, 1⟩
def TT_CTRL_LSTEP_EN : Fld := ⟨0x0200, 3, 1⟩
def TT_VTOTAL_VTOTAL : Fld := ⟨0x0203, 0, 16⟩
def TT_RLNOM_RL : Fld := ⟨0x0204, 0, 24⟩
def TT_REF_VTOTAL_RL : Fld := ⟨0x0205, 0, 16⟩
def TT_REF_D : Fld := ⟨0x0205, 16, 2⟩
def TT_REF_M : Fld := ⟨0x0205, 24, 8⟩
def TT_CHASE_EXC : Fld := ⟨0x0206, 0, 8⟩
def TT_CHASE_GUARD : Fld := ⟨0x0206, 8, 8⟩
def TT_CHASE_H : Fld := ⟨0x0206, 16, 16⟩
def TT_LEAD_LEAD : Fld := ⟨0x0207, 0, 32⟩
def TT_LOCKCFG_BW : Fld := ⟨0x020A, 0, 3⟩
def TT_LOCKCFG_JUMP_TH : Fld := ⟨0x020A, 8, 8⟩
def TT_LOCKCFG_ACQ_TO : Fld := ⟨0x020A, 16, 16⟩
def TT_APPLYFN_FN : Fld := ⟨0x020C, 0, 32⟩
def TT_MARKERR_DISCARD : Fld := ⟨0x0210, 0, 12⟩
def TT_MARKERR_MISSED : Fld := ⟨0x0210, 12, 12⟩
def TT_MARKERR_JUMPS : Fld := ⟨0x0210, 24, 7⟩
def TT_QUIET_NSYNC : Fld := ⟨0x0211, 0, 5⟩
def TT_STROBE_MODE : Fld := ⟨0x0212, 0, 2⟩
def TT_STROBE_POL : Fld := ⟨0x0212, 2, 1⟩
def TT_STROBE_PERIOD : Fld := ⟨0x0212, 4, 4⟩
def TT_STROBE_PHASE : Fld := ⟨0x0212, 8, 4⟩
def TT_SYNC_EN : Fld := ⟨0x0213, 0, 1⟩
def TT_SYNC_POL : Fld := ⟨0x0213, 1, 1⟩
def TT_SYNC_WIDTH : Fld := ⟨0x0213, 8, 8⟩
def EXP_CTRL_AE_EN : Fld := ⟨0x0500, 0, 1⟩
def EXP_CTRL_PROFILE : Fld := ⟨0x0500, 1, 2⟩
def EXP_CTRL_RATIO_AUTO : Fld := ⟨0x0500, 3, 1⟩
def EXP_SAMPLES_MASK : Fld := ⟨0x0501, 0, 4⟩
def EXP_TL_SLOTS : Fld := ⟨0x0502, 0, 20⟩
def EXP_RATIO_Q : Fld := ⟨0x0503, 0, 4⟩
def EXP_RATIO_QMIN : Fld := ⟨0x0503, 8, 4⟩
def EXP_RATIO_QMAX : Fld := ⟨0x0503, 12, 4⟩
def EXP_MOTION_K : Fld := ⟨0x0507, 0, 8⟩
def EXP_MOTION_PREF : Fld := ⟨0x0507, 8, 2⟩
def EXP_MOTION_SATFLOOR : Fld := ⟨0x0507, 10, 1⟩
def EXP_FLICKER_MAINS_EN : Fld := ⟨0x0508, 0, 1⟩
def EXP_FLICKER_MAINS_HZ : Fld := ⟨0x0508, 1, 1⟩
def EXP_FLICKER_LED_EN : Fld := ⟨0x0508, 2, 1⟩
def EXP_FLICKER_LED_SCOPE : Fld := ⟨0x0508, 3, 1⟩
def EXP_FLICKER_LED_HOLD : Fld := ⟨0x0508, 4, 8⟩
def EXP_FLICKER_CONFLICT : Fld := ⟨0x0508, 12, 1⟩
def EXP_FLICKER_LED_TLMIN : Fld := ⟨0x0508, 16, 16⟩
def EXP_AE_CFG_SPEED : Fld := ⟨0x0509, 0, 4⟩
def EXP_AE_CFG_HYST : Fld := ⟨0x0509, 4, 4⟩
def EXP_AE_CFG_METER : Fld := ⟨0x0509, 8, 2⟩
def EXP_AE_TARGET_TARGET : Fld := ⟨0x050A, 0, 16⟩
def EXP_AE_TLMAX_TLMAX : Fld := ⟨0x050B, 0, 20⟩
def EXP_AE_TLMAX_GMAX : Fld := ⟨0x050B, 20, 2⟩
def EXP_CUR_MASK : Fld := ⟨0x050C, 0, 4⟩
def EXP_CUR_Q : Fld := ⟨0x050C, 4, 4⟩
def EXP_CUR_KCAP : Fld := ⟨0x050C, 8, 4⟩
def EXP_CUR_DSHORT_HI : Fld := ⟨0x050C, 12, 4⟩
def EXP_CUR_DSHORT_LO : Fld := ⟨0x050C, 16, 8⟩
def EXP_CUR_ERR : Fld := ⟨0x050C, 31, 1⟩
def EXP_CURTL_TL : Fld := ⟨0x050D, 0, 20⟩
def EXP_MOTCNT_COUNT : Fld := ⟨0x050E, 0, 24⟩
def SEQ_STAT_LEN : Fld := ⟨0x0600, 0, 7⟩
def SEQ_STAT_ENTRY : Fld := ⟨0x0600, 8, 6⟩
def SEQ_STAT_PASSES : Fld := ⟨0x0600, 16, 16⟩
def SEQ_LOOPS_LOOPS : Fld := ⟨0x0601, 0, 16⟩
def SEQ_LOOPS_FIRST : Fld := ⟨0x0601, 16, 6⟩
def SEQ_CTRL_WHEN : Fld := ⟨0x0602, 2, 2⟩
def SEQ_CTRL_ERR : Fld := ⟨0x0602, 8, 8⟩
def SEQ_CTRL_ERR_ENTRY : Fld := ⟨0x0602, 16, 6⟩
def SP_CTRL_EN : Fld := ⟨0x0700, 0, 1⟩
def SP_CTRL_ACTION : Fld := ⟨0x0700, 1, 2⟩
def SP_CTRL_AE_COMP : Fld := ⟨0x0700, 3, 1⟩
def SP_CTRL_FORCE_K : Fld := ⟨0x0700, 4, 4⟩
def SP_LAW_SPATIAL : Fld := ⟨0x0701, 0, 4⟩
def SP_LAW_TEMPORAL : Fld := ⟨0x0701, 4, 4⟩
def SP_LAW_KMAX : Fld := ⟨0x0701, 8, 4⟩
def SP_LAW_RANK : Fld := ⟨0x0701, 12, 2⟩
def SP_LAW_DNDELAY : Fld := ⟨0x0701, 14, 2⟩
def SP_LAW_TOP : Fld := ⟨0x0701, 16, 12⟩
def SP_BAND_BAND : Fld := ⟨0x0702, 0, 6⟩
def SP_STAT_MASKGEN : Fld := ⟨0x0703, 8, 8⟩
def SP_ECC_CORR : Fld := ⟨0x0705, 0, 16⟩
def SP_ECC_UNCORR : Fld := ⟨0x0705, 16, 8⟩
def SP_ECHO_MISMATCH : Fld := ⟨0x0707, 0, 16⟩
def SP_ECHO_PERR : Fld := ⟨0x0707, 16, 8⟩
def SP_FAULT_UNCORR_TH : Fld := ⟨0x0708, 0, 8⟩
def SP_FAULT_ECHO_TH : Fld := ⟨0x0708, 8, 8⟩
def SP_FAULT_FAULT : Fld := ⟨0x0708, 31, 1⟩
def WIN_ERR_REASON : Fld := ⟨0x0801, 0, 8⟩
def WIN_ERR_INDEX : Fld := ⟨0x0801, 8, 4⟩
def WIN_ERR_VALID : Fld := ⟨0x0801, 31, 1⟩
def WIN_BIN_MODE : Fld := ⟨0x0802, 0, 2⟩
def BEL_CFG_SRC : Fld := ⟨0x0900, 0, 2⟩
def BEL_CFG_EDGE : Fld := ⟨0x0900, 2, 1⟩
def BEL_CFG_UNIT : Fld := ⟨0x0900, 3, 1⟩
def BEL_CFG_MINW : Fld := ⟨0x0900, 8, 8⟩
def BEL_CFG_DELAY : Fld := ⟨0x0900, 16, 16⟩
def BEL_STAT_LATE : Fld := ⟨0x0901, 3, 1⟩
def BEL_DROP_COUNT : Fld := ⟨0x0902, 0, 16⟩
def BEL_TAKEN_COUNT : Fld := ⟨0x0903, 0, 16⟩
def BEL_LAT_SLOTS : Fld := ⟨0x0906, 0, 24⟩
def PA_CTRL_DEFECT_EN : Fld := ⟨0x0A00, 0, 1⟩
def PA_CTRL_DYN_EN : Fld := ⟨0x0A00, 1, 1⟩
def PA_CTRL_TNR_EN : Fld := ⟨0x0A00, 2, 1⟩
def PA_CTRL_LIN_EN : Fld := ⟨0x0A00, 3, 1⟩
def PA_CTRL_AWB_EN : Fld := ⟨0x0A00, 4, 1⟩
def PA_CTRL_IR_MODE : Fld := ⟨0x0A00, 5, 2⟩
def PA_CTRL_YUV_MTX : Fld := ⟨0x0A00, 7, 1⟩
def PA_CTRL_RANGE : Fld := ⟨0x0A00, 8, 1⟩
def PA_STAT_SETTLE : Fld := ⟨0x0A01, 0, 2⟩
def PA_STAT_BLC_HOLD : Fld := ⟨0x0A01, 2, 1⟩
def PA_STAT_LIT : Fld := ⟨0x0A01, 3, 1⟩
def PA_STAT_SW : Fld := ⟨0x0A01, 8, 9⟩
def PA_STAT_ERR : Fld := ⟨0x0A01, 23, 1⟩
def PA_STAT_REASON : Fld := ⟨0x0A01, 24, 8⟩
def PA_BLC_ALPHA : Fld := ⟨0x0A02, 0, 3⟩
def PA_BLC_ROWCORR : Fld := ⟨0x0A02, 3, 1⟩
def PA_BLC_OUTLIER : Fld := ⟨0x0A02, 8, 8⟩
def PA_DEFECT_LEN : Fld := ⟨0x0A07, 0, 14⟩
def PA_DEFECT_DYN_K : Fld := ⟨0x0A07, 16, 8⟩
def PA_DEFCNT_COUNT : Fld := ⟨0x0A08, 0, 24⟩
def PA_TNR_STRENGTH : Fld := ⟨0x0A09, 0, 3⟩
def PA_TNR_MK_LO : Fld := ⟨0x0A09, 4, 8⟩
def PA_TNR_MK_HI : Fld := ⟨0x0A09, 12, 8⟩
def PA_TNR_RESET : Fld := ⟨0x0A09, 31, 1⟩
def PA_TNRMISS_COUNT : Fld := ⟨0x0A0A, 0, 16⟩
def PA_WB0_GR : Fld := ⟨0x0A0B, 0, 16⟩
def PA_WB0_GG : Fld := ⟨0x0A0B, 16, 16⟩
def PA_WB1_GB : Fld := ⟨0x0A0C, 0, 16⟩
def PA_WB1_GI : Fld := ⟨0x0A0C, 16, 16⟩
def PA_IRSUB_A_R : Fld := ⟨0x0A12, 0, 8⟩
def PA_IRSUB_A_G : Fld := ⟨0x0A12, 8, 8⟩
def PA_IRSUB_A_B : Fld := ⟨0x0A12, 16, 8⟩
def PA_DGAIN_GAIN : Fld := ⟨0x0A13, 0, 16⟩
def PA_TONE_LOG_MIN : Fld := ⟨0x0A14, 0, 16⟩
def PA_TONE_LTM_STR : Fld := ⟨0x0A14, 16, 5⟩
def PB_CTRL_EN : Fld := ⟨0x0B00, 0, 1⟩
def PB_CTRL_DYN_EN : Fld := ⟨0x0B00, 1, 1⟩
def PB_CTRL_LIN_EN : Fld := ⟨0x0B00, 2, 1⟩
def PB_CTRL_YUV_MTX : Fld := ⟨0x0B00, 5, 1⟩
def PB_CTRL_RANGE : Fld := ⟨0x0B00, 6, 1⟩
def PB_CFN_CFN : Fld := ⟨0x0B03, 0, 32⟩
def PB_OUT_OUT_W : Fld := ⟨0x0B05, 0, 12⟩
def PB_OUT_OUT_H : Fld := ⟨0x0B05, 16, 12⟩
def PB_DROP_LATE_COUNT : Fld := ⟨0x0B06, 0, 16⟩
def PB_DROP_FIFO_COUNT : Fld := ⟨0x0B07, 0, 16⟩
def PB_DROP_FORMAT_COUNT : Fld := ⟨0x0B08, 0, 16⟩
def PB_DROP_SUPER_COUNT : Fld := ⟨0x0B09, 0, 16⟩
def PB_I2CERR_NACK : Fld := ⟨0x0B0A, 0, 8⟩
def PB_I2CERR_STRETCH_TO : Fld := ⟨0x0B0A, 8, 8⟩
def PB_I2CERR_LATE : Fld := ⟨0x0B0A, 16, 8⟩
def PB_VSTB_LO_TB : Fld := ⟨0x0B0C, 0, 32⟩
def PB_DGAIN_GAIN : Fld := ⟨0x0B17, 0, 16⟩
def PB_TONE_LOG_MIN : Fld := ⟨0x0B18, 0, 16⟩
def STA_CFG_PUSH_GRID : Fld := ⟨0x0C00, 0, 1⟩
def STA_CFG_PUSH_HIST : Fld := ⟨0x0C00, 1, 1⟩
def STA_CFG_PUSH_ROWPROF : Fld := ⟨0x0C00, 2, 1⟩
def STA_CFG_PUSH_BGRID : Fld := ⟨0x0C00, 3, 1⟩
def STA_ROI_ZX0 : Fld := ⟨0x0C01, 0, 6⟩
def STA_ROI_ZY0 : Fld := ⟨0x0C01, 6, 6⟩
def STA_ROI_ZW : Fld := ⟨0x0C01, 12, 7⟩
def STA_ROI_ZH : Fld := ⟨0x0C01, 19, 7⟩
def STA_TAGERR_COUNT : Fld := ⟨0x0C05, 0, 16⟩
def STA_LATECUT_COUNT : Fld := ⟨0x0C06, 0, 16⟩
def STA_PUSHDROP_COUNT : Fld := ⟨0x0C07, 0, 16⟩
def OUT_ROUTE_DISPA : Fld := ⟨0x0D00, 0, 1⟩
def OUT_ROUTE_DISPB : Fld := ⟨0x0D00, 1, 1⟩
def OUT_ROUTE_CODE : Fld := ⟨0x0D00, 2, 1⟩
def OUT_ROUTE_VIS : Fld := ⟨0x0D00, 3, 1⟩
def OUT_DFMT_FORMAT : Fld := ⟨0x0D01, 0, 2⟩
def OUT_DFMT_ORIENT : Fld := ⟨0x0D01, 2, 2⟩
def OUT_DFMT_MESH_EN : Fld := ⟨0x0D01, 4, 1⟩
def OUT_DFMT_FALLBACK : Fld := ⟨0x0D01, 5, 1⟩
def OUT_DSIZE_OUT_W : Fld := ⟨0x0D02, 0, 13⟩
def OUT_DSIZE_OUT_H : Fld := ⟨0x0D02, 16, 13⟩
def OUT_CROP0_CX0 : Fld := ⟨0x0D03, 0, 12⟩
def OUT_CROP0_CY0 : Fld := ⟨0x0D03, 16, 12⟩
def OUT_CROP1_CW : Fld := ⟨0x0D04, 0, 13⟩
def OUT_CROP1_CH : Fld := ⟨0x0D04, 16, 13⟩
def OUT_CODE_BPP : Fld := ⟨0x0D05, 0, 7⟩
def OUT_CODE_REC_BPP : Fld := ⟨0x0D05, 8, 7⟩
def OUT_VIS_MODE : Fld := ⟨0x0D06, 0, 1⟩
def OUT_VIS_DEPTH : Fld := ⟨0x0D06, 1, 2⟩
def OUT_VIS_CURVE : Fld := ⟨0x0D06, 3, 2⟩
def OUT_VIS_SHIFT : Fld := ⟨0x0D06, 5, 5⟩
def OUT_VIS_SAMPLESEL : Fld := ⟨0x0D06, 10, 4⟩
def OUT_VIS_SIDE : Fld := ⟨0x0D06, 14, 1⟩
def OUT_SHED_GROUPS : Fld := ⟨0x0D08, 0, 4⟩
def OUT_SHED_FALLBACK : Fld := ⟨0x0D08, 4, 1⟩
def OUT_STAT_ERR : Fld := ⟨0x0D09, 23, 1⟩
def OUT_STAT_REASON : Fld := ⟨0x0D09, 24, 8⟩
def OUT_ABORT_COUNT : Fld := ⟨0x0D0A, 0, 16⟩
def OUT_SLIP_COUNT : Fld := ⟨0x0D0B, 0, 16⟩
def OUT_REPEAT_COUNT : Fld := ⟨0x0D0C, 0, 16⟩
def LNK_CFG_RATE : Fld := ⟨0x0E00, 0, 2⟩
def LNK_CFG_LANES : Fld := ⟨0x0E00, 4, 4⟩
def LNK_STAT_REPLAY_OVF : Fld := ⟨0x0E01, 14, 1⟩
def LNK_STAT_ERR : Fld := ⟨0x0E01, 15, 1⟩
def LNK_STAT_REASON : Fld := ⟨0x0E01, 16, 8⟩
def LNK_BCEQ_CTLE : Fld := ⟨0x0E07, 0, 4⟩
def LNK_BCEQ_H1 : Fld := ⟨0x0E07, 4, 7⟩
def LNK_BCEQ_H2 : Fld := ⟨0x0E07, 11, 7⟩
def LNK_BCEQ_H3 : Fld := ⟨0x0E07, 18, 7⟩
def LNK_BCEQ_H4 : Fld := ⟨0x0E07, 25, 7⟩
def LNK_BCCLAMP_WIN : Fld := ⟨0x0E08, 0, 5⟩
def LNK_BCCLAMP_EYE_MIN : Fld := ⟨0x0E08, 5, 8⟩
def LNK_BCCLAMP_ADAPT_EN : Fld := ⟨0x0E08, 13, 1⟩
def LNK_EYE_HEIGHT : Fld := ⟨0x0E09, 0, 8⟩
def LNK_EYE_WIDTH : Fld := ⟨0x0E09, 8, 8⟩
def LNK_EYE_FROZEN : Fld := ⟨0x0E09, 16, 1⟩
def LNK_EYE_DENS : Fld := ⟨0x0E09, 24, 8⟩
def LNK_TIMER_TRAIN_TO : Fld := ⟨0x0E0A, 0, 8⟩
def LNK_TIMER_READD_S : Fld := ⟨0x0E0A, 8, 8⟩
def LNK_TIMER_SILENT_MS : Fld := ⟨0x0E0A, 16, 8⟩
def LNK_BCCODE_COUNT : Fld := ⟨0x0E10, 0, 16⟩
def LNK_IDLEERR_COUNT : Fld := ⟨0x0E11, 0, 16⟩
def LNK_MARKCRC_COUNT : Fld := ⟨0x0E12, 0, 16⟩
def LNK_LSTCRC_COUNT : Fld := ⟨0x0E13, 0, 16⟩
def LNK_LONGFRM_COUNT : Fld := ⟨0x0E14, 0, 16⟩
def LNK_REPLAYS_COUNT : Fld := ⟨0x0E15, 0, 16⟩
def LNK_DEGRADES_COUNT : Fld := ⟨0x0E16, 0, 16⟩
def LNK_UNRECOV_COUNT : Fld := ⟨0x0E17, 0, 16⟩
def LNK_PRBSSEL_TARGET : Fld := ⟨0x0E18, 0, 4⟩
def LNK_TEST_DURATION : Fld := ⟨0x0E1C, 16, 16⟩
def LNK_LOOP_MODE : Fld := ⟨0x0E1D, 0, 2⟩
def CLK_CFG_REFSRC : Fld := ⟨0x0F00, 0, 1⟩
def CLK_CFG_LOCKSEL : Fld := ⟨0x0F00, 2, 2⟩
def CLK_CFG_REF_KHZ : Fld := ⟨0x0F00, 8, 16⟩
def CLK_STAT_ERR : Fld := ⟨0x0F01, 23, 1⟩
def CLK_STAT_REASON : Fld := ⟨0x0F01, 24, 8⟩
def CLK_OUT0_KHZ : Fld := ⟨0x0F02, 0, 20⟩
def CLK_OUT0_RUN : Fld := ⟨0x0F02, 20, 1⟩
def CLK_OUT0_LEVEL : Fld := ⟨0x0F02, 21, 1⟩
def CLK_OUT0_FOLLOW : Fld := ⟨0x0F02, 22, 1⟩
def CLK_OUT0_DRIVE : Fld := ⟨0x0F02, 23, 2⟩
def CLK_OUT1_SRC : Fld := ⟨0x0F03, 0, 2⟩
def CLK_OUT1_POL : Fld := ⟨0x0F03, 3, 1⟩
def CLK_OUT1_DIV : Fld := ⟨0x0F03, 8, 8⟩
def CLK_REFLOSS_COUNT : Fld := ⟨0x0F04, 0, 16⟩
def PWR_STAT_VCMD_TO : Fld := ⟨0x1000, 18, 1⟩
def PWR_STAT_ERR : Fld := ⟨0x1000, 19, 1⟩
def PWR_STAT_REASON : Fld := ⟨0x1000, 24, 8⟩
def PWR_CORE_VSET : Fld := ⟨0x1001, 0, 7⟩
def PWR_CORE_VMIN : Fld := ⟨0x1001, 8, 7⟩
def PWR_CORE_SLEW : Fld := ⟨0x1001, 16, 3⟩
def PWR_CORE_FSW_KHZ : Fld := ⟨0x1001, 20, 11⟩
def PWR_VCMP_CODE : Fld := ⟨0x1002, 0, 8⟩
def PWR_VCMP_OWNER : Fld := ⟨0x1002, 9, 1⟩
def PWR_VCMP_LAST_TID : Fld := ⟨0x1002, 16, 4⟩
def PWR_VCMP_LAST_ST : Fld := ⟨0x1002, 20, 4⟩
def PWR_SHED_ACTIVE : Fld := ⟨0x1003, 0, 4⟩
def PWR_SHED_SHED_EN : Fld := ⟨0x1003, 4, 1⟩
def PWR_SHED_SHED_MA : Fld := ⟨0x1003, 8, 8⟩
def PWR_SHED_READD_MA : Fld := ⟨0x1003, 16, 8⟩
def PWR_SHED_HOLD : Fld := ⟨0x1003, 24, 8⟩
def PWR_RECESS_STBY : Fld := ⟨0x1004, 0, 1⟩
def PWR_STG_WARN : Fld := ⟨0x1005, 0, 8⟩
def PWR_STG_SHUT : Fld := ⟨0x1005, 8, 8⟩
def PWR_STG_TEMP : Fld := ⟨0x1005, 16, 16⟩
def PWR_HICCUP_COUNT : Fld := ⟨0x1006, 0, 16⟩
def HK_STAT_FAST_US : Fld := ⟨0x1101, 1, 6⟩
def HK_STAT_ERR : Fld := ⟨0x1101, 23, 1⟩
def HK_STAT_REASON : Fld := ⟨0x1101, 24, 8⟩
def HK_URGDROP_COUNT : Fld := ⟨0x1102, 0, 16⟩
def HK_PLAUS_THR : Fld := ⟨0x1103, 0, 8⟩
def HK_PLAUS_N : Fld := ⟨0x1103, 8, 4⟩
def HK_PLAUS_TS_DIFF : Fld := ⟨0x1103, 12, 8⟩
def HK_PLAUSCNT_COUNT : Fld := ⟨0x1104, 0, 16⟩
def THM_CFG_WARN : Fld := ⟨0x1200, 0, 7⟩
def THM_CFG_GRACE : Fld := ⟨0x1200, 8, 7⟩
def THM_CFG_ENF2_S : Fld := ⟨0x1200, 16, 8⟩
def THM_STAT_SENS_FAIL : Fld := ⟨0x1201, 3, 10⟩
def THM_STAT_ERR : Fld := ⟨0x1201, 23, 1⟩
def THM_STAT_REASON : Fld := ⟨0x1201, 24, 8⟩
def THM_MAX_TMAX : Fld := ⟨0x1202, 0, 16⟩
def THM_MAX_SRC : Fld := ⟨0x1202, 16, 4⟩
def THM_MAX_RATE : Fld := ⟨0x1202, 20, 12⟩
def THM_PEAK_PEAK : Fld := ⟨0x1203, 0, 16⟩
def THM_HTR_EN : Fld := ⟨0x1204, 0, 1⟩
def THM_HTRSTAT_ONTIME : Fld := ⟨0x1205, 0, 11⟩
def THM_HTRSTAT_NTC_FAULT : Fld := ⟨0x1205, 11, 1⟩
def THM_HTRSTAT_ILIM_CNT : Fld := ⟨0x1205, 16, 8⟩
def OTP_STAT_FT : Fld := ⟨0x1300, 0, 3⟩
def OTP_STAT_SC : Fld := ⟨0x1300, 3, 3⟩
def OTP_STAT_RS : Fld := ⟨0x1300, 6, 3⟩
def OTP_STAT_CC : Fld := ⟨0x1300, 9, 3⟩
def OTP_STAT_RUNTIME_FAIL : Fld := ⟨0x1300, 13, 1⟩
def OTP_LOCK_RS_WL : Fld := ⟨0x1302, 2, 1⟩
def OTP_LOCK_CNT_WL : Fld := ⟨0x1302, 4, 1⟩
def OTP_LOCK_PROG_DIS : Fld := ⟨0x1302, 5, 1⟩
def OTP_MARGCNT_COUNT : Fld := ⟨0x1304, 0, 11⟩
def OTP_FW_VERSION_VALUE : Fld := ⟨0x1306, 0, 8⟩
def OTP_KEY_EPOCH_VALUE : Fld := ⟨0x1307, 0, 5⟩
def OTP_KEY_EPOCH_REVOKE : Fld := ⟨0x1307, 8, 3⟩
def SEC_STAT_NO_IDENTITY : Fld := ⟨0x1400, 3, 1⟩
def SEC_STAT_ERASED : Fld := ⟨0x1400, 4, 1⟩
def SEC_STAT_RNG_OK : Fld := ⟨0x1400, 5, 1⟩
def SEC_SESSID_ID : Fld := ⟨0x1401, 0, 32⟩
def SEC_LIVE_CFG : Fld := ⟨0x1402, 0, 10⟩
def SEC_QUIZ_PERIOD : Fld := ⟨0x1403, 0, 8⟩
def SEC_QUIZ_NBLK : Fld := ⟨0x1403, 8, 3⟩
def SEC_QUIZ_QTOL : Fld := ⟨0x1403, 16, 8⟩
def SEC_ALARM_LVL_LOCK : Fld := ⟨0x1405, 31, 1⟩
def SEC_AUTHFAIL_COUNT : Fld := ⟨0x1406, 0, 16⟩
def SEC_QUIZFAIL_COUNT : Fld := ⟨0x1407, 0, 16⟩
def SEC_ALARMCNT_COUNT : Fld := ⟨0x1408, 0, 16⟩
def SEC_LASTNONCE_NONCE_ID : Fld := ⟨0x1409, 0, 16⟩
def REC_CFG_EN : Fld := ⟨0x1500, 0, 1⟩
def REC_CFG_RING : Fld := ⟨0x1500, 1, 1⟩
def REC_CFG_FAULT_EVT : Fld := ⟨0x1500, 2, 1⟩
def REC_CFG_CB_MB : Fld := ⟨0x1500, 4, 6⟩
def REC_CFG_READ_RATE : Fld := ⟨0x1500, 16, 6⟩
def REC_CLIP_PRE_MS : Fld := ⟨0x1501, 0, 16⟩
def REC_CLIP_POST_MS : Fld := ⟨0x1501, 16, 16⟩
def REC_STAT_WEAR_WARN : Fld := ⟨0x1502, 8, 1⟩
def REC_STAT_ERR : Fld := ⟨0x1502, 23, 1⟩
def REC_STAT_REASON : Fld := ⟨0x1502, 24, 8⟩
def REC_RINGDROP_COUNT : Fld := ⟨0x1508, 0, 16⟩
def REC_TORN_COUNT : Fld := ⟨0x1509, 0, 16⟩
def REC_IOERR_COUNT : Fld := ⟨0x150A, 0, 16⟩
def SAF_FNMAP_OPTIONAL : Fld := ⟨0x1602, 12, 9⟩
def SAF_WDOG_TIMEOUT : Fld := ⟨0x1603, 0, 16⟩
def SAF_WDOG_LOCK : Fld := ⟨0x1603, 31, 1⟩
def SAF_DSTALL_FRAMES : Fld := ⟨0x1604, 0, 4⟩
def SAF_RESTARTS_COUNT : Fld := ⟨0x1605, 0, 16⟩

end F

namespace R

def SYS_ID : Nat := 0x0000
def SYS_MODE : Nat := 0x0001
def SYS_STAT : Nat := 0x0002
def SYS_UID_LO : Nat := 0x0003
def SYS_UID_HI : Nat := 0x0004
def SYS_POC : Nat := 0x0005
def SYS_CTRL : Nat := 0x0006
def SYS_WAIT1 : Nat := 0x0010
def CMD_FRAMING : Nat := 0x0101
def CMD_LASTSEQ : Nat := 0x0109
def CMD_BUSY : Nat := 0x010A
def CMD_CREDREL : Nat := 0x010B
def CMD_EVMASK : Nat := 0x010C
def ARR_ID : Nat := 0x0300
def ARR_CTRL : Nat := 0x0301
def ARR_BARRIER : Nat := 0x0302
def CNV_CTRL : Nat := 0x0400
def CNV_RAMP : Nat := 0x0401
def CNV_PED : Nat := 0x0402
def CNV_RTRIM : Nat := 0x0403
def CNV_CAL : Nat := 0x0405
def CNV_BAD : Nat := 0x0406
def CNV_BADLAST : Nat := 0x0407
def TT_CTRL : Nat := 0x0200
def TT_STAT : Nat := 0x0201
def TT_RP : Nat := 0x0202
def TT_VTOTAL : Nat := 0x0203
def TT_REF : Nat := 0x0205
def TT_CHASE : Nat := 0x0206
def TT_LEAD : Nat := 0x0207
def TT_PHASE : Nat := 0x0208
def TT_FREQ : Nat := 0x0209
def TT_COMMIT : Nat := 0x020B
def TT_APPLYFN : Nat := 0x020C
def TT_TB_LO : Nat := 0x020D
def TT_TB_HI : Nat := 0x020E
def TT_FN : Nat := 0x020F
def TT_STROBE : Nat := 0x0212
def EXP_CTRL : Nat := 0x0500
def EXP_SAMPLES : Nat := 0x0501
def EXP_TL : Nat := 0x0502
def EXP_RATIO : Nat := 0x0503
def EXP_MTH_HCG : Nat := 0x0504
def EXP_MTH_LCG : Nat := 0x0505
def EXP_MTH_LOFIC : Nat := 0x0506
def EXP_MOTION : Nat := 0x0507
def EXP_FLICKER : Nat := 0x0508
def EXP_AE_CFG : Nat := 0x0509
def EXP_AE_TARGET : Nat := 0x050A
def EXP_AE_TLMAX : Nat := 0x050B
def EXP_CUR : Nat := 0x050C
def SEQ_STAT : Nat := 0x0600
def SEQ_CTRL : Nat := 0x0602
def SP_CTRL : Nat := 0x0700
def SP_LAW : Nat := 0x0701
def SP_BAND : Nat := 0x0702
def SP_STAT : Nat := 0x0703
def SP_KSUM : Nat := 0x0704
def SP_ECC : Nat := 0x0705
def SP_ECCLAST : Nat := 0x0706
def SP_ECHO : Nat := 0x0707
def SP_FAULT : Nat := 0x0708
def SP_MAPFN : Nat := 0x0709
def WIN_STAT : Nat := 0x0800
def WIN_BIN : Nat := 0x0802
def BEL_CFG : Nat := 0x0900
def BEL_STAT : Nat := 0x0901
def BEL_LAST_LO : Nat := 0x0904
def BEL_LAST_HI : Nat := 0x0905
def PA_CTRL : Nat := 0x0A00
def PA_BLC : Nat := 0x0A02
def PA_BLACK0 : Nat := 0x0A03
def PA_DEFECT : Nat := 0x0A07
def PA_TNR : Nat := 0x0A09
def PA_WB0 : Nat := 0x0A0B
def PA_WB1 : Nat := 0x0A0C
def PA_CCM0 : Nat := 0x0A0D
def PA_CCM1 : Nat := 0x0A0E
def PA_CCM2 : Nat := 0x0A0F
def PA_CCM3 : Nat := 0x0A10
def PA_CCM4 : Nat := 0x0A11
def PA_IRSUB : Nat := 0x0A12
def PA_DGAIN : Nat := 0x0A13
def PA_TONE : Nat := 0x0A14
def PB_CTRL : Nat := 0x0B00
def PB_STAT : Nat := 0x0B01
def PB_SIZE : Nat := 0x0B02
def PB_APPLYCFN : Nat := 0x0B04
def PB_OUT : Nat := 0x0B05
def PB_I2CERR : Nat := 0x0B0A
def PB_I2CLAST : Nat := 0x0B0B
def PB_VSTB_LO : Nat := 0x0B0C
def PB_VSTB_HI : Nat := 0x0B0D
def PB_CCM0 : Nat := 0x0B10
def PB_WB0 : Nat := 0x0B15
def PB_DGAIN : Nat := 0x0B17
def PB_TONE : Nat := 0x0B18
def STA_CFG : Nat := 0x0C00
def STA_ROI : Nat := 0x0C01
def STA_STAT : Nat := 0x0C02
def STA_LASTFN : Nat := 0x0C03
def STA_LASTCFN : Nat := 0x0C04
def OUT_ROUTE : Nat := 0x0D00
def OUT_DFMT : Nat := 0x0D01
def OUT_DSIZE : Nat := 0x0D02
def OUT_CROP0 : Nat := 0x0D03
def OUT_CROP1 : Nat := 0x0D04
def OUT_CODE : Nat := 0x0D05
def OUT_VIS : Nat := 0x0D06
def OUT_PRIO : Nat := 0x0D07
def OUT_SHED : Nat := 0x0D08
def OUT_STAT : Nat := 0x0D09
def LNK_CFG : Nat := 0x0E00
def LNK_STAT : Nat := 0x0E01
def LNK_FFE0 : Nat := 0x0E02
def LNK_FFE1 : Nat := 0x0E03
def LNK_FFE2 : Nat := 0x0E04
def LNK_FFE3 : Nat := 0x0E05
def LNK_SWING : Nat := 0x0E06
def LNK_BCEQ : Nat := 0x0E07
def LNK_EYE : Nat := 0x0E09
def LNK_LONGFRM : Nat := 0x0E14
def LNK_PRBSBITS_LO : Nat := 0x0E19
def LNK_PRBSBITS_HI : Nat := 0x0E1A
def LNK_PRBSERR : Nat := 0x0E1B
def LNK_TEST : Nat := 0x0E1C
def LNK_LOOP : Nat := 0x0E1D
def CLK_STAT : Nat := 0x0F01
def CLK_OUT0 : Nat := 0x0F02
def CLK_OUT1 : Nat := 0x0F03
def CLK_PLL0_CFG : Nat := 0x0F10
def CLK_PLL0_PLAN0 : Nat := 0x0F12
def CLK_PLL0_PLAN1 : Nat := 0x0F13
def PWR_STAT : Nat := 0x1000
def PWR_CORE : Nat := 0x1001
def PWR_VCMP : Nat := 0x1002
def PWR_SHED : Nat := 0x1003
def PWR_RECESS : Nat := 0x1004
def PWR_HICCUP : Nat := 0x1006
def PWR_RCLAST : Nat := 0x1007
def HK_CTRL : Nat := 0x1100
def HK_STAT : Nat := 0x1101
def HK_PLAUSLAST : Nat := 0x1105
def THM_CFG : Nat := 0x1200
def THM_STAT : Nat := 0x1201
def THM_MAX : Nat := 0x1202
def THM_HTR : Nat := 0x1204
def THM_TEMP0 : Nat := 0x1210
def OTP_STAT : Nat := 0x1300
def OTP_CSTAT : Nat := 0x1301
def OTP_LOCK : Nat := 0x1302
def OTP_COMPAT_LOCK : Nat := 0x1303
def OTP_MARGCNT : Nat := 0x1304
def OTP_MARGLAST : Nat := 0x1305
def OTP_FW_VERSION : Nat := 0x1306
def OTP_KEY_EPOCH : Nat := 0x1307
def SEC_STAT : Nat := 0x1400
def SEC_ALARM : Nat := 0x1404
def SEC_ALARM_LVL : Nat := 0x1405
def SEC_ALARMCNT : Nat := 0x1408
def REC_CFG : Nat := 0x1500
def REC_CLIP : Nat := 0x1501
def REC_STAT : Nat := 0x1502
def REC_CLIPS : Nat := 0x1503
def REC_FREE : Nat := 0x1504
def REC_CBFILL : Nat := 0x1505
def REC_WEAR : Nat := 0x1506
def REC_WRITTEN : Nat := 0x1507
def SAF_ACTIVE : Nat := 0x1600
def SAF_LATCHED : Nat := 0x1601
def SAF_WDOG : Nat := 0x1603
def SAF_LAST : Nat := 0x1606
def SAF_FWSTAT : Nat := 0x1607
def SAF_ECC0 : Nat := 0x1610

end R

end Sys2Proof.Machine
end

