-- ==== Sys2Proof/Machine/RegTable.lean ====
section
/-!
DEFINITION. The register table of the device, one row per register of every bank (R690, R691): its address (R10),
its reset value, and the bits of each access type of R11. `stg` marks the bits that are staged (R111).
Read-only bits whose value another field of the state holds have 0 here, and so have the bits that the
boot ROM takes from FACTORY_TRIM or SECURITY_CONFIG: they are loaded when reset is released (assumption 5).
-/

namespace Sys2Proof.Machine

/-- One register: address, reset value, and the bits of each access type (R11). -/
structure RegDesc where
  addr : Nat
  reset : Nat
  rw : Nat
  rwl : Nat
  w1c : Nat
  /-- W1S and RWS bits: a 1 sets, a 0 leaves. -/
  w1s : Nat
  wo : Nat
  stg : Nat
  deriving DecidableEq, Repr

/-- The reset value of a register that -CB alone resets to `cb`, and every other variant to `other` (R297). -/
def onCb (cb other : Nat) : Nat := if Config.mosaic = 1 then cb else other

/-- Bank 0x00. -/
def regBank00 : List RegDesc := [
  ⟨0x0000, 0x1014160, 0x0, 0x0, 0x0, 0x0, 0x0, 0x0⟩,  -- SYS_ID (R693)
  ⟨0x0001, 0x0, 0x0, 0x0, 0x0, 0x0, 0x0, 0x0⟩,  -- SYS_MODE (R694)
  ⟨0x0002, 0x0, 0x0, 0x0, 0x0, 0x0, 0x0, 0x0⟩,  -- SYS_STAT (R695)
  ⟨0x0003, 0x0, 0x0, 0x0, 0x0, 0x0, 0x0, 0x0⟩,  -- SYS_UID_LO (R696)
  ⟨0x0004, 0x0, 0x0, 0x0, 0x0, 0x0, 0x0, 0x0⟩,  -- SYS_UID_HI (R696)
  ⟨0x0005, 0x0, 0x0, 0x0, 0x0, 0x0, 0x0, 0x0⟩,  -- SYS_POC (R696)
  ⟨0x0006, 0x0, 0x0, 0x0, 0x0, 0x0, 0x1, 0x0⟩,  -- SYS_CTRL (R696)
  ⟨0x0010, 0x0, 0x0, 0x0, 0x0, 0x0, 0x80000000, 0x0⟩,  -- SYS_WAIT1 (R697)
  ⟨0x0011, 0x0, 0x0, 0x0, 0x0, 0x0, 0x80000000, 0x0⟩,  -- SYS_WAIT2 (R697)
  ⟨0x0012, 0x0, 0x0, 0x0, 0x0, 0x0, 0x80000000, 0x0⟩,  -- SYS_WAIT3 (R697)
  ⟨0x0013, 0x0, 0x0, 0x0, 0x0, 0x0, 0x80000000, 0x0⟩,  -- SYS_WAIT4 (R697)
  ⟨0x0014, 0x0, 0x0, 0x0, 0x0, 0x0, 0x80000000, 0x0⟩]  -- SYS_WAIT5 (R697)

/-- Bank 0x01. -/
def regBank01 : List RegDesc := [
  ⟨0x0100, 0x0, 0x0, 0x0, 0x0, 0x0, 0x80000000, 0x0⟩,  -- CMD_CRCERR (R701)
  ⟨0x0101, 0x0, 0x0, 0x0, 0x0, 0x0, 0x80000000, 0x0⟩,  -- CMD_FRAMING (R701)
  ⟨0x0102, 0x0, 0x0, 0x0, 0x0, 0x0, 0x80000000, 0x0⟩,  -- CMD_LENSKIP (R701)
  ⟨0x0103, 0x0, 0x0, 0x0, 0x0, 0x0, 0x80000000, 0x0⟩,  -- CMD_CREDITVIOL (R701)
  ⟨0x0104, 0x0, 0x0, 0x0, 0x0, 0x0, 0x80000000, 0x0⟩,  -- CMD_TAGCOL (R701)
  ⟨0x0105, 0x0, 0x0, 0x0, 0x0, 0x0, 0x80000000, 0x0⟩,  -- CMD_UNKOP (R701)
  ⟨0x0106, 0x0, 0x0, 0x0, 0x0, 0x0, 0x80000000, 0x0⟩,  -- CMD_STATE (R701)
  ⟨0x0107, 0x0, 0x0, 0x0, 0x0, 0x0, 0x80000000, 0x0⟩,  -- CMD_SEQGAP (R701)
  ⟨0x0108, 0x0, 0x0, 0x0, 0x0, 0x0, 0x80000000, 0x0⟩,  -- CMD_EVDROP (R701)
  ⟨0x0109, 0x0, 0x0, 0x0, 0x0, 0x0, 0x0, 0x0⟩,  -- CMD_LASTSEQ (R701)
  ⟨0x010A, 0x0, 0x0, 0x0, 0x0, 0x0, 0x0, 0x0⟩,  -- CMD_BUSY (R701)
  ⟨0x010B, 0x0, 0x0, 0x0, 0x0, 0x0, 0x0, 0x0⟩,  -- CMD_CREDREL (R701)
  ⟨0x010C, 0x0, 0x0, 0x0, 0x0, 0x0, 0x0, 0x0⟩]  -- CMD_EVMASK (R701)

/-- Bank 0x02. -/
def regBank02 : List RegDesc := [
  ⟨0x0200, 0xC, 0xC, 0x0, 0x0, 0x0, 0x10, 0x0⟩,  -- TT_CTRL (R122)
  ⟨0x0201, 0x0, 0x0, 0x0, 0x0, 0x0, 0x0, 0x0⟩,  -- TT_STAT (R123)
  ⟨0x0202, 0x14083483, 0xFFFFFFFF, 0x0, 0x0, 0x0, 0x0, 0xFFFFFFFF⟩,  -- TT_RP (R124)
  ⟨0x0203, 0x1040, 0xFFFF, 0x0, 0x0, 0x0, 0x0, 0xFFFF⟩,  -- TT_VTOTAL (R125)
  ⟨0x0204, 0x138800, 0xFFFFFF, 0x0, 0x0, 0x0, 0x0, 0x0⟩,  -- TT_RLNOM (R126)
  ⟨0x0205, 0x0, 0x0, 0x0, 0x0, 0x0, 0x0, 0x0⟩,  -- TT_REF (R127)
  ⟨0x0206, 0x1080, 0xFFFF, 0x0, 0x0, 0x0, 0x0, 0xFF⟩,  -- TT_CHASE (R128)
  ⟨0x0207, 0x0, 0x0, 0x0, 0x0, 0x0, 0x0, 0x0⟩,  -- TT_LEAD (R129)
  ⟨0x0208, 0x0, 0x0, 0x0, 0x0, 0x0, 0x0, 0x0⟩,  -- TT_PHASE (R129)
  ⟨0x0209, 0x0, 0x0, 0x0, 0x0, 0x0, 0x0, 0x0⟩,  -- TT_FREQ (R130)
  ⟨0x020A, 0x1F40403, 0xFFFFFF07, 0x0, 0x0, 0x0, 0x0, 0x0⟩,  -- TT_LOCKCFG (R131)
  ⟨0x020B, 0x0, 0x0, 0x0, 0x0, 0x1, 0x0, 0x0⟩,  -- TT_COMMIT (R132)
  ⟨0x020C, 0x0, 0x0, 0x0, 0x0, 0x0, 0x0, 0x0⟩,  -- TT_APPLYFN (R132)
  ⟨0x020D, 0x0, 0x0, 0x0, 0x0, 0x0, 0x0, 0x0⟩,  -- TT_TB_LO (R133)
  ⟨0x020E, 0x0, 0x0, 0x0, 0x0, 0x0, 0x0, 0x0⟩,  -- TT_TB_HI (R133)
  ⟨0x020F, 0x0, 0x0, 0x0, 0x0, 0x0, 0x0, 0x0⟩,  -- TT_FN (R133)
  ⟨0x0210, 0x0, 0x0, 0x0, 0x0, 0x0, 0x80000000, 0x0⟩,  -- TT_MARKERR (R134)
  ⟨0x0211, 0x4, 0x1F, 0x0, 0x0, 0x0, 0x0, 0x0⟩,  -- TT_QUIET (R135)
  ⟨0x0212, 0x0, 0xFF7, 0x0, 0x0, 0x0, 0x0, 0xFF7⟩,  -- TT_STROBE (R136)
  ⟨0x0213, 0x100, 0xFF03, 0x0, 0x0, 0x0, 0x0, 0x0⟩]  -- TT_SYNC (R136)

/-- Bank 0x03. -/
def regBank03 : List RegDesc := [
  ⟨0x0300, 0x8301000 + Config.mosaic, 0x0, 0x0, 0x0, 0x0, 0x0, 0x0⟩,  -- ARR_ID (R50)
  ⟨0x0301, 0x11, 0x11, 0x0, 0x0, 0x80000000, 0x0, 0x11⟩,  -- ARR_CTRL (R51)
  ⟨0x0302, 0x0, 0x0, 0x3F3F, 0x0, 0x0, 0x0, 0x0⟩,  -- ARR_BARRIER (R52)
  ⟨0x0303, 0x0, 0x0, 0x0, 0x0, 0x0, 0x0, 0x0⟩,  -- ARR_BOND (R53)
  ⟨0x0304, 0x0, 0x0, 0x0, 0x0, 0x0, 0x0, 0x0⟩]  -- ARR_BONDLAST (R54)

/-- Bank 0x04. -/
def regBank04 : List RegDesc := [
  ⟨0x0400, 0x6, 0x7, 0x0, 0x0, 0x80000000, 0x0, 0x0⟩,  -- CNV_CTRL (R77)
  ⟨0x0401, 0x0, 0xFF, 0x0, 0x0, 0x0, 0x0, 0xFF⟩,  -- CNV_RAMP (R78)
  ⟨0x0402, 0x40, 0xFF, 0x0, 0x0, 0x0, 0x0, 0xFF⟩,  -- CNV_PED (R79)
  ⟨0x0403, 0x0, 0x0, 0xFFFF, 0x0, 0x0, 0x0, 0x0⟩,  -- CNV_RTRIM (R80)
  ⟨0x0404, 0x1018, 0xFFFF, 0x0, 0x0, 0x0, 0x0, 0x0⟩,  -- CNV_REFCHK (R81)
  ⟨0x0405, 0xA00, 0xF00, 0x0, 0x4, 0x0, 0x1, 0x0⟩,  -- CNV_CAL (R82)
  ⟨0x0406, 0x0, 0x0, 0x0, 0x0, 0x0, 0x0, 0x0⟩,  -- CNV_BAD (R83)
  ⟨0x0407, 0x0, 0x0, 0x0, 0x0, 0x0, 0x0, 0x0⟩,  -- CNV_BADLAST (R84)
  ⟨0x0408, 0x0, 0x0, 0x0, 0x0, 0x0, 0x80000000, 0x0⟩,  -- CNV_INVCNT (R85)
  ⟨0x0409, 0x0, 0x0, 0x0, 0x0, 0x0, 0x80000000, 0x0⟩,  -- CNV_REFFAIL (R85)
  ⟨0x040A, 0x0, 0x0, 0x0, 0x0, 0x0, 0x80000000, 0x0⟩]  -- CNV_TRKSKIP (R85)

/-- Bank 0x05. -/
def regBank05 : List RegDesc := [
  ⟨0x0500, 0x0, 0xF, 0x0, 0x0, 0x0, 0x0, 0xF⟩,  -- EXP_CTRL (R172)
  ⟨0x0501, 0xF, 0xF, 0x0, 0x0, 0x0, 0x0, 0xF⟩,  -- EXP_SAMPLES (R173)
  ⟨0x0502, 0xABA0, 0xFFFFF, 0x0, 0x0, 0x0, 0x0, 0xFFFFF⟩,  -- EXP_TL (R173)
  ⟨0x0503, 0x9204, 0xFF0F, 0x0, 0x0, 0x0, 0x0, 0xFF0F⟩,  -- EXP_RATIO (R174)
  ⟨0x0504, 0xC00D80, 0xFF0FFF, 0x0, 0x0, 0x0, 0x0, 0xFF0FFF⟩,  -- EXP_MTH_HCG (R175)
  ⟨0x0505, 0xC00D80, 0xFF0FFF, 0x0, 0x0, 0x0, 0x0, 0xFF0FFF⟩,  -- EXP_MTH_LCG (R175)
  ⟨0x0506, 0xC00D80, 0xFF0FFF, 0x0, 0x0, 0x0, 0x0, 0xFF0FFF⟩,  -- EXP_MTH_LOFIC (R175)
  ⟨0x0507, 0x640, 0x7FF, 0x0, 0x0, 0x0, 0x0, 0x7FF⟩,  -- EXP_MOTION (R176)
  ⟨0x0508, 0x44C03C4, 0xFFFF0FFF, 0x0, 0x0, 0x0, 0x0, 0xFFFF0FFF⟩,  -- EXP_FLICKER (R177)
  ⟨0x0509, 0x44, 0x3FF, 0x0, 0x0, 0x0, 0x0, 0x3FF⟩,  -- EXP_AE_CFG (R178)
  ⟨0x050A, 0xA00, 0xFFFF, 0x0, 0x0, 0x0, 0x0, 0xFFFF⟩,  -- EXP_AE_TARGET (R179)
  ⟨0x050B, 0x30F4A4, 0x3FFFFF, 0x0, 0x0, 0x0, 0x0, 0x3FFFFF⟩,  -- EXP_AE_TLMAX (R179)
  ⟨0x050C, 0xF4F, 0x0, 0x0, 0x80000000, 0x0, 0x0, 0x0⟩,  -- EXP_CUR (R180)
  ⟨0x050D, 0xABA0, 0x0, 0x0, 0x0, 0x0, 0x0, 0x0⟩,  -- EXP_CURTL (R180)
  ⟨0x050E, 0x0, 0x0, 0x0, 0x0, 0x0, 0x0, 0x0⟩]  -- EXP_MOTCNT (R180)

/-- Bank 0x06. -/
def regBank06 : List RegDesc := [
  ⟨0x0600, 0x0, 0x0, 0x0, 0x0, 0x0, 0x0, 0x0⟩,  -- SEQ_STAT (R181)
  ⟨0x0601, 0x0, 0x3FFFFF, 0x0, 0x0, 0x0, 0x0, 0x0⟩,  -- SEQ_LOOPS (R182)
  ⟨0x0602, 0x0, 0xC, 0x0, 0x0, 0x0, 0x3, 0x0⟩]  -- SEQ_CTRL (R183)

/-- Bank 0x07. -/
def regBank07 : List RegDesc := [
  ⟨0x0700, 0x9, 0xFF, 0x0, 0x0, 0x0, 0x0, 0xFF⟩,  -- SP_CTRL (R211)
  ⟨0x0701, 0xB409F22, 0xFFFFFFF, 0x0, 0x0, 0x0, 0x0, 0xFFFFFFF⟩,  -- SP_LAW (R212)
  ⟨0x0702, 0xC, 0x3F, 0x0, 0x0, 0x0, 0x0, 0x3F⟩,  -- SP_BAND (R213)
  ⟨0x0703, 0x40, 0x0, 0x0, 0x0, 0x0, 0x0, 0x0⟩,  -- SP_STAT (R214)
  ⟨0x0704, 0x0, 0x0, 0x0, 0x0, 0x0, 0x0, 0x0⟩,  -- SP_KSUM (R215)
  ⟨0x0705, 0x0, 0x0, 0x0, 0x0, 0x0, 0x80000000, 0x0⟩,  -- SP_ECC (R216)
  ⟨0x0706, 0x0, 0x0, 0x0, 0x0, 0x0, 0x0, 0x0⟩,  -- SP_ECCLAST (R217)
  ⟨0x0707, 0x0, 0x0, 0x0, 0x0, 0x0, 0x80000000, 0x0⟩,  -- SP_ECHO (R216)
  ⟨0x0708, 0x210, 0xFFFF, 0x0, 0x0, 0x0, 0x0, 0x0⟩,  -- SP_FAULT (R218)
  ⟨0x0709, 0x0, 0x0, 0x0, 0x0, 0x0, 0x0, 0x0⟩]  -- SP_MAPFN (R218)

/-- Bank 0x08. -/
def regBank08 : List RegDesc := [
  ⟨0x0800, 0x10401000, 0x0, 0x0, 0x0, 0x0, 0x0, 0x0⟩,  -- WIN_STAT (R252)
  ⟨0x0801, 0x0, 0x0, 0x0, 0x80000000, 0x0, 0x0, 0x0⟩,  -- WIN_ERR (R252)
  ⟨0x0802, 0x0, 0x3, 0x0, 0x0, 0x0, 0x0, 0x3⟩,  -- WIN_BIN (R253)
  ⟨0x0810, 0x0, 0x3FF03FF, 0x0, 0x0, 0x0, 0x0, 0x3FF03FF⟩,  -- WIN_0_POS (R254)
  ⟨0x0811, 0x4000400, 0x7FF07FF, 0x0, 0x0, 0x0, 0x0, 0x7FF07FF⟩,  -- WIN_0_SIZE (R254)
  ⟨0x0812, 0x39, 0x3F, 0x0, 0x0, 0x0, 0x0, 0x3F⟩,  -- WIN_0_CFG (R254)
  ⟨0x0814, 0x0, 0x3FF03FF, 0x0, 0x0, 0x0, 0x0, 0x3FF03FF⟩,  -- WIN_1_POS (R254)
  ⟨0x0815, 0x0, 0x7FF07FF, 0x0, 0x0, 0x0, 0x0, 0x7FF07FF⟩,  -- WIN_1_SIZE (R254)
  ⟨0x0816, 0x0, 0x3F, 0x0, 0x0, 0x0, 0x0, 0x3F⟩,  -- WIN_1_CFG (R254)
  ⟨0x0818, 0x0, 0x3FF03FF, 0x0, 0x0, 0x0, 0x0, 0x3FF03FF⟩,  -- WIN_2_POS (R254)
  ⟨0x0819, 0x0, 0x7FF07FF, 0x0, 0x0, 0x0, 0x0, 0x7FF07FF⟩,  -- WIN_2_SIZE (R254)
  ⟨0x081A, 0x0, 0x3F, 0x0, 0x0, 0x0, 0x0, 0x3F⟩,  -- WIN_2_CFG (R254)
  ⟨0x081C, 0x0, 0x3FF03FF, 0x0, 0x0, 0x0, 0x0, 0x3FF03FF⟩,  -- WIN_3_POS (R254)
  ⟨0x081D, 0x0, 0x7FF07FF, 0x0, 0x0, 0x0, 0x0, 0x7FF07FF⟩,  -- WIN_3_SIZE (R254)
  ⟨0x081E, 0x0, 0x3F, 0x0, 0x0, 0x0, 0x0, 0x3F⟩,  -- WIN_3_CFG (R254)
  ⟨0x0820, 0x0, 0x3FF03FF, 0x0, 0x0, 0x0, 0x0, 0x3FF03FF⟩,  -- WIN_4_POS (R254)
  ⟨0x0821, 0x0, 0x7FF07FF, 0x0, 0x0, 0x0, 0x0, 0x7FF07FF⟩,  -- WIN_4_SIZE (R254)
  ⟨0x0822, 0x0, 0x3F, 0x0, 0x0, 0x0, 0x0, 0x3F⟩,  -- WIN_4_CFG (R254)
  ⟨0x0824, 0x0, 0x3FF03FF, 0x0, 0x0, 0x0, 0x0, 0x3FF03FF⟩,  -- WIN_5_POS (R254)
  ⟨0x0825, 0x0, 0x7FF07FF, 0x0, 0x0, 0x0, 0x0, 0x7FF07FF⟩,  -- WIN_5_SIZE (R254)
  ⟨0x0826, 0x0, 0x3F, 0x0, 0x0, 0x0, 0x0, 0x3F⟩,  -- WIN_5_CFG (R254)
  ⟨0x0828, 0x0, 0x3FF03FF, 0x0, 0x0, 0x0, 0x0, 0x3FF03FF⟩,  -- WIN_6_POS (R254)
  ⟨0x0829, 0x0, 0x7FF07FF, 0x0, 0x0, 0x0, 0x0, 0x7FF07FF⟩,  -- WIN_6_SIZE (R254)
  ⟨0x082A, 0x0, 0x3F, 0x0, 0x0, 0x0, 0x0, 0x3F⟩,  -- WIN_6_CFG (R254)
  ⟨0x082C, 0x0, 0x3FF03FF, 0x0, 0x0, 0x0, 0x0, 0x3FF03FF⟩,  -- WIN_7_POS (R254)
  ⟨0x082D, 0x0, 0x7FF07FF, 0x0, 0x0, 0x0, 0x0, 0x7FF07FF⟩,  -- WIN_7_SIZE (R254)
  ⟨0x082E, 0x0, 0x3F, 0x0, 0x0, 0x0, 0x0, 0x3F⟩,  -- WIN_7_CFG (R254)
  ⟨0x0830, 0x0, 0x3FF03FF, 0x0, 0x0, 0x0, 0x0, 0x3FF03FF⟩,  -- WIN_8_POS (R254)
  ⟨0x0831, 0x0, 0x7FF07FF, 0x0, 0x0, 0x0, 0x0, 0x7FF07FF⟩,  -- WIN_8_SIZE (R254)
  ⟨0x0832, 0x0, 0x3F, 0x0, 0x0, 0x0, 0x0, 0x3F⟩,  -- WIN_8_CFG (R254)
  ⟨0x0834, 0x0, 0x3FF03FF, 0x0, 0x0, 0x0, 0x0, 0x3FF03FF⟩,  -- WIN_9_POS (R254)
  ⟨0x0835, 0x0, 0x7FF07FF, 0x0, 0x0, 0x0, 0x0, 0x7FF07FF⟩,  -- WIN_9_SIZE (R254)
  ⟨0x0836, 0x0, 0x3F, 0x0, 0x0, 0x0, 0x0, 0x3F⟩,  -- WIN_9_CFG (R254)
  ⟨0x0838, 0x0, 0x3FF03FF, 0x0, 0x0, 0x0, 0x0, 0x3FF03FF⟩,  -- WIN_10_POS (R254)
  ⟨0x0839, 0x0, 0x7FF07FF, 0x0, 0x0, 0x0, 0x0, 0x7FF07FF⟩,  -- WIN_10_SIZE (R254)
  ⟨0x083A, 0x0, 0x3F, 0x0, 0x0, 0x0, 0x0, 0x3F⟩,  -- WIN_10_CFG (R254)
  ⟨0x083C, 0x0, 0x3FF03FF, 0x0, 0x0, 0x0, 0x0, 0x3FF03FF⟩,  -- WIN_11_POS (R254)
  ⟨0x083D, 0x0, 0x7FF07FF, 0x0, 0x0, 0x0, 0x0, 0x7FF07FF⟩,  -- WIN_11_SIZE (R254)
  ⟨0x083E, 0x0, 0x3F, 0x0, 0x0, 0x0, 0x0, 0x3F⟩,  -- WIN_11_CFG (R254)
  ⟨0x0840, 0x0, 0x3FF03FF, 0x0, 0x0, 0x0, 0x0, 0x3FF03FF⟩,  -- WIN_12_POS (R254)
  ⟨0x0841, 0x0, 0x7FF07FF, 0x0, 0x0, 0x0, 0x0, 0x7FF07FF⟩,  -- WIN_12_SIZE (R254)
  ⟨0x0842, 0x0, 0x3F, 0x0, 0x0, 0x0, 0x0, 0x3F⟩,  -- WIN_12_CFG (R254)
  ⟨0x0844, 0x0, 0x3FF03FF, 0x0, 0x0, 0x0, 0x0, 0x3FF03FF⟩,  -- WIN_13_POS (R254)
  ⟨0x0845, 0x0, 0x7FF07FF, 0x0, 0x0, 0x0, 0x0, 0x7FF07FF⟩,  -- WIN_13_SIZE (R254)
  ⟨0x0846, 0x0, 0x3F, 0x0, 0x0, 0x0, 0x0, 0x3F⟩,  -- WIN_13_CFG (R254)
  ⟨0x0848, 0x0, 0x3FF03FF, 0x0, 0x0, 0x0, 0x0, 0x3FF03FF⟩,  -- WIN_14_POS (R254)
  ⟨0x0849, 0x0, 0x7FF07FF, 0x0, 0x0, 0x0, 0x0, 0x7FF07FF⟩,  -- WIN_14_SIZE (R254)
  ⟨0x084A, 0x0, 0x3F, 0x0, 0x0, 0x0, 0x0, 0x3F⟩,  -- WIN_14_CFG (R254)
  ⟨0x084C, 0x0, 0x3FF03FF, 0x0, 0x0, 0x0, 0x0, 0x3FF03FF⟩,  -- WIN_15_POS (R254)
  ⟨0x084D, 0x0, 0x7FF07FF, 0x0, 0x0, 0x0, 0x0, 0x7FF07FF⟩,  -- WIN_15_SIZE (R254)
  ⟨0x084E, 0x0, 0x3F, 0x0, 0x0, 0x0, 0x0, 0x3F⟩]  -- WIN_15_CFG (R254)

/-- Bank 0x09. -/
def regBank09 : List RegDesc := [
  ⟨0x0900, 0xA03, 0xFFFFFF0F, 0x0, 0x0, 0x0, 0x0, 0x0⟩,  -- BEL_CFG (R255)
  ⟨0x0901, 0x0, 0x0, 0x0, 0x8, 0x0, 0x0, 0x0⟩,  -- BEL_STAT (R256)
  ⟨0x0902, 0x0, 0x0, 0x0, 0x0, 0x0, 0x80000000, 0x0⟩,  -- BEL_DROP (R257)
  ⟨0x0903, 0x0, 0x0, 0x0, 0x0, 0x0, 0x80000000, 0x0⟩,  -- BEL_TAKEN (R257)
  ⟨0x0904, 0x0, 0x0, 0x0, 0x0, 0x0, 0x0, 0x0⟩,  -- BEL_LAST_LO (R257)
  ⟨0x0905, 0x0, 0x0, 0x0, 0x0, 0x0, 0x0, 0x0⟩,  -- BEL_LAST_HI (R257)
  ⟨0x0906, 0x0, 0x0, 0x0, 0x0, 0x0, 0x0, 0x0⟩]  -- BEL_LAT (R257)

/-- Bank 0x0A. -/
def regBank0A : List RegDesc := [
  ⟨0x0A00, 0x7, 0x1FF, 0x0, 0x0, 0x0, 0x0, 0x1FF⟩,  -- PA_CTRL (R289)
  ⟨0x0A01, 0x10000, 0x0, 0x0, 0x800000, 0x0, 0x0, 0x0⟩,  -- PA_STAT (R290)
  ⟨0x0A02, 0x4002, 0xFF0F, 0x0, 0x0, 0x0, 0x0, 0xFF0F⟩,  -- PA_BLC (R291)
  ⟨0x0A03, 0x400, 0x0, 0x0, 0x0, 0x0, 0x0, 0x0⟩,  -- PA_BLACK0 (R292)
  ⟨0x0A04, 0x400, 0x0, 0x0, 0x0, 0x0, 0x0, 0x0⟩,  -- PA_BLACK1 (R292)
  ⟨0x0A05, 0x400, 0x0, 0x0, 0x0, 0x0, 0x0, 0x0⟩,  -- PA_BLACK2 (R292)
  ⟨0x0A06, 0x400, 0x0, 0x0, 0x0, 0x0, 0x0, 0x0⟩,  -- PA_BLACK3 (R292)
  ⟨0x0A07, 0x180000, 0xFF3FFF, 0x0, 0x0, 0x0, 0x0, 0xFF3FFF⟩,  -- PA_DEFECT (R293)
  ⟨0x0A08, 0x0, 0x0, 0x0, 0x0, 0x0, 0x0, 0x0⟩,  -- PA_DEFCNT (R293)
  ⟨0x0A09, 0x50202, 0xFFFF7, 0x0, 0x0, 0x0, 0x80000000, 0x800FFFF7⟩,  -- PA_TNR (R294)
  ⟨0x0A0A, 0x0, 0x0, 0x0, 0x0, 0x0, 0x80000000, 0x0⟩,  -- PA_TNRMISS (R295)
  ⟨0x0A0B, 0x4000400, 0xFFFFFFFF, 0x0, 0x0, 0x0, 0x0, 0xFFFFFFFF⟩,  -- PA_WB0 (R296)
  ⟨0x0A0C, 0x4000400, 0xFFFFFFFF, 0x0, 0x0, 0x0, 0x0, 0xFFFFFFFF⟩,  -- PA_WB1 (R296)
  ⟨0x0A0D, 0x1000, 0xFFFFFFFF, 0x0, 0x0, 0x0, 0x0, 0xFFFFFFFF⟩,  -- PA_CCM0 (R297)
  ⟨0x0A0E, onCb 0xF0000000 0x0, 0xFFFFFFFF, 0x0, 0x0, 0x0, 0x0, 0xFFFFFFFF⟩,  -- PA_CCM1 (R297)
  ⟨0x0A0F, onCb 0xF0001000 0x1000, 0xFFFFFFFF, 0x0, 0x0, 0x0, 0x0, 0xFFFFFFFF⟩,  -- PA_CCM2 (R297)
  ⟨0x0A10, 0x0, 0xFFFFFFFF, 0x0, 0x0, 0x0, 0x0, 0xFFFFFFFF⟩,  -- PA_CCM3 (R297)
  ⟨0x0A11, 0x1000, 0xFFFF, 0x0, 0x0, 0x0, 0x0, 0xFFFF⟩,  -- PA_CCM4 (R297)
  ⟨0x0A12, 0xEBE6F3, 0xFFFFFF, 0x0, 0x0, 0x0, 0x0, 0xFFFFFF⟩,  -- PA_IRSUB (R298)
  ⟨0x0A13, 0x100, 0xFFFF, 0x0, 0x0, 0x0, 0x0, 0xFFFF⟩,  -- PA_DGAIN (R299)
  ⟨0x0A14, 0x80000, 0x1FFFFF, 0x0, 0x0, 0x0, 0x0, 0x1FFFFF⟩]  -- PA_TONE (R300)

/-- Bank 0x0B. -/
def regBank0B : List RegDesc := [
  ⟨0x0B00, 0x2, 0x7F, 0x0, 0x0, 0x0, 0x80, 0x7E⟩,  -- PB_CTRL (R329)
  ⟨0x0B01, 0x0, 0x0, 0x0, 0x0, 0x0, 0x0, 0x0⟩,  -- PB_STAT (R330)
  ⟨0x0B02, 0x0, 0x0, 0x0, 0x0, 0x0, 0x0, 0x0⟩,  -- PB_SIZE (R331)
  ⟨0x0B03, 0x0, 0x0, 0x0, 0x0, 0x0, 0x0, 0x0⟩,  -- PB_CFN (R331)
  ⟨0x0B04, 0x0, 0x0, 0x0, 0x0, 0x0, 0x0, 0x0⟩,  -- PB_APPLYCFN (R331)
  ⟨0x0B05, 0x0, 0xFFF0FFF, 0x0, 0x0, 0x0, 0x0, 0xFFF0FFF⟩,  -- PB_OUT (R332)
  ⟨0x0B06, 0x0, 0x0, 0x0, 0x0, 0x0, 0x80000000, 0x0⟩,  -- PB_DROP_LATE (R333)
  ⟨0x0B07, 0x0, 0x0, 0x0, 0x0, 0x0, 0x80000000, 0x0⟩,  -- PB_DROP_FIFO (R333)
  ⟨0x0B08, 0x0, 0x0, 0x0, 0x0, 0x0, 0x80000000, 0x0⟩,  -- PB_DROP_FORMAT (R333)
  ⟨0x0B09, 0x0, 0x0, 0x0, 0x0, 0x0, 0x80000000, 0x0⟩,  -- PB_DROP_SUPER (R333)
  ⟨0x0B0A, 0x0, 0x0, 0x0, 0x0, 0x0, 0x80000000, 0x0⟩,  -- PB_I2CERR (R334)
  ⟨0x0B0B, 0x0, 0x0, 0x0, 0x0, 0x0, 0x0, 0x0⟩,  -- PB_I2CLAST (R335)
  ⟨0x0B0C, 0x0, 0x0, 0x0, 0x0, 0x0, 0x0, 0x0⟩,  -- PB_VSTB_LO (R335)
  ⟨0x0B0D, 0x0, 0x0, 0x0, 0x0, 0x0, 0x0, 0x0⟩,  -- PB_VSTB_HI (R335)
  ⟨0x0B10, 0x1000, 0xFFFFFFFF, 0x0, 0x0, 0x0, 0x0, 0xFFFFFFFF⟩,  -- PB_CCM0 (R336)
  ⟨0x0B11, 0x0, 0xFFFFFFFF, 0x0, 0x0, 0x0, 0x0, 0xFFFFFFFF⟩,  -- PB_CCM1 (R336)
  ⟨0x0B12, 0x1000, 0xFFFFFFFF, 0x0, 0x0, 0x0, 0x0, 0xFFFFFFFF⟩,  -- PB_CCM2 (R336)
  ⟨0x0B13, 0x0, 0xFFFFFFFF, 0x0, 0x0, 0x0, 0x0, 0xFFFFFFFF⟩,  -- PB_CCM3 (R336)
  ⟨0x0B14, 0x1000, 0xFFFF, 0x0, 0x0, 0x0, 0x0, 0xFFFF⟩,  -- PB_CCM4 (R336)
  ⟨0x0B15, 0x4000400, 0xFFFFFFFF, 0x0, 0x0, 0x0, 0x0, 0xFFFFFFFF⟩,  -- PB_WB0 (R336)
  ⟨0x0B16, 0x400, 0xFFFF, 0x0, 0x0, 0x0, 0x0, 0xFFFF⟩,  -- PB_WB1 (R336)
  ⟨0x0B17, 0x100, 0xFFFF, 0x0, 0x0, 0x0, 0x0, 0xFFFF⟩,  -- PB_DGAIN (R336)
  ⟨0x0B18, 0x0, 0xFFFF, 0x0, 0x0, 0x0, 0x0, 0xFFFF⟩]  -- PB_TONE (R336)

/-- Bank 0x0C. -/
def regBank0C : List RegDesc := [
  ⟨0x0C00, 0x0, 0xF, 0x0, 0x0, 0x0, 0x0, 0xF⟩,  -- STA_CFG (R357)
  ⟨0x0C01, 0x2040000, 0x3FFFFFF, 0x0, 0x0, 0x0, 0x0, 0x3FFFFFF⟩,  -- STA_ROI (R358)
  ⟨0x0C02, 0x0, 0x0, 0x0, 0x0, 0x0, 0x0, 0x0⟩,  -- STA_STAT (R359)
  ⟨0x0C03, 0x0, 0x0, 0x0, 0x0, 0x0, 0x0, 0x0⟩,  -- STA_LASTFN (R360)
  ⟨0x0C04, 0x0, 0x0, 0x0, 0x0, 0x0, 0x0, 0x0⟩,  -- STA_LASTCFN (R360)
  ⟨0x0C05, 0x0, 0x0, 0x0, 0x0, 0x0, 0x80000000, 0x0⟩,  -- STA_TAGERR (R361)
  ⟨0x0C06, 0x0, 0x0, 0x0, 0x0, 0x0, 0x80000000, 0x0⟩,  -- STA_LATECUT (R361)
  ⟨0x0C07, 0x0, 0x0, 0x0, 0x0, 0x0, 0x80000000, 0x0⟩]  -- STA_PUSHDROP (R361)

/-- Bank 0x0D. -/
def regBank0D : List RegDesc := [
  ⟨0x0D00, 0x3, 0xF, 0x0, 0x0, 0x0, 0x0, 0xF⟩,  -- OUT_ROUTE (R396)
  ⟨0x0D01, 0x0, 0x3F, 0x0, 0x0, 0x0, 0x0, 0x3F⟩,  -- OUT_DFMT (R397)
  ⟨0x0D02, 0x0, 0x1FFF1FFF, 0x0, 0x0, 0x0, 0x0, 0x1FFF1FFF⟩,  -- OUT_DSIZE (R398)
  ⟨0x0D03, 0x0, 0xFFF0FFF, 0x0, 0x0, 0x0, 0x0, 0xFFF0FFF⟩,  -- OUT_CROP0 (R398)
  ⟨0x0D04, 0x0, 0x1FFF1FFF, 0x0, 0x0, 0x0, 0x0, 0x1FFF1FFF⟩,  -- OUT_CROP1 (R398)
  ⟨0x0D05, 0x30, 0x7F7F, 0x0, 0x0, 0x0, 0x0, 0x7F7F⟩,  -- OUT_CODE (R399)
  ⟨0x0D06, 0x4400, 0x7FFF, 0x0, 0x0, 0x0, 0x0, 0x7FFF⟩,  -- OUT_VIS (R400)
  ⟨0x0D07, 0xE4, 0xFF, 0x0, 0x0, 0x0, 0x0, 0x0⟩,  -- OUT_PRIO (R401)
  ⟨0x0D08, 0x0, 0x0, 0x0, 0x0, 0x0, 0x0, 0x0⟩,  -- OUT_SHED (R402)
  ⟨0x0D09, 0x0, 0x0, 0x0, 0x800000, 0x0, 0x0, 0x0⟩,  -- OUT_STAT (R403)
  ⟨0x0D0A, 0x0, 0x0, 0x0, 0x0, 0x0, 0x80000000, 0x0⟩,  -- OUT_ABORT (R404)
  ⟨0x0D0B, 0x0, 0x0, 0x0, 0x0, 0x0, 0x80000000, 0x0⟩,  -- OUT_SLIP (R404)
  ⟨0x0D0C, 0x0, 0x0, 0x0, 0x0, 0x0, 0x80000000, 0x0⟩]  -- OUT_REPEAT (R404)

/-- Bank 0x0E. -/
def regBank0E : List RegDesc := [
  ⟨0x0E00, 0xE400F0, 0xFF0FF3, 0x0, 0x0, 0x0, 0x0, 0x0⟩,  -- LNK_CFG (R443)
  ⟨0x0E01, 0x0, 0x0, 0x0, 0xC000, 0x0, 0x0, 0x0⟩,  -- LNK_STAT (R444)
  ⟨0x0E02, 0x0, 0x1FF, 0x0, 0x0, 0x0, 0x0, 0x0⟩,  -- LNK_FFE0 (R445)
  ⟨0x0E03, 0x0, 0x1FF, 0x0, 0x0, 0x0, 0x0, 0x0⟩,  -- LNK_FFE1 (R445)
  ⟨0x0E04, 0x0, 0x1FF, 0x0, 0x0, 0x0, 0x0, 0x0⟩,  -- LNK_FFE2 (R445)
  ⟨0x0E05, 0x0, 0x1FF, 0x0, 0x0, 0x0, 0x0, 0x0⟩,  -- LNK_FFE3 (R445)
  ⟨0x0E06, 0x8, 0xF, 0x0, 0x0, 0x0, 0x0, 0x0⟩,  -- LNK_SWING (R446)
  ⟨0x0E07, 0x0, 0x0, 0x0, 0x0, 0x0, 0x0, 0x0⟩,  -- LNK_BCEQ (R446)
  ⟨0x0E08, 0x228C, 0x3FFF, 0x0, 0x0, 0x0, 0x0, 0x0⟩,  -- LNK_BCCLAMP (R447)
  ⟨0x0E09, 0x0, 0x0, 0x0, 0x0, 0x0, 0x0, 0x0⟩,  -- LNK_EYE (R447)
  ⟨0x0E0A, 0xA0114, 0xFFFFFF, 0x0, 0x0, 0x0, 0x0, 0x0⟩,  -- LNK_TIMER (R448)
  ⟨0x0E10, 0x0, 0x0, 0x0, 0x0, 0x0, 0x80000000, 0x0⟩,  -- LNK_BCCODE (R449)
  ⟨0x0E11, 0x0, 0x0, 0x0, 0x0, 0x0, 0x80000000, 0x0⟩,  -- LNK_IDLEERR (R449)
  ⟨0x0E12, 0x0, 0x0, 0x0, 0x0, 0x0, 0x80000000, 0x0⟩,  -- LNK_MARKCRC (R449)
  ⟨0x0E13, 0x0, 0x0, 0x0, 0x0, 0x0, 0x80000000, 0x0⟩,  -- LNK_LSTCRC (R449)
  ⟨0x0E14, 0x0, 0x0, 0x0, 0x0, 0x0, 0x80000000, 0x0⟩,  -- LNK_LONGFRM (R449)
  ⟨0x0E15, 0x0, 0x0, 0x0, 0x0, 0x0, 0x80000000, 0x0⟩,  -- LNK_REPLAYS (R449)
  ⟨0x0E16, 0x0, 0x0, 0x0, 0x0, 0x0, 0x80000000, 0x0⟩,  -- LNK_DEGRADES (R449)
  ⟨0x0E17, 0x0, 0x0, 0x0, 0x0, 0x0, 0x80000000, 0x0⟩,  -- LNK_UNRECOV (R449)
  ⟨0x0E18, 0x0, 0xF, 0x0, 0x0, 0x0, 0x0, 0x0⟩,  -- LNK_PRBSSEL (R450)
  ⟨0x0E19, 0x0, 0x0, 0x0, 0x0, 0x0, 0x0, 0x0⟩,  -- LNK_PRBSBITS_LO (R450)
  ⟨0x0E1A, 0x0, 0x0, 0x0, 0x0, 0x0, 0x0, 0x0⟩,  -- LNK_PRBSBITS_HI (R450)
  ⟨0x0E1B, 0x0, 0x0, 0x0, 0x0, 0x0, 0x0, 0x0⟩,  -- LNK_PRBSERR (R450)
  ⟨0x0E1C, 0x3E80000, 0xFFFF3FFF, 0x0, 0x0, 0x0, 0x4000, 0x0⟩,  -- LNK_TEST (R451)
  ⟨0x0E1D, 0x0, 0x3, 0x0, 0x0, 0x0, 0x0, 0x0⟩]  -- LNK_LOOP (R451)

/-- Bank 0x0F. -/
def regBank0F : List RegDesc := [
  ⟨0x0F00, 0x61A800, 0xC, 0x0, 0x0, 0x0, 0x0, 0x0⟩,  -- CLK_CFG (R532)
  ⟨0x0F01, 0x0, 0x0, 0x0, 0x800000, 0x0, 0x0, 0x0⟩,  -- CLK_STAT (R532)
  ⟨0x0F02, 0x800000, 0x1E00000, 0x0, 0x0, 0x0, 0x0, 0x0⟩,  -- CLK_OUT0 (R534)
  ⟨0x0F03, 0x400, 0xFF0F, 0x0, 0x0, 0x0, 0x0, 0x0⟩,  -- CLK_OUT1 (R534)
  ⟨0x0F04, 0x0, 0x0, 0x0, 0x0, 0x0, 0x80000000, 0x0⟩,  -- CLK_REFLOSS (R535)
  ⟨0x0F10, 0x0, 0xC, 0x0, 0x0, 0x0, 0x10, 0x0⟩,  -- CLK_PLL0_CFG (R533)
  ⟨0x0F11, 0x0, 0x0, 0x0, 0x0, 0x0, 0x0, 0x0⟩,  -- CLK_PLL0_STAT (R533)
  ⟨0x0F12, 0x0, 0x0, 0x0, 0x0, 0x0, 0x0, 0x0⟩,  -- CLK_PLL0_PLAN0 (R533)
  ⟨0x0F13, 0x0, 0x0, 0x0, 0x0, 0x0, 0x0, 0x0⟩,  -- CLK_PLL0_PLAN1 (R533)
  ⟨0x0F14, 0x0, 0xC, 0x0, 0x0, 0x0, 0x10, 0x0⟩,  -- CLK_PLL1_CFG (R533)
  ⟨0x0F15, 0x0, 0x0, 0x0, 0x0, 0x0, 0x0, 0x0⟩,  -- CLK_PLL1_STAT (R533)
  ⟨0x0F16, 0x0, 0x0, 0x0, 0x0, 0x0, 0x0, 0x0⟩,  -- CLK_PLL1_PLAN0 (R533)
  ⟨0x0F17, 0x0, 0x0, 0x0, 0x0, 0x0, 0x0, 0x0⟩,  -- CLK_PLL1_PLAN1 (R533)
  ⟨0x0F18, 0x0, 0xC, 0x0, 0x0, 0x0, 0x10, 0x0⟩,  -- CLK_PLL2_CFG (R533)
  ⟨0x0F19, 0x0, 0x0, 0x0, 0x0, 0x0, 0x0, 0x0⟩,  -- CLK_PLL2_STAT (R533)
  ⟨0x0F1A, 0x0, 0x0, 0x0, 0x0, 0x0, 0x0, 0x0⟩,  -- CLK_PLL2_PLAN0 (R533)
  ⟨0x0F1B, 0x0, 0x0, 0x0, 0x0, 0x0, 0x0, 0x0⟩,  -- CLK_PLL2_PLAN1 (R533)
  ⟨0x0F1C, 0x0, 0xC, 0x0, 0x0, 0x0, 0x10, 0x0⟩,  -- CLK_PLL3_CFG (R533)
  ⟨0x0F1D, 0x0, 0x0, 0x0, 0x0, 0x0, 0x0, 0x0⟩,  -- CLK_PLL3_STAT (R533)
  ⟨0x0F1E, 0x0, 0x0, 0x0, 0x0, 0x0, 0x0, 0x0⟩,  -- CLK_PLL3_PLAN0 (R533)
  ⟨0x0F1F, 0x0, 0x0, 0x0, 0x0, 0x0, 0x0, 0x0⟩]  -- CLK_PLL3_PLAN1 (R533)

/-- Bank 0x10. -/
def regBank10 : List RegDesc := [
  ⟨0x1000, 0x0, 0x0, 0x0, 0xC0000, 0x0, 0x0, 0x0⟩,  -- PWR_STAT (R555)
  ⟨0x1001, 0x3E82003C, 0x7FF70000, 0x7F00, 0x0, 0x80000000, 0x0, 0x0⟩,  -- PWR_CORE (R556)
  ⟨0x1002, 0x0, 0x200, 0x0, 0x0, 0x0, 0x0, 0x0⟩,  -- PWR_VCMP (R557)
  ⟨0x1003, 0x406E231F, 0xFFFFFF10, 0x0, 0x0, 0x0, 0x0, 0x0⟩,  -- PWR_SHED (R558)
  ⟨0x1004, 0x1, 0x1, 0x0, 0x0, 0x0, 0x0, 0x0⟩,  -- PWR_RECESS (R559)
  ⟨0x1005, 0x9682, 0xFF, 0xFF00, 0x0, 0x0, 0x0, 0x0⟩,  -- PWR_STG (R559)
  ⟨0x1006, 0x0, 0x0, 0x0, 0x0, 0x0, 0x80000000, 0x0⟩,  -- PWR_HICCUP (R560)
  ⟨0x1007, 0x0, 0x0, 0x0, 0x0, 0x0, 0x0, 0x0⟩]  -- PWR_RCLAST (R560)

/-- Bank 0x11. -/
def regBank11 : List RegDesc := [
  ⟨0x1100, 0x0, 0x0, 0x0, 0x0, 0x0, 0x1, 0x0⟩,  -- HK_CTRL (R583)
  ⟨0x1101, 0x0, 0x0, 0x0, 0x800000, 0x0, 0x0, 0x0⟩,  -- HK_STAT (R583)
  ⟨0x1102, 0x0, 0x0, 0x0, 0x0, 0x0, 0x80000000, 0x0⟩,  -- HK_URGDROP (R584)
  ⟨0x1103, 0xF310, 0xFFFFF, 0x0, 0x0, 0x0, 0x0, 0x0⟩,  -- HK_PLAUS (R584)
  ⟨0x1104, 0x0, 0x0, 0x0, 0x0, 0x0, 0x80000000, 0x0⟩,  -- HK_PLAUSCNT (R584)
  ⟨0x1105, 0x0, 0x0, 0x0, 0x0, 0x0, 0x0, 0x0⟩,  -- HK_PLAUSLAST (R584)
  ⟨0x1120, 0x0, 0x0, 0x0, 0x3000, 0x0, 0x0, 0x0⟩,  -- HK_A_RES0 (R567)
  ⟨0x1121, 0x0, 0x0, 0x0, 0x3000, 0x0, 0x0, 0x0⟩,  -- HK_A_RES1 (R567)
  ⟨0x1122, 0x0, 0x0, 0x0, 0x3000, 0x0, 0x0, 0x0⟩,  -- HK_A_RES2 (R567)
  ⟨0x1123, 0x0, 0x0, 0x0, 0x3000, 0x0, 0x0, 0x0⟩,  -- HK_A_RES3 (R567)
  ⟨0x1124, 0x0, 0x0, 0x0, 0x3000, 0x0, 0x0, 0x0⟩,  -- HK_A_RES4 (R567)
  ⟨0x1125, 0x0, 0x0, 0x0, 0x3000, 0x0, 0x0, 0x0⟩,  -- HK_A_RES5 (R567)
  ⟨0x1126, 0x0, 0x0, 0x0, 0x3000, 0x0, 0x0, 0x0⟩,  -- HK_A_RES6 (R567)
  ⟨0x1127, 0x0, 0x0, 0x0, 0x3000, 0x0, 0x0, 0x0⟩,  -- HK_A_RES7 (R567)
  ⟨0x1128, 0x0, 0x0, 0x0, 0x3000, 0x0, 0x0, 0x0⟩,  -- HK_A_RES8 (R567)
  ⟨0x1129, 0x0, 0x0, 0x0, 0x3000, 0x0, 0x0, 0x0⟩,  -- HK_A_RES9 (R567)
  ⟨0x112A, 0x0, 0x0, 0x0, 0x3000, 0x0, 0x0, 0x0⟩,  -- HK_A_RES10 (R567)
  ⟨0x112B, 0x0, 0x0, 0x0, 0x3000, 0x0, 0x0, 0x0⟩,  -- HK_A_RES11 (R567)
  ⟨0x112C, 0x0, 0x0, 0x0, 0x3000, 0x0, 0x0, 0x0⟩,  -- HK_A_RES12 (R567)
  ⟨0x112D, 0x0, 0x0, 0x0, 0x3000, 0x0, 0x0, 0x0⟩,  -- HK_A_RES13 (R567)
  ⟨0x112E, 0x0, 0x0, 0x0, 0x3000, 0x0, 0x0, 0x0⟩,  -- HK_A_RES14 (R567)
  ⟨0x112F, 0x0, 0x0, 0x0, 0x3000, 0x0, 0x0, 0x0⟩,  -- HK_A_RES15 (R567)
  ⟨0x1130, 0x0, 0x0, 0x0, 0x3000, 0x0, 0x0, 0x0⟩,  -- HK_A_RES16 (R567)
  ⟨0x1131, 0x0, 0x0, 0x0, 0x3000, 0x0, 0x0, 0x0⟩,  -- HK_A_RES17 (R567)
  ⟨0x1132, 0x0, 0x0, 0x0, 0x3000, 0x0, 0x0, 0x0⟩,  -- HK_A_RES18 (R567)
  ⟨0x1133, 0x0, 0x0, 0x0, 0x3000, 0x0, 0x0, 0x0⟩,  -- HK_A_RES19 (R567)
  ⟨0x1134, 0x0, 0x0, 0x0, 0x3000, 0x0, 0x0, 0x0⟩,  -- HK_A_RES20 (R567)
  ⟨0x1135, 0x0, 0x0, 0x0, 0x3000, 0x0, 0x0, 0x0⟩,  -- HK_A_RES21 (R567)
  ⟨0x1136, 0x0, 0x0, 0x0, 0x3000, 0x0, 0x0, 0x0⟩,  -- HK_A_RES22 (R567)
  ⟨0x1137, 0x0, 0x0, 0x0, 0x3000, 0x0, 0x0, 0x0⟩,  -- HK_A_RES23 (R567)
  ⟨0x1138, 0x0, 0x0, 0x0, 0x3000, 0x0, 0x0, 0x0⟩,  -- HK_A_RES24 (R567)
  ⟨0x1139, 0x0, 0x0, 0x0, 0x3000, 0x0, 0x0, 0x0⟩,  -- HK_A_RES25 (R567)
  ⟨0x113A, 0x0, 0x0, 0x0, 0x3000, 0x0, 0x0, 0x0⟩,  -- HK_A_RES26 (R567)
  ⟨0x113B, 0x0, 0x0, 0x0, 0x3000, 0x0, 0x0, 0x0⟩,  -- HK_A_RES27 (R567)
  ⟨0x113C, 0x0, 0x0, 0x0, 0x3000, 0x0, 0x0, 0x0⟩,  -- HK_A_RES28 (R567)
  ⟨0x113D, 0x0, 0x0, 0x0, 0x3000, 0x0, 0x0, 0x0⟩,  -- HK_A_RES29 (R567)
  ⟨0x113E, 0x0, 0x0, 0x0, 0x3000, 0x0, 0x0, 0x0⟩,  -- HK_A_RES30 (R567)
  ⟨0x113F, 0x0, 0x0, 0x0, 0x3000, 0x0, 0x0, 0x0⟩,  -- HK_A_RES31 (R567)
  ⟨0x1140, 0x0, 0x0, 0x0, 0x3000, 0x0, 0x0, 0x0⟩,  -- HK_B_RES0 (R567)
  ⟨0x1141, 0x0, 0x0, 0x0, 0x3000, 0x0, 0x0, 0x0⟩,  -- HK_B_RES1 (R567)
  ⟨0x1142, 0x0, 0x0, 0x0, 0x3000, 0x0, 0x0, 0x0⟩,  -- HK_B_RES2 (R567)
  ⟨0x1143, 0x0, 0x0, 0x0, 0x3000, 0x0, 0x0, 0x0⟩,  -- HK_B_RES3 (R567)
  ⟨0x1144, 0x0, 0x0, 0x0, 0x3000, 0x0, 0x0, 0x0⟩,  -- HK_B_RES4 (R567)
  ⟨0x1145, 0x0, 0x0, 0x0, 0x3000, 0x0, 0x0, 0x0⟩,  -- HK_B_RES5 (R567)
  ⟨0x1146, 0x0, 0x0, 0x0, 0x3000, 0x0, 0x0, 0x0⟩,  -- HK_B_RES6 (R567)
  ⟨0x1147, 0x0, 0x0, 0x0, 0x3000, 0x0, 0x0, 0x0⟩,  -- HK_B_RES7 (R567)
  ⟨0x1148, 0x0, 0x0, 0x0, 0x3000, 0x0, 0x0, 0x0⟩,  -- HK_B_RES8 (R567)
  ⟨0x1149, 0x0, 0x0, 0x0, 0x3000, 0x0, 0x0, 0x0⟩,  -- HK_B_RES9 (R567)
  ⟨0x114A, 0x0, 0x0, 0x0, 0x3000, 0x0, 0x0, 0x0⟩,  -- HK_B_RES10 (R567)
  ⟨0x114B, 0x0, 0x0, 0x0, 0x3000, 0x0, 0x0, 0x0⟩,  -- HK_B_RES11 (R567)
  ⟨0x114C, 0x0, 0x0, 0x0, 0x3000, 0x0, 0x0, 0x0⟩,  -- HK_B_RES12 (R567)
  ⟨0x114D, 0x0, 0x0, 0x0, 0x3000, 0x0, 0x0, 0x0⟩,  -- HK_B_RES13 (R567)
  ⟨0x114E, 0x0, 0x0, 0x0, 0x3000, 0x0, 0x0, 0x0⟩,  -- HK_B_RES14 (R567)
  ⟨0x114F, 0x0, 0x0, 0x0, 0x3000, 0x0, 0x0, 0x0⟩,  -- HK_B_RES15 (R567)
  ⟨0x1150, 0x0, 0x0, 0x0, 0x3000, 0x0, 0x0, 0x0⟩,  -- HK_B_RES16 (R567)
  ⟨0x1151, 0x0, 0x0, 0x0, 0x3000, 0x0, 0x0, 0x0⟩,  -- HK_B_RES17 (R567)
  ⟨0x1152, 0x0, 0x0, 0x0, 0x3000, 0x0, 0x0, 0x0⟩,  -- HK_B_RES18 (R567)
  ⟨0x1153, 0x0, 0x0, 0x0, 0x3000, 0x0, 0x0, 0x0⟩,  -- HK_B_RES19 (R567)
  ⟨0x1154, 0x0, 0x0, 0x0, 0x3000, 0x0, 0x0, 0x0⟩,  -- HK_B_RES20 (R567)
  ⟨0x1155, 0x0, 0x0, 0x0, 0x3000, 0x0, 0x0, 0x0⟩,  -- HK_B_RES21 (R567)
  ⟨0x1156, 0x0, 0x0, 0x0, 0x3000, 0x0, 0x0, 0x0⟩,  -- HK_B_RES22 (R567)
  ⟨0x1157, 0x0, 0x0, 0x0, 0x3000, 0x0, 0x0, 0x0⟩,  -- HK_B_RES23 (R567)
  ⟨0x1158, 0x0, 0x0, 0x0, 0x3000, 0x0, 0x0, 0x0⟩,  -- HK_B_RES24 (R567)
  ⟨0x1159, 0x0, 0x0, 0x0, 0x3000, 0x0, 0x0, 0x0⟩,  -- HK_B_RES25 (R567)
  ⟨0x115A, 0x0, 0x0, 0x0, 0x3000, 0x0, 0x0, 0x0⟩,  -- HK_B_RES26 (R567)
  ⟨0x115B, 0x0, 0x0, 0x0, 0x3000, 0x0, 0x0, 0x0⟩,  -- HK_B_RES27 (R567)
  ⟨0x115C, 0x0, 0x0, 0x0, 0x3000, 0x0, 0x0, 0x0⟩,  -- HK_B_RES28 (R567)
  ⟨0x115D, 0x0, 0x0, 0x0, 0x3000, 0x0, 0x0, 0x0⟩,  -- HK_B_RES29 (R567)
  ⟨0x115E, 0x0, 0x0, 0x0, 0x3000, 0x0, 0x0, 0x0⟩,  -- HK_B_RES30 (R567)
  ⟨0x115F, 0x0, 0x0, 0x0, 0x3000, 0x0, 0x0, 0x0⟩]  -- HK_B_RES31 (R567)

/-- Bank 0x12. -/
def regBank12 : List RegDesc := [
  ⟨0x1200, 0x1E1469, 0xFF7F7F, 0x0, 0x0, 0x0, 0x0, 0x0⟩,  -- THM_CFG (R585)
  ⟨0x1201, 0x0, 0x0, 0x0, 0x800000, 0x0, 0x0, 0x0⟩,  -- THM_STAT (R585)
  ⟨0x1202, 0x0, 0x0, 0x0, 0x0, 0x0, 0x0, 0x0⟩,  -- THM_MAX (R586)
  ⟨0x1203, 0x0, 0x0, 0x0, 0x0, 0x0, 0x0, 0x0⟩,  -- THM_PEAK (R586)
  ⟨0x1204, 0x18BB8414, 0xFFFFFFFF, 0x0, 0x0, 0x0, 0x0, 0x0⟩,  -- THM_HTR (R587)
  ⟨0x1205, 0x0, 0x0, 0x0, 0x0, 0x0, 0x0, 0x0⟩,  -- THM_HTRSTAT (R587)
  ⟨0x1210, 0x0, 0x0, 0x0, 0x0, 0x0, 0x0, 0x0⟩,  -- THM_TEMP0 (R586)
  ⟨0x1211, 0x0, 0x0, 0x0, 0x0, 0x0, 0x0, 0x0⟩,  -- THM_TEMP1 (R586)
  ⟨0x1212, 0x0, 0x0, 0x0, 0x0, 0x0, 0x0, 0x0⟩,  -- THM_TEMP2 (R586)
  ⟨0x1213, 0x0, 0x0, 0x0, 0x0, 0x0, 0x0, 0x0⟩,  -- THM_TEMP3 (R586)
  ⟨0x1214, 0x0, 0x0, 0x0, 0x0, 0x0, 0x0, 0x0⟩,  -- THM_TEMP4 (R586)
  ⟨0x1215, 0x0, 0x0, 0x0, 0x0, 0x0, 0x0, 0x0⟩,  -- THM_TEMP5 (R586)
  ⟨0x1216, 0x0, 0x0, 0x0, 0x0, 0x0, 0x0, 0x0⟩,  -- THM_TEMP6 (R586)
  ⟨0x1217, 0x0, 0x0, 0x0, 0x0, 0x0, 0x0, 0x0⟩,  -- THM_TEMP7 (R586)
  ⟨0x1218, 0x0, 0x0, 0x0, 0x0, 0x0, 0x0, 0x0⟩,  -- THM_TEMP8 (R586)
  ⟨0x1219, 0x0, 0x0, 0x0, 0x0, 0x0, 0x0, 0x0⟩]  -- THM_TEMP9 (R586)

/-- Bank 0x13. -/
def regBank13 : List RegDesc := [
  ⟨0x1300, 0x0, 0x0, 0x0, 0x0, 0x0, 0x0, 0x0⟩,  -- OTP_STAT (R610)
  ⟨0x1301, 0x0, 0x0, 0x0, 0x0, 0x0, 0x0, 0x0⟩,  -- OTP_CSTAT (R611)
  ⟨0x1302, 0x0, 0x0, 0x0, 0x0, 0x3F, 0x0, 0x0⟩,  -- OTP_LOCK (R612)
  ⟨0x1303, 0x0, 0x0, 0x0, 0x0, 0x0, 0x0, 0x0⟩,  -- OTP_COMPAT_LOCK (R612)
  ⟨0x1304, 0x0, 0x0, 0x0, 0x0, 0x0, 0x0, 0x0⟩,  -- OTP_MARGCNT (R613)
  ⟨0x1305, 0x0, 0x0, 0x0, 0x0, 0x0, 0x0, 0x0⟩,  -- OTP_MARGLAST (R613)
  ⟨0x1306, 0x0, 0x0, 0x0, 0x0, 0x0, 0x0, 0x0⟩,  -- OTP_FW_VERSION (R614)
  ⟨0x1307, 0x0, 0x0, 0x0, 0x0, 0x0, 0x0, 0x0⟩]  -- OTP_KEY_EPOCH (R614)

/-- Bank 0x14. -/
def regBank14 : List RegDesc := [
  ⟨0x1400, 0x0, 0x0, 0x0, 0x0, 0x0, 0x0, 0x0⟩,  -- SEC_STAT (R636)
  ⟨0x1401, 0x0, 0x0, 0x0, 0x0, 0x0, 0x0, 0x0⟩,  -- SEC_SESSID (R636)
  ⟨0x1402, 0x0, 0x0, 0x0, 0x0, 0x0, 0x0, 0x0⟩,  -- SEC_LIVE (R636)
  ⟨0x1403, 0x100101, 0xFF07FF, 0x0, 0x0, 0x0, 0x0, 0x0⟩,  -- SEC_QUIZ (R637)
  ⟨0x1404, 0x0, 0x0, 0x0, 0x0, 0x0, 0x0, 0x0⟩,  -- SEC_ALARM (R638)
  ⟨0x1405, 0x296A6, 0x0, 0x3FFFF, 0x0, 0x80000000, 0x0, 0x0⟩,  -- SEC_ALARM_LVL (R638)
  ⟨0x1406, 0x0, 0x0, 0x0, 0x0, 0x0, 0x80000000, 0x0⟩,  -- SEC_AUTHFAIL (R639)
  ⟨0x1407, 0x0, 0x0, 0x0, 0x0, 0x0, 0x80000000, 0x0⟩,  -- SEC_QUIZFAIL (R639)
  ⟨0x1408, 0x0, 0x0, 0x0, 0x0, 0x0, 0x80000000, 0x0⟩,  -- SEC_ALARMCNT (R639)
  ⟨0x1409, 0x0, 0x0, 0x0, 0x0, 0x0, 0x0, 0x0⟩]  -- SEC_LASTNONCE (R637)

/-- Bank 0x15. -/
def regBank15 : List RegDesc := [
  ⟨0x1500, 0x140100, 0x3F03F7, 0x0, 0x0, 0x0, 0x0, 0x0⟩,  -- REC_CFG (R656)
  ⟨0x1501, 0xBB81388, 0xFFFFFFFF, 0x0, 0x0, 0x0, 0x0, 0x0⟩,  -- REC_CLIP (R656)
  ⟨0x1502, 0x0, 0x0, 0x0, 0x800000, 0x0, 0x0, 0x0⟩,  -- REC_STAT (R657)
  ⟨0x1503, 0x0, 0x0, 0x0, 0x0, 0x0, 0x0, 0x0⟩,  -- REC_CLIPS (R658)
  ⟨0x1504, 0x0, 0x0, 0x0, 0x0, 0x0, 0x0, 0x0⟩,  -- REC_FREE (R658)
  ⟨0x1505, 0x0, 0x0, 0x0, 0x0, 0x0, 0x0, 0x0⟩,  -- REC_CBFILL (R658)
  ⟨0x1506, 0x0, 0x0, 0x0, 0x0, 0x0, 0x0, 0x0⟩,  -- REC_WEAR (R658)
  ⟨0x1507, 0x0, 0x0, 0x0, 0x0, 0x0, 0x0, 0x0⟩,  -- REC_WRITTEN (R658)
  ⟨0x1508, 0x0, 0x0, 0x0, 0x0, 0x0, 0x80000000, 0x0⟩,  -- REC_RINGDROP (R658)
  ⟨0x1509, 0x0, 0x0, 0x0, 0x0, 0x0, 0x80000000, 0x0⟩,  -- REC_TORN (R658)
  ⟨0x150A, 0x0, 0x0, 0x0, 0x0, 0x0, 0x80000000, 0x0⟩]  -- REC_IOERR (R658)

/-- Bank 0x16. -/
def regBank16 : List RegDesc := [
  ⟨0x1600, 0x0, 0x0, 0x0, 0x0, 0x0, 0x0, 0x0⟩,  -- SAF_ACTIVE (R671)
  ⟨0x1601, 0x0, 0x0, 0x0, 0x1FFFFF, 0x0, 0x0, 0x0⟩,  -- SAF_LATCHED (R671)
  ⟨0x1602, 0xFFF, 0x1FF000, 0x0, 0x0, 0x0, 0x0, 0x0⟩,  -- SAF_FNMAP (R671)
  ⟨0x1603, 0x64, 0x0, 0xFFFF, 0x0, 0x80000000, 0x10000, 0x0⟩,  -- SAF_WDOG (R672)
  ⟨0x1604, 0x3, 0x0, 0xF, 0x0, 0x0, 0x0, 0x0⟩,  -- SAF_DSTALL (R672)
  ⟨0x1605, 0x0, 0x0, 0x0, 0x0, 0x0, 0x80000000, 0x0⟩,  -- SAF_RESTARTS (R673)
  ⟨0x1606, 0x0, 0x0, 0x0, 0x0, 0x0, 0x0, 0x0⟩,  -- SAF_LAST (R673)
  ⟨0x1607, 0x0, 0x0, 0x0, 0x0, 0x0, 0x0, 0x0⟩,  -- SAF_FWSTAT (R674)
  ⟨0x1610, 0x0, 0x0, 0x0, 0x0, 0x0, 0x80000000, 0x0⟩,  -- SAF_ECC0 (R675)
  ⟨0x1611, 0x0, 0x0, 0x0, 0x0, 0x0, 0x80000000, 0x0⟩,  -- SAF_ECC1 (R675)
  ⟨0x1612, 0x0, 0x0, 0x0, 0x0, 0x0, 0x80000000, 0x0⟩,  -- SAF_ECC2 (R675)
  ⟨0x1613, 0x0, 0x0, 0x0, 0x0, 0x0, 0x80000000, 0x0⟩,  -- SAF_ECC3 (R675)
  ⟨0x1614, 0x0, 0x0, 0x0, 0x0, 0x0, 0x80000000, 0x0⟩,  -- SAF_ECC4 (R675)
  ⟨0x1615, 0x0, 0x0, 0x0, 0x0, 0x0, 0x80000000, 0x0⟩,  -- SAF_ECC5 (R675)
  ⟨0x1616, 0x0, 0x0, 0x0, 0x0, 0x0, 0x80000000, 0x0⟩]  -- SAF_ECC6 (R675)

/-- The registers of bank `b` (R691). -/
def regBank (b : Nat) : List RegDesc :=
  match b with
  | 0x00 => regBank00
  | 0x01 => regBank01
  | 0x02 => regBank02
  | 0x03 => regBank03
  | 0x04 => regBank04
  | 0x05 => regBank05
  | 0x06 => regBank06
  | 0x07 => regBank07
  | 0x08 => regBank08
  | 0x09 => regBank09
  | 0x0A => regBank0A
  | 0x0B => regBank0B
  | 0x0C => regBank0C
  | 0x0D => regBank0D
  | 0x0E => regBank0E
  | 0x0F => regBank0F
  | 0x10 => regBank10
  | 0x11 => regBank11
  | 0x12 => regBank12
  | 0x13 => regBank13
  | 0x14 => regBank14
  | 0x15 => regBank15
  | 0x16 => regBank16
  | _ => []

/-- The register at address `a`, if a chapter assigns that address (R482). -/
def findReg (a : Nat) : Option RegDesc :=
  (regBank (a / 256)).find? (fun r => r.addr == a)

end Sys2Proof.Machine
end

