-- ==== Sys2Proof/Machine/Mem.lean ====
section
/-!
DEFINITION. The one memory of the device: the registers of every bank (R10), the memory windows (R484), and the words the
device keeps inside, all as a list of keys and words in one canonical form. A register's key is its address. Word `i` of
window `w` has the key `wkey w i`.
-/

namespace Sys2Proof.Machine

open Sys2Proof (Word)

/-- Where every word of the device's registers, windows and stores is found. -/
abbrev View := Nat → Word

/-- The key of word `i` of window `wid` (R484). -/
def wkey (wid i : Nat) : Nat := wid * 2 ^ 24 + i

/-- The registers of the device that a power-on or RESET_N leaves at the values of their tables. -/
def regReset (a : Nat) : Nat :=
  match findReg a with
  | some d => d.reset
  | none => 0

/-- Window of the internal MTP memory of the power die: 8,192 bytes (R552), nonvolatile. -/
def widMtp : Nat := 0xFE00
/-- TT.TEMPLATE as the table path fills it (R102, R484). -/
def widTplBuf : Nat := 0xFD00
/-- The template as EVENT_TABLE_LOAD has loaded it so far (R119). -/
def widTplLoad : Nat := 0xFD01
/-- The template in force or staged that a host loaded (R103). -/
def widTpl : Nat := 0xFD02
/-- The Homeroom buffer that TABLE_WRITE fills (R500). -/
def widHrBuf : Nat := 0xFD03
/-- Firmware images A and B as staged in the eMMC boot partitions (R667), nonvolatile. -/
def widBootA : Nat := 0xFE02
def widBootB : Nat := 0xFE03

/-- The windows whose words power-off does not clear: MTP (R552) and the eMMC (R640). -/
def nonvolatile (key : Nat) : Bool := 0xFE00 * 2 ^ 24 ≤ key

/-- The housekeeping sequences in force (R562); those of 0x1100 and 0x1101 are the staged copies (R570). -/
def widSeqA : Nat := 0xFD05
def widSeqB : Nat := 0xFD06

/-- A NORMAL entry of a built-in sequence: SETTLE 1, OW 0 (R564). -/
def seqNormal (ch : Nat) (slow : Bool) : Nat := ch + 2 ^ 8 + (if slow then 2 ^ 13 else 0)

/-- The built-in sequence of HKA (R564). -/
def seqBuiltA : List Nat :=
  [0x08 + 64, 0x09 + 128, 0x0A + 128, 0x0B + 128] ++ ([0, 1, 2, 3, 4].map (fun c => seqNormal c false)) ++
    ([0x18, 0x19, 0x1A, 0x1B, 0x1C, 0x0D, 0x0C, 0x0E, 0x14].map (fun c => seqNormal c true)) ++ [192]

/-- The built-in sequence of HKB (R564). -/
def seqBuiltB : List Nat :=
  ([5, 7, 6, 0, 4, 0x0F].map (fun c => seqNormal c false)) ++
    ([0x1D, 0x1E, 0x1F, 0x20, 0x21, 0x10, 0x11, 0x12, 0x13, 0x0C, 0x14, 0x15, 0x16].map (fun c => seqNormal c true)) ++ [192]

/-- Knots 1 to 31 of HK.NTC after reset, in 1/16 °C: the beta curve of the NTC of R581 under the divider of R582, to the nearest
code. DEDUCED from the two values that R581 gives. -/
def ntcKnots : List Int :=
  [2426, 1866, 1570, 1369, 1218, 1096, 993, 903, 823, 750, 684, 621, 562, 506, 452, 400, 349, 298, 248, 197, 146, 94, 41, -15,
   -75, -139, -209, -289, -385, -508, -695]

/-- What a window's words read as at reset (R70, R102, R157, R158, R265, R269, R318, R562, R564, R582). -/
def winReset (wid i : Nat) : Nat :=
  match wid with
  | 0x0600 => if i % 2 = 0 then 0x4F else 0xABA0
  | 0x0A00 => 1024 * (i % 33)
  | 0x0A02 => roundUp (65535 * (i % 257)) 256
  | 0x0B02 => roundUp (65535 * (i % 257)) 256
  | 0x1100 => seqBuiltA.getD i 0
  | 0x1101 => seqBuiltB.getD i 0
  | 0xFD05 => seqBuiltA.getD i 0
  | 0xFD06 => seqBuiltB.getD i 0
  | 0x1102 => if i = 0 ∨ 32 ≤ i then Config.ntcEnd i % 65536 else unsigned 16 (ntcKnots.getD (i - 1) 0)
  | _ => 0

/-- The reset value of a key. -/
def memReset (key : Nat) : Word :=
  if key < 0x10000 then w32 (regReset key)
  else if key < 2 ^ 24 then 0#32
  else w32 (winReset (key / 2 ^ 24) (key % 2 ^ 24))

/-- Keys and words, keys strictly rising, no word equal to its key's reset value. -/
abbrev Mem := List (Nat × Word)

namespace Mem

/-- The word at a key. -/
def get (m : Mem) (k : Nat) : Word :=
  match m.find? (fun p => p.1 == k) with
  | some p => p.2
  | none => memReset k

/-- The entries of words written from key `k` on: none for a word that equals its key's reset value. -/
def cells : Nat → List Word → Mem
  | _, [] => []
  | k, w :: ws => if w = memReset k then cells (k + 1) ws else (k, w) :: cells (k + 1) ws

/-- The words `ws` written at the keys from `k` on. -/
def setRun (m : Mem) (k : Nat) (ws : List Word) : Mem :=
  m.filter (fun p => decide (p.1 < k)) ++ (cells k ws ++ m.filter (fun p => decide (k + ws.length ≤ p.1)))

/-- The word `w` written at key `k`. -/
def set (m : Mem) (k : Nat) (w : Word) : Mem := setRun m k [w]

/-- The keys from `k` to `k + n - 1` at their reset values. -/
def clearRun (m : Mem) (k n : Nat) : Mem :=
  m.filter (fun p => decide (p.1 < k)) ++ m.filter (fun p => decide (k + n ≤ p.1))

/-- The canonical form: keys strictly rising, no word at its reset value. -/
abbrev wf (m : Mem) : Prop := m.Pairwise (fun a b => a.1 < b.1) ∧ ∀ p ∈ m, p.2 ≠ memReset p.1

end Mem

/-- The value of a field in a view (R10). -/
def fld (v : View) (f : Fld) : Nat := bits (v f.addr) f.lo f.len

/-- The value of a signed field in a view (R6). -/
def sfld (v : View) (f : Fld) : Int := signed f.len (fld v f)

/-- A field of one bit, as a flag. -/
def vtst (v : View) (f : Fld) : Bool := fld v f != 0

/-- Words written over a view, in the order in which they were written: the staged, pending and taken sets (R111). -/
abbrev Overlay := List (Nat × Word)

namespace Overlay

/-- The word an overlay holds at a key. -/
def get? (o : Overlay) (k : Nat) : Option Word :=
  match o.find? (fun p => p.1 == k) with
  | some p => some p.2
  | none => none

/-- The overlay with `w` at key `k`. -/
def put (o : Overlay) (k : Nat) (w : Word) : Overlay := (k, w) :: o.filter (fun p => p.1 != k)

/-- The words `ws` put at the keys from `k` on. -/
def putRun (o : Overlay) (k : Nat) (ws : List Word) : Overlay :=
  ((List.range ws.length).zip ws).map (fun p => (k + p.1, p.2)) ++
    o.filter (fun p => decide (p.1 < k ∨ k + ws.length ≤ p.1))

end Overlay

/-- The bits of a key that are staged: those its register table marks, and the whole word of a window or an internal word. -/
def stagedMask (k : Nat) : Nat :=
  if k < 0x10000 then
    match findReg k with
    | some d => d.stg
    | none => 0
  else 0xFFFFFFFF

/-- A view with an overlay on it: staged bits from the overlay, the others from below. -/
def View.over (v : View) (o : Overlay) : View := fun k =>
  match o.get? k with
  | some w => keepMask w (stagedMask k) ||| clearMask (v k) (stagedMask k)
  | none => v k

end Sys2Proof.Machine
end

