-- ==== Sys2Proof/Machine/State.lean ====
section
/-!
DEFINITION. The state of the device: the one memory of registers, windows and stores, the staged, pending and taken sets
over it, and beside it what the blocks keep that no register holds whole. Everything is plain data.
-/

namespace Sys2Proof.Machine

open Sys2Proof (Word Byte Pkt Instr)

/-! ### The command front end -/

/-- A CONTROL packet: a reply (R469) or an event (R478). -/
inductive Ctl where
  | reply (op tag gen status fn : Nat) (payload : List Word)
  | event (code count : Nat) (lost : Bool) (fn : Nat) (payload : List Word)
  deriving DecidableEq, Repr

/-- A packet held in the receive buffer (R29, R473), with the tags of the TRIGGER_FIRE commands that were open when it came. -/
structure Held where
  op : Nat
  pkt : Pkt
  fires : List Nat
  deriving DecidableEq, Repr

/-- A command that was taken and whose final reply has not been sent (R461, R472). -/
structure OpenCmd where
  op : Nat
  tag : Nat
  gen : Nat
  deriving DecidableEq, Repr

/-- An entry of the event queue (R479). -/
structure EvEntry where
  code : Nat
  count : Nat
  fn : Nat
  payload : List Word
  deriving DecidableEq, Repr

/-- The command front end: the receive buffer in order of arrival, the open commands, the CONTROL packets that wait for the
link and those sent, the event queue with its LOST flag, the released credits, and the SEQ of the last good packet. -/
structure Fe where
  held : List Held
  opn : List OpenCmd
  waiting : List Ctl
  out : List Ctl
  events : List EvEntry
  lost : Bool
  hdrRel : Nat
  payRel : Nat
  lastSeq : Option Nat
  lastSeqVal : Nat
  evMask : Nat
  deriving DecidableEq, Repr

/-! ### Modes, start-up and the firmware -/

/-- Where the device stands between no power and running (R494, R495). -/
inductive Phase where
  /-- VIN below 4.5 V: the power die does not run. -/
  | unpowered
  /-- The power die runs; the device is in reset. -/
  | reset
  /-- Reset is released and the boot ROM works through R495 before FN 0. -/
  | boot
  /-- Frames can be read. -/
  | run
  deriving DecidableEq, Repr

/-- Which program serves commands (R27, R28, R504, R665). -/
inductive Fw where
  /-- The boot ROM, before take-over: packets are held. -/
  | rom
  /-- The firmware. -/
  | running
  /-- A restart is under way: packets are held. -/
  | restarting
  /-- The boot ROM in LIMP: it serves the LI column of R489. -/
  | limp
  deriving DecidableEq, Repr

/-- A mode change that is decided and has not landed (R488): its target, when it was decided, and once its COMMIT event has
come the frame it lands on. -/
structure ModeChange where
  target : Nat
  decided : Nat
  land : Option Nat
  deriving DecidableEq, Repr

/-- A frame record (R644): its KIND (1 coding, 2 parking), FN, the word of its picture's size as FRAME_START carries it, the bytes
of its content, header and footer, and the content: a codestream, or the cells of a parking picture. -/
structure RecFrame where
  kind : Nat
  fn : Nat
  size : Word
  bytes : Nat
  hdr : List Word
  ftr : List Word
  content : List Word
  deriving DecidableEq, Repr

/-- PARKING_WATCH (R505 to R512): its settings, the cell references, the last 16 cell pictures as frame records (oldest first), when
the mode was entered, the frames since, the consecutive moving frames, the frames without a wake still to pass, the TL of the cell
pictures, when command traffic was last seen, and whether the lanes are idle. -/
structure Park where
  dth : Nat
  ncell : Nat
  nfrm : Nat
  autostream : Bool
  record : Bool
  refs : List Rat
  pics : List RecFrame
  since : Nat
  frames : Nat
  moving : Nat
  holdoff : Nat
  tl : Nat
  lastTraffic : Nat
  idle : Bool
  deriving DecidableEq, Repr

/-- A write of MTP that is under way (R500, R502, R553): the key and words it stores, and the command that waits for it. -/
structure MtpWrite where
  key : Nat
  words : List Word
  tag : Option (Nat × Nat)
  deriving DecidableEq, Repr

/-- Modes, start-up, Roll Call, LIMP, the firmware and WAKE. -/
structure Sys where
  phase : Phase
  resetN : Bool
  fw : Fw
  fwReady : Bool
  /-- Whether the boot ROM has loaded and verified an image (R503). -/
  imageGood : Bool
  takenOver : Bool
  mode : Nat
  prev : Nat
  firstFn : Nat
  chg : Option ModeChange
  limpDue : Option Nat
  limpCause : Nat
  warm : Bool
  hrSrc : Nat
  image : Nat
  origin : Nat
  tExp : Nat
  tTake : Nat
  firstDisp : Option Nat
  tDisp : Nat
  rollFails : Nat
  rollUs : Nat
  rollUs2 : Nat
  rollDone : Bool
  dramReady : Bool
  black : Bool
  romAeClose : Bool
  romStepFn : Option Nat
  park : Park
  /-- Since when the device pulls WAKE low (R511). -/
  wakeLow : Option Nat
  warmAt : Option Nat
  mtpQueue : List MtpWrite
  /-- The failed bond groups as (PBX, PBY) (R37, R54). -/
  bonds : List (Nat × Nat)
  deriving DecidableEq, Repr

/-! ### The Timetable -/

/-- A valid line mark: its LINE and HFC, and when its first symbol arrived, in TB and in `clk` (R89). -/
structure MarkAt where
  line : Nat
  hfc : Nat
  tb : Nat
  at_ : Nat
  deriving DecidableEq, Repr

/-- The Timetable. `clk` counts the time since power came in units of 2^-20 periods of the counter clock of PLL-C, so that one
sub-row slot lasts as many units as TT_RP counts 1/65,536 periods; `tb` is TB with `tbRem` the part below its least bit.
`rl` is the RL estimate in the same units, as a fraction; none while TB follows TT_RLNOM. -/
structure Tt where
  clk : Nat
  tb : Nat
  tbRem : Nat
  rl : Option (Nat × Nat)
  lock : Nat
  acqStep : Nat
  first : Option MarkAt
  runLen : Nat
  last : Option MarkAt
  agree : Nat
  jump : List MarkAt
  acqAt : Nat
  acqLate : Bool
  tracked : Bool
  coastAt : Nat
  absorbing : Bool
  shorten : Bool
  remaining : Nat
  /-- The frequency correction, and that of R93 step 1, in 2^-20 of 0.01 ppm. -/
  corr : Int
  corrRef : Int
  /-- The integral of the loop of R95. -/
  loopInt : Int
  /-- Since when the correction ramps to 0 (R117). -/
  rampAt : Option Nat
  bound : Nat
  slip : Bool
  rlNom : Nat
  act0 : Nat
  actN : Nat
  period : Nat
  rateVt : Nat
  stretch : Bool
  run : Bool
  started : Bool
  fn : Nat
  rp0 : Nat
  rp0Tb : Nat
  rpCur : Nat
  vcur : Nat
  vPrev : Nat
  joined : Bool
  startDue : Option Nat
  /-- How many of the COMMIT events of the frame being read and of the next one have come. -/
  committed : Nat
  tplErr : Bool
  strobe : Bool
  /-- When the last STROBE_ON and the last STROBE_OFF came. -/
  strobeOnAt : Option Nat
  strobeOffAt : Option Nat
  /-- The frames that a STROBE_ON has lit, newest first (R275). -/
  lit : List Nat
  lstep : Bool
  deriving DecidableEq, Repr

/-- The pending set (R111): the words it holds, and when and at which RP its REQ was set. -/
structure PendSet where
  ov : Overlay
  reqAt : Nat
  rp : Nat
  byRom : Bool
  deriving DecidableEq, Repr

/-- A set taken at a COMMIT event and the frame it applies from (R112). -/
structure TakenSet where
  fn : Nat
  ov : Overlay
  deriving DecidableEq, Repr

/-! ### Sequences and auto-exposure -/

/-- A sequence frame that the engine has committed (R160, R162): its FN, its entry, the passes completed before it, and the words of
its entry and word 0 of its context as they were when it was committed. -/
structure SeqFrame where
  fn : Nat
  ent : Nat
  pass : Nat
  entry : Word
  ctx : Word
  deriving DecidableEq, Repr

/-- A sequence that runs (R159 to R163): its first frame, its passes, the base set, the next frame to commit with its entry and
the frames of that entry already placed, the fixed reference TL, the last frame once a stop is scheduled, whether the base set
has been committed for the frame after it, whether a Bell event started it (R241), and the frames committed. -/
structure SeqRun where
  start : Nat
  loops : Nat
  base : List (Nat × Word)
  next : Nat
  ent : Nat
  rep : Nat
  pass : Nat
  tlRef : Nat
  last : Option Nat
  back : Bool
  trig : Bool
  frames : List SeqFrame
  deriving DecidableEq, Repr

/-- The sequence engine and what auto-exposure and auto white balance keep: AE's TL while contexts carry the frame's, the sets that
each has last worked on, the effective D_S of the frame being read and of the one before it (R141), and the last frames of the
sequence that ended. -/
structure Exp where
  seq : Option SeqRun
  aeTl : Nat
  aeDone : Option Nat
  awbDone : Option Nat
  dsEff : Nat
  dsPrev : Nat
  ended : List SeqFrame
  deriving DecidableEq, Repr

/-! ### The Bell -/

/-- A Bell event: when it happened, in `clk` and in TB, and the tag of the TRIGGER_FIRE that raised it. -/
structure BellEv where
  at_ : Nat
  tb : Nat
  tag : Option Nat
  deriving DecidableEq, Repr

/-- The Bell (R238 to R246): busy, the event that waits for its slot boundary, the held event, the scheduled AT with its tag,
the TB of the last event taken, and the frame whose end ends the busy time. -/
structure Bel where
  busy : Bool
  raised : Option BellEv
  queue : Option BellEv
  sched : Option (Nat × Nat)
  lastTb : Nat
  lastFn : Nat
  deriving DecidableEq, Repr

/-! ### Converters -/

/-- A full hold bank (R56): the converter of each column that holds it (0 to 3) and which of its three banks it is, in all 4,144 columns
alike, with the frame, row and sample that it holds. -/
structure HoldBank where
  conv : Nat
  bank : Nat
  fn : Nat
  row : Nat
  sample : Nat
  deriving DecidableEq, Repr

/-- The column converters (R56, R65 to R74): the full hold banks, and the bank that each converter of a column fills next; a full
calibration that runs and its shadow table; entries that hold from the next frame; whether tracking was done in the frame; consecutive
tracking and quiz misses per converter; the run of rows with REF_FAIL of each sample, and REF_FAIL of the frame being read; the last
direct write with its boundary and the words before it, and the windows that it marked INVALID. -/
structure Cnv where
  banks : List HoldBank
  turn : List Nat
  calBusy : Bool
  calAt : Nat
  shadow : Option (List Word)
  next : Overlay
  trackMiss : List (Nat × Nat)
  tracked : Bool
  quizMiss : List (Nat × Nat)
  refRun : List Nat
  refFailed : Bool
  direct : Option (Nat × Word × Word)
  invRows : List (Nat × Nat)
  deriving DecidableEq, Repr

/-! ### Pixel data, statistics and the Seating Plan -/

/-- A row and sample on the logic die: its frame, its row number y + 48, its sample, its tag (R72), the converter of each column
that took it (0 to 3), B_s and F_s of its frame in 1/16 count (R261), and its codes from x = -24 on; none where its tag failed
(R355). -/
structure RowCodes where
  fn : Nat
  row : Nat
  sample : Nat
  tag : Word
  conv : Nat
  b : Nat
  f : Int
  codes : List Nat
  deriving DecidableEq, Repr

/-- A closed statistics set (R338 to R344). -/
structure StatSet where
  fn : Nat
  grid : List Word
  hist : List Word
  shist : List Word
  prof : List Word
  deriving DecidableEq, Repr

/-- A pixel of a picture in YUV at 10 bits, U and V those of its pixel pair (R280). -/
structure Yuv where
  y : Nat
  u : Nat
  v : Nat
  deriving DecidableEq, Repr

/-- A picture buffer: its frame and its rows so far. -/
structure Picture where
  fn : Nat
  rows : List (List Yuv)
  deriving DecidableEq, Repr

/-- A frame in Pipeline A from stage 4 on (R258, R367): its FN, j of its history (R268), whether it takes the zone grid of the frame
before it, the rows of its region that stage 5 has put out, in e⁻, the rows in the warp window, its dynamic corrections, and its rows
whose history came too late (R269). -/
structure PicWork where
  fn : Nat
  j : Nat
  useGrid : Bool
  mosaic : List (List Rat)
  rows : List (List Yuv)
  dyn : Nat
  late : Nat
  deriving DecidableEq, Repr

/-- Pixel data: the rows of the frames whose sets are open, the words that the last landing replaced, open sets, those whose
STATS_CUT has come, closed sets and closed grids of Pipeline B with their CFN, newest first, the frames filtered into each TNR
history (unlit, lit), and of each sample the frame black F_s and the pedestal and ramp gain it was measured at (R261), and
whether a sample's black was held. Then the stripe engines and the DRAM: the pictures in the two buffers of the warp
window (newest first), the two histories by rows of groups in their code (R269, R271), and whether the frame takes the zone grid
of the frame before it (R278). -/
structure Pix where
  rows : List RowCodes
  prevOv : Overlay
  fblack : List Int
  opened : List Nat
  cut : List Nat
  closed : List StatSet
  bclosed : List (Nat × List Word)
  tnrJ : List Nat
  blcKey : List (Option (Nat × Nat))
  held : Bool
  work : List PicWork
  hist : List (List (List Nat))
  useGrid : Bool
  deriving DecidableEq, Repr

/-- A block row of a frame: map bytes as in R201. -/
structure BlockRow where
  fn : Nat
  by_ : Nat
  vals : List Nat
  deriving DecidableEq, Repr

/-- The Seating Plan: TLREF by target frame (R187), issued block rows, block rows whose applied-index record has arrived, complete
maps newest first, uncorrectable errors and echo disagreement of the frame, frames in a row with the latter, where the
scrubber stands, the law's values of the frame it works on, block row by block row, with the block rows finalised (R189), and the
blocks (1,024 × by + bx) whose LED hold began or ended with the law of a frame, with what it was (R151). -/
structure Sp where
  tlref : List (Nat × Nat)
  issued : List BlockRow
  applied : List BlockRow
  maps : List (Nat × List BlockRow)
  uncorr : Nat
  echo : Bool
  echoRun : Nat
  scrub : Nat
  lawFn : Option Nat
  law : List (List Nat)
  fin : Nat
  ledWas : List (Nat × Nat × Bool)
  deriving DecidableEq, Repr

/-! ### Power and housekeeping -/

/-- A voltage command in progress (R544): its rail, the tag or the TID that it answers, and its target in µV. -/
structure Vcmd where
  rail : Nat
  tag : Option Nat
  tid : Option Nat
  target : Nat
  deriving DecidableEq, Repr

/-- The power die (R537 to R560): VIN in 10 mV, power-good and latched rails, the soft-start step of R547 and when it began,
whether sequencing may run, VIN_HI, Recess, where VDD_LOGIC and VCMP slew from and since when (in µV), the VCMP target, voltage
commands, the last two VID commands with their status, the word driven on VID_DAT, the shedding hold, restarts of rails, the
rails that wait for one, a surge or a thermal shutdown in force, an eMMC grace, and the power-on count. -/
structure Pwr where
  vin : Nat
  pgood : Nat
  latched : Nat
  step : Nat
  stepAt : Nat
  vinHi : Bool
  recess : Bool
  coreFrom : Nat
  coreAt : Nat
  vcmpOn : Bool
  vcmpFrom : Nat
  vcmpAt : Nat
  cmds : List Vcmd
  tids : List (Nat × Nat)
  vidOut : Nat
  holdEnd : Option Nat
  restarts : List (Nat × Nat)
  waiting : List (Nat × Nat)
  surge : Bool
  shut : Bool
  down : Option (Nat × Nat)
  poc : Nat
  deriving DecidableEq, Repr

/-- The housekeeping converters (R561 to R571): built-in sequences in force, a checked sequence that waits for the tick, the channel
each converter converted last, the open-wire setting of each channel's last conversion and the results that still carry OWD_SETTLE,
fast and slow round counts, the held phase values with NOSYNC, whether HKA waits in its URGENT_WINDOW entry, the latest code of each
channel and when it was stored (64 × converter + channel), and the consecutive mismatches of each comparison, and the four phase
currents sampled for the round. -/
structure Hk where
  builtin : Bool
  due : Option (List Word)
  lastCh : List (Option Nat)
  ow : List (Nat × Nat)
  owd : List (Nat × Nat)
  fast : List Nat
  slow : List Nat
  urgent : Bool
  codes : List (Nat × Nat)
  storedAt : List (Nat × Nat)
  plaus : List (Nat × Nat)
  held : Option (List Nat)
  deriving DecidableEq, Repr

/-- The thermal logic and the heater (R572 to R582): the state with its timers, EXTEND used, T_max and Tf history, sensors seen
at 125 °C and the stage above SHUT in a row, enforcement level in force, decided and landing, and the heater's current. -/
structure Thm where
  state : Nat
  since : Nat
  clearAt : Option Nat
  rateAt : Option Nat
  graceAt : Nat
  extended : Bool
  tmax : List Int
  tf : List Int
  hot : List Nat
  stageHot : Nat
  level : Nat
  want : Option (Nat × Nat)
  land : Option (Nat × Nat)
  iOn : Option Nat
  htrOn : Bool
  gate : Bool
  deriving DecidableEq, Repr

/-- A switching output of the power die (R541): the on-time due that it has not given, what it carries into the next pulse, and when its
last pulse was turned on and off, all in units of `clk`. -/
structure SwOut where
  due : Nat
  carry : Int
  pulse : Option (Nat × Nat)
  deriving DecidableEq, Repr

/-! ### The link -/

/-- A packet sent on the lanes and held for replay (R428): its LSEQ, its stream, and its words with its header block. -/
structure SentPkt where
  lseq : Nat
  stream : Nat
  words : Nat
  deriving DecidableEq, Repr

/-- What waits for the logical stream of the lanes (R416): a packet with its LSEQ, its stream and its payload, or RSYNC with its LSEQ. -/
inductive TxItem where
  | pkt (lseq stream : Nat) (payload : List Word)
  | rsync (lseq : Nat)
  deriving DecidableEq, Repr

/-- A control block sent on the lanes (R415): a deskew marker, LCHG with its mask and LSEQ, or RSYNC with its LSEQ. -/
inductive LinkBlock where
  | dsk (mcount : Nat)
  | lchg (mask lseq : Nat)
  | rsync (lseq : Nat)
  deriving DecidableEq, Repr

/-- A checker of a PRBS test (R435): bits checked, errors, lock. -/
structure Checker where
  bits : Nat
  errs : Nat
  lock : Bool
  deriving DecidableEq, Repr

/-- A PRBS test or internal loopback that runs (R435): the tag it answers, if a command started it, its targets and pattern,
and when it ends. -/
structure LinkTest where
  tag : Option Nat
  targets : Nat
  pattern : Nat
  inject : Bool
  start : Nat
  endAt : Nat
  deriving DecidableEq, Repr

/-- The link: training, active and good lanes, the replay buffer and the blocks sent, lane timers, equaliser changes that
wait for a marker, the back-channel receiver, and tests (R408 to R451). -/
structure Lnk where
  state : Nat
  bcLock : Bool
  active : Nat
  good : Nat
  ready : Bool
  noLstate : Bool
  hostSilent : Bool
  trainAt : Nat
  prevCfg : Option Word
  lseq : Nat
  mcount : Nat
  replay : List SentPkt
  resent : List Nat
  blocks : List LinkBlock
  /-- What waits to be sent, the packets of the replay buffer with their words, and the rest of the packet being sent. -/
  tx : List TxItem
  kept : List TxItem
  rest : List LaneBlock
  /-- LCHG that waits: its mask, its LSEQ and the lanes that send it (R430, R431). -/
  change : Option (Nat × Nat × Nat)
  /-- The transmitters of the four lanes, the per-lane index of the next block, and the part of a block's time that has passed, in
  1/625 of a unit of `clk`. -/
  lanes : List LaneTx
  index : Nat
  laneRem : Nat
  goodSince : List (Option Nat)
  ffeNext : List (Nat × Nat × Nat)
  lstateAt : Nat
  idleRun : Nat
  idleSets : Nat
  idlePrbs : Option Nat
  centres : List Int
  centred : Bool
  test : Option LinkTest
  loop : Option LinkTest
  checkers : List Checker
  echo : Bool
  deriving DecidableEq, Repr

/-! ### Output streams -/

/-- What a stream frame with FLAGS.AUTH took at its FRAME_START (R622, R628): the SESSION_ID, COVER, and the nonce: NONCE_ID, its
arrival TB[47:16] and its four words. -/
structure AuthCtx where
  id : Nat
  cover : Nat
  nonce : List Word
  deriving DecidableEq, Repr

/-- A stream frame in progress (R364): its stream, the FN of its prefix, the source FN of its FRAME_START, REPEAT, whether it is sent
on the link (a coding frame that is not routed or is shed feeds the recorder alone, R380), its lines with SLIP, the session it
carries a record of, its header, of its rows the tags and CRCs so far, and its unit MACs (R627). Of the ROWS packet being filled
(R419) it has the first row and the words. -/
structure StreamFrame where
  stream : Nat
  fn : Nat
  src : Nat
  rep : Bool
  onLink : Bool
  slips : Nat
  auth : Option AuthCtx
  hdr : List Word
  tags : List Word
  crcs : List Word
  macs : List Byte
  first : Nat
  words : List Word
  deriving DecidableEq, Repr

/-- A stream packet sent (R362, R363): its stream, PTYPE and SEQ, and its words. -/
structure StreamPkt where
  stream : Nat
  ptype : Nat
  seq : Nat
  words : List Word
  deriving DecidableEq, Repr

/-- What a frame has counted for its footers (R352, R355): row tags that failed their sample-bus check, index mismatches and
uncorrectable contexts. -/
structure Tally where
  tagErr : Nat
  mismatch : Nat
  uncorr : Nat
  deriving DecidableEq, Repr

/-- The output streams: SEQ of each stream, stream frames in progress, packets sent, groups shed by lane changes in shed order
and by enforcement (R386, R576), the fallback of display A, the header of the frame being read and its tally with that of the
frame before it, and the source picture of display A with its FN, header and footer (R367, R375). -/
structure Out where
  seqs : List (Nat × Nat)
  live : List StreamFrame
  sent : List StreamPkt
  linkShed : List Nat
  enfShed : List Nat
  fallback : Bool
  hdr : List Word
  tally : Tally
  tallyPrev : Tally
  srcFn : Option Nat
  srcHdr : List Word
  srcFtr : List Word
  srcPic : List (List Yuv)
  deriving DecidableEq, Repr

/-! ### The companion -/

/-- A register transfer of the companion's I²C master (R308, R328): address, width in bytes, class, data. -/
structure I2cReg where
  addr : Nat
  width : Nat
  cls : Nat
  data : Word
  deriving DecidableEq, Repr

/-- A write set in the queue (R313 to R316): its target frame, the tag it answers, the digital gain it steps, its registers with
their issue frames, those sent, the first register that failed, and whether a burst ended late. -/
structure WriteSet where
  target : Nat
  tag : Nat
  step : Option Nat
  regs : List (Nat × I2cReg)
  sent : List Nat
  failed : Option Nat
  late : Bool
  deriving DecidableEq, Repr

/-- A READ or WRITE_NOW in progress (R317): its tag, its registers, those done, the data read, and the first that failed. -/
structure I2cJob where
  tag : Nat
  read : Bool
  regs : List I2cReg
  done : Nat
  data : List Word
  failed : Option Nat
  deriving DecidableEq, Repr

/-- What the bus does: nothing, an entry of the init list, register `i` of the write set with this target and tag, or the next
of the job at the head. -/
inductive I2cNow where
  | idle
  | init (i : Nat)
  | set (tag i : Nat)
  | job
  deriving DecidableEq, Repr

/-- A display B buffer (R324). -/
inductive BufState where
  | free
  | filling (cfn : Nat)
  | ready (cfn : Nat)
  | reading (cfn : Nat)
  deriving DecidableEq, Repr

/-- The companion: STATE and the step of R310 or R311 it stands at (0 none; 1 to 3 the delays of power-up; 4 and 5 those of
power-down), since when, whether the profile has passed its check, the tag that waits, PCLK_OK, CP_RST_N high, CP_PWDN asserted, the
current CFN and whether there is one, the time of the last frame start in `clk` and in TB, the measured line period in ns, whether a
frame is being received, the queue, jobs, what the bus does, the frame whose write window has opened, the buffers, the header of the
picture that display B reads, that picture, the pictures in the buffers by their CFN, the settings taken for the next frame, the black
level of R319 in 1/16 with whether it has been measured, and the values landed with a role (R308). -/
structure Pb where
  state : Nat
  step : Nat
  since : Nat
  profOk : Bool
  tag : Option Nat
  pclk : Bool
  rstN : Bool
  pwdn : Bool
  cfn : Nat
  vsAt : Nat
  vsTb : Nat
  line : Nat
  receiving : Bool
  queue : List WriteSet
  jobs : List I2cJob
  now : I2cNow
  opened : Option Nat
  bufs : List BufState
  hdr : List Word
  shown : List (List Yuv)
  pics : List Picture
  taken : Overlay
  black : Option Int
  roles : List (Nat × Word)
  deriving DecidableEq, Repr

/-! ### Clocks -/

/-- A synthesiser (R524 to R527): 0 OFF, 1 DLL, 2 LOCKED, 3 HOLDOVER; when its re-lock was asked for, whether it searches the band,
the frequency correction at which its output has settled, in 0.01 ppm, and whether it was the DLL clock whose reference was lost. -/
structure Pll where
  state : Nat
  at_ : Nat
  search : Bool
  applied : Int
  ring : Bool
  deriving DecidableEq, Repr

/-- The synthesisers PLL-S, PLL-C, PLL-L and PLL-M, and of each the places of its plans in CLK.PLANS, the oldest first (R520). -/
structure Clk where
  plls : List Pll
  order : List (List Nat)
  deriving DecidableEq, Repr

/-! ### OTP -/

/-- OTP programming in progress (R602): the command and tag that it answers, the words to program with the bits each one blows,
and the payload of its reply. -/
structure OtpJob where
  op : Nat
  tag : Nat
  words : List (Nat × Word)
  reply : List Word
  deriving DecidableEq, Repr

/-- The OTP (R588 to R609): the words whose cells the factory did not leave as `otpFactory`, each as it reads at the strict and at
the loose reference; the words selected at start; programming in progress; and the OTP_MARGINAL events that wait for the link. -/
structure Otp where
  cells : List (Nat × Word × Word)
  sel : List Word
  job : Option OtpJob
  margDue : List (Word × Word)
  deriving DecidableEq, Repr

/-! ### The Prefect -/

/-- A session (R619 to R622): its kind (1 BOOT, 2 LIVE, 3 SERVICE), SESSION_ID, its 160 bytes of keys, the next LCTR, and the
CCTR last accepted. -/
structure Session where
  kind : Nat
  id : Nat
  keys : List Byte
  lctr : Nat
  cctr : Option Nat
  deriving DecidableEq, Repr

/-- A handshake (R621): its ROLE, SESSION_ID, the device's ephemeral key, H, its keys, the tag of AUTH_HELLO until it is answered,
when it was answered, and whether its 1.0 s is over. -/
structure Handshake where
  role : Nat
  id : Nat
  eD : List Byte
  h : List Byte
  keys : List Byte
  tag : Option Nat
  repliedAt : Nat
  expired : Bool
  deriving DecidableEq, Repr

/-- An AUTH_FINISH that is checked (R621): its tag, payload, and when it came. -/
structure FinishJob where
  tag : Nat
  words : List Word
  at_ : Nat
  deriving DecidableEq, Repr

/-- A quiz block (R630): its place, whether a read window of its row began in the frame, whether every code passed so far, and
the worst deviation. -/
structure QuizBlock where
  bx : Nat
  by_ : Nat
  read : Bool
  pass : Bool
  worst : Nat
  deriving DecidableEq, Repr

/-- The quiz of a frame (R630, R631), with the tag of the POP_QUIZ that it answers. -/
structure Quiz where
  fn : Nat
  host : Option Nat
  show_ : Bool
  blocks : List QuizBlock
  deriving DecidableEq, Repr

/-- The Prefect (R616 to R639): d_ID with Q_ID and K_PAIR, the session and the handshake, AUTH_FINISH under check, the newest
nonce with its arrival TB, the TB of NONCE_PUSH packets not yet served by their tags, when AUTH replies were sent, the session
that the present one replaced (frames begun under it finish under it), quizzes of the last frames and a scheduled one, and the
consecutive VWATCH misses of HKA and HKB. -/
structure Sec where
  idKey : Option (List Byte × List Byte)
  kPair : Option (List Byte)
  sess : Option Session
  hand : Option Handshake
  finish : Option FinishJob
  nonce : List Word
  nonceTb : Nat
  arrivals : List (Nat × Nat)
  authAt : List Nat
  old : Option Session
  quizzes : List Quiz
  sched : Option Quiz
  watchA : Nat
  watchB : Nat
  deriving DecidableEq, Repr

/-! ### The recorder -/

/-- An open clip (R650, R651): its ID, SOURCE, PROTECT, USER, its event's FN, TB and SESSION_ID, the frames it takes (first and last
FN, the last one it may reach), its records, TRUNC, its first unit, and whether its post window runs. -/
structure OpenClip where
  id : Nat
  source : Nat
  protect : Bool
  user : Word
  fnE : Nat
  tb : Nat
  sess : Nat
  first : Nat
  last : Nat
  limit : Nat
  frames : List RecFrame
  trunc : Bool
  unit : Nat
  post : Bool
  deriving DecidableEq, Repr

/-- A committed clip on the eMMC: the 31 words of its index entry before its CRC (R645), its units, and its records. -/
structure Clip where
  words : List Word
  units : List Nat
  frames : List RecFrame
  deriving DecidableEq, Repr

/-- A journal record since the last mount (R646). -/
inductive Journal where
  | openRec (clip unit : Nat)
  | commitRec (clip units : Nat) (crc : Word)
  | eraseRec (clip : Nat)
  deriving DecidableEq, Repr

/-- What the eMMC is asked to do (R640, R646, R503, R667): to erase clips, write a new layout, take the power-off notification, read
the next record of the clip being read, erase or write a boot partition, write PARTITION_CONFIG, or load an image. -/
inductive EmmcJob where
  | erase (tag : Nat) (ids : List Nat)
  | notify (tag : Nat)
  | readFrame
  | stageErase (tag : Nat)
  | stageWrite (tag key : Nat) (words : List Word)
  | persist (tag : Option Nat) (target : Nat)
  | bootLoad (image : Nat) (second : Bool)
  deriving DecidableEq, Repr

/-- A read of a clip in progress (R654). -/
structure ClipRead where
  tag : Nat
  frames : List RecFrame
  deriving DecidableEq, Repr

/-- The recorder and the eMMC (R640 to R658). On the eMMC: whether a part answers, a good superblock, its unit count, committed
clips, and the journal. In the device: MOUNT, the tag of a REC_MOUNT and whether it formats, the Chalkboard (oldest first), a
record whose footer has just been formed, open clips, the read, eMMC commands in progress, the tag of a REC_UNMOUNT, the bytes
written since mount, when WEAR_CHECK last ran, and the wake pictures. -/
structure Rec where
  present : Bool
  superblock : Bool
  units : Nat
  clips : List Clip
  journal : List Journal
  mount : Nat
  mountTag : Option Nat
  format : Bool
  ring : List RecFrame
  formed : Option RecFrame
  opens : List OpenClip
  reading : Option ClipRead
  jobs : List EmmcJob
  unmountTag : Option Nat
  written : Nat
  wearAt : Nat
  deriving DecidableEq, Repr

/-! ### Faults and firmware images -/

/-- Fault counts (R670), the watchdog's last kick, restart times, the staged image, the switch under way, the self-test, and
FAULT_N (R660 to R674). -/
structure Saf where
  counts : List Nat
  kickAt : Nat
  wdogRun : Bool
  restarts : List Nat
  boot : Nat
  stage : Nat
  target : Nat
  total : Nat
  offset : Nat
  svn : Nat
  slot : Nat
  svnStaged : Nat
  switching : Option (Nat × Bool)
  switchReady : Bool
  switchAt : Nat
  dispFooterAt : Nat
  dispSrc : Option Nat
  selftest : Option Nat
  pinTest : Bool
  chainCard : Bool
  deriving DecidableEq, Repr

/-! ### The interconnect -/

/-- A transaction on the interconnect (R17, R18): its class, its bytes, when it was requested, and, once granted, whether it took an entry
of the pool and whether it was in-share. -/
structure IcnReq where
  cls : Nat
  bytes : Nat
  at_ : Nat
  pooled : Bool
  inShare : Bool
  deriving DecidableEq, Repr

/-- The interconnect (R17 to R20): the credit of classes 1 to 5 and up to when they have earned it, the requests that wait, oldest first,
and the transactions that hold an entry. -/
structure Icn where
  credit : List Nat
  since : Nat
  waiting : List IcnReq
  taken : List IcnReq
  deriving DecidableEq, Repr

/-- The state of the device. -/
structure State where
  /-- The commands that wait, first in, first out. -/
  pending : List Instr
  mem : Mem
  stg : Overlay
  pend : Option PendSet
  taken : List TakenSet
  /-- The index of the next free value (`Config.freeWord`); the model's own field. -/
  free : Nat
  fe : Fe
  sys : Sys
  tt : Tt
  exp : Exp
  bel : Bel
  cnv : Cnv
  lnk : Lnk
  pix : Pix
  sp : Sp
  out : Out
  pb : Pb
  pwr : Pwr
  hk : Hk
  thm : Thm
  clk : Clk
  otp : Otp
  sec : Sec
  rec_ : Rec
  saf : Saf
  icn : Icn
  /-- The ten switching outputs: the four core phases and channels 1 to 6. -/
  sw : List SwOut
  deriving DecidableEq, Repr

/-! ### Reset -/

/-- What the firmware and start-up fields hold before the first start. -/
def Sys.reset : Sys :=
  { phase := .unpowered, resetN := true, fw := .rom, fwReady := false, imageGood := false, takenOver := false, mode := 1,
    prev := 0, firstFn := 0,
    chg := none, limpDue := none, limpCause := 0, warm := false, hrSrc := 0, image := 0, origin := 0, tExp := 0, tTake := 0,
    firstDisp := none, tDisp := 0, rollFails := 0, rollUs := 0, rollUs2 := 0, rollDone := false, dramReady := false,
    black := false, romAeClose := false, romStepFn := none,
    park := { dth := 0, ncell := 0, nfrm := 0, autostream := false, record := false, refs := [], pics := [], since := 0, frames := 0,
              moving := 0, holdoff := 0, tl := 0, lastTraffic := 0, idle := false },
    wakeLow := none, warmAt := none, mtpQueue := [], bonds := [] }

/-- The Timetable at reset. -/
def Tt.reset : Tt :=
  { clk := 0, tb := 0, tbRem := 0, rl := none, lock := 0, acqStep := 0, first := none, runLen := 0, last := none, agree := 0,
    jump := [], acqAt := 0, acqLate := false, tracked := false, coastAt := 0, absorbing := false, shorten := false,
    remaining := 0, corr := 0, corrRef := 0, loopInt := 0, rampAt := none, bound := 0, slip := false, rlNom := 0, act0 := 0, actN := 0,
    period := 0, rateVt := 0, stretch := false, run := false, started := false, fn := 0, rp0 := 0, rp0Tb := 0, rpCur := 0,
    vcur := 4160, vPrev := 0, joined := false, startDue := none, committed := 0, tplErr := false, strobe := false,
    strobeOnAt := none, strobeOffAt := none, lit := [], lstep := false }

/-- The tally of a frame that has sent nothing. -/
def Tally.zero : Tally := { tagErr := 0, mismatch := 0, uncorr := 0 }

/-- The link at reset. -/
def Lnk.reset : Lnk :=
  { state := 0, bcLock := false, active := 0, good := 0, ready := false, noLstate := false, hostSilent := false, trainAt := 0,
    prevCfg := none, lseq := 0, mcount := 0, replay := [], resent := [], blocks := [],
    tx := [], kept := [], rest := [], change := none, lanes := List.replicate 4 ⟨0, 0⟩, index := 0, laneRem := 0,
    goodSince := [none, none, none, none],
    ffeNext := [], lstateAt := 0, idleRun := 0, idleSets := 0, idlePrbs := none, centres := [0, 0, 0, 0], centred := false,
    test := none, loop := none, checkers := [], echo := false }

/-- The power die with no power. -/
def Pwr.reset : Pwr :=
  { vin := 0, pgood := 0, latched := 0, step := 0, stepAt := 0, vinHi := false, recess := false, coreFrom := 0, coreAt := 0,
    vcmpOn := false, vcmpFrom := 0, vcmpAt := 0, cmds := [], tids := [], vidOut := 0, holdEnd := none, restarts := [],
    waiting := [], surge := false, shut := false, down := none, poc := 0 }

/-- The state right after power has come to nothing: the device as shipped, with no VIN yet. Every register is at the value its
table gives, memory lists nothing, and the queue of commands is empty. -/
def State.reset : State :=
  { pending := [], mem := [], stg := [], pend := none, taken := [], free := 0,
    fe := { held := [], opn := [], waiting := [], out := [], events := [], lost := false, hdrRel := 0, payRel := 0, lastSeq := none,
            lastSeqVal := 0, evMask := 0 },
    sys := Sys.reset, tt := Tt.reset,
    exp := { seq := none, aeTl := 0, aeDone := none, awbDone := none, dsEff := 0, dsPrev := 0, ended := [] },
    bel := { busy := false, raised := none, queue := none, sched := none, lastTb := 0, lastFn := 0 },
    cnv := { banks := [], turn := [0, 0, 0, 0], calBusy := false, calAt := 0, shadow := none, next := [], trackMiss := [],
             tracked := false, quizMiss := [], refRun := [0, 0, 0, 0], refFailed := false, direct := none, invRows := [] },
    lnk := Lnk.reset,
    pix := { rows := [], prevOv := [], fblack := [0, 0, 0, 0], opened := [], cut := [], closed := [], bclosed := [], tnrJ := [0, 0],
             blcKey := [none, none, none, none], held := false, work := [], hist := [[], []], useGrid := false },
    sp := { tlref := [], issued := [], applied := [], maps := [], uncorr := 0, echo := false, echoRun := 0, scrub := 0,
            lawFn := none, law := [], fin := 0, ledWas := [] },
    out := { seqs := [], live := [], sent := [], linkShed := [], enfShed := [], fallback := false, hdr := [], tally := Tally.zero,
             tallyPrev := Tally.zero, srcFn := none, srcHdr := [], srcFtr := [], srcPic := [] },
    pb := { state := 0, step := 0, since := 0, profOk := false, tag := none, pclk := false, rstN := false, pwdn := true, cfn := 0,
            vsAt := 0, vsTb := 0, line := 0, receiving := false, queue := [], jobs := [], now := .idle, opened := none, bufs := [.free, .free],
            hdr := [], shown := [], pics := [], taken := [], black := none, roles := [] },
    pwr := Pwr.reset,
    hk := { builtin := true, due := none, lastCh := [none, none], ow := [], owd := [], fast := [0, 0], slow := [0, 0],
            urgent := true, codes := [], storedAt := [], plaus := [], held := none },
    thm := { state := 0, since := 0, clearAt := none, rateAt := none, graceAt := 0, extended := false, tmax := [], tf := [],
             hot := [], stageHot := 0, level := 0, want := none, land := none, iOn := none, htrOn := false, gate := false },
    clk := { plls := List.replicate 4 ⟨0, 0, false, 0, false⟩, order := List.replicate 4 (List.range 8) },
    otp := { cells := [], sel := [], job := none, margDue := [] },
    sec := { idKey := none, kPair := none, sess := none, hand := none, finish := none, nonce := [], nonceTb := 0, arrivals := [],
             authAt := [], old := none, quizzes := [], sched := none, watchA := 0, watchB := 0 },
    rec_ := { present := true, superblock := false, units := 0, clips := [], journal := [], mount := 0, mountTag := none,
              format := false, ring := [], formed := none, opens := [], reading := none, jobs := [], unmountTag := none,
              written := 0, wearAt := 0 },
    saf := { counts := List.replicate 21 0, kickAt := 0, wdogRun := false, restarts := [], boot := 0, stage := 0,
             target := 0, total := 0, offset := 0, svn := 0, slot := 0, svnStaged := 0, switching := none, switchReady := false,
             switchAt := 0, dispFooterAt := 0, dispSrc := none, selftest := none, pinTest := false,
             chainCard := false },
    icn := { credit := [0, 0, 0, 0, 0], since := 0, waiting := [], taken := [] },
    sw := List.replicate 10 ⟨0, 0, none⟩ }

/-- Reasons to stop with a fault. The spec stops the device on no command: every refusal is a reply and every failure a state of
the device, so there is none. -/
inductive Fault where
  deriving DecidableEq, Repr

/-- Reasons to give a command no meaning. -/
inductive Refusal where
  /-- The row of this mnemonic has no meaning yet; raised by its arm of `exec` alone. Safe: nothing is claimed of it. -/
  | notModelled (mnemonic : String)
  deriving DecidableEq, Repr

end Sys2Proof.Machine
end

