-- ==== Sys2Proof/Machine/Ops.lean ====
section
/-!
DEFINITION. The operations that every block shares: reading and writing registers and windows in force, the staged, pending
and taken views (R111, R112), the passing of time (R87), CONTROL packets (R469 to R480), events and faults (R479, R660).
-/

namespace Sys2Proof.Machine

open Sys2Proof (Word Byte Pkt)

/-- The state after a command that programs no fuse: `t`, but for the queue and the OTP cells, which stay as they were in `s`. -/
def State.keepQueue (s t : State) : State :=
  { t with pending := s.pending, otp := { t.otp with cells := s.otp.cells } }

/-! ### Registers and windows in force -/

/-- The word in force at a key. -/
def State.reg (s : State) (k : Nat) : Word := s.mem.get k

/-- The value in force of a field. -/
def State.rd (s : State) (f : Fld) : Nat := fld s.mem.get f

/-- A one-bit field in force. -/
def State.tst (s : State) (f : Fld) : Bool := s.rd f != 0

/-- The word in force at a key replaced. -/
def State.setReg (s : State) (k : Nat) (w : Word) : State := { s with mem := s.mem.set k w }

/-- A field in force replaced. -/
def State.wr (s : State) (f : Fld) (v : Nat) : State := s.setReg f.addr (putBits (s.reg f.addr) f.lo f.len v)

/-- Words in force written from a key on. -/
def State.setRun (s : State) (k : Nat) (ws : List Word) : State := { s with mem := s.mem.setRun k ws }

/-- A counting field raised by n, saturating (R85). -/
def State.bumpBy (s : State) (f : Fld) (n : Nat) : State := s.wr f (min (2 ^ f.len - 1) (s.rd f + n))

/-- A counting field raised by 1, saturating (R85). -/
def State.bump (s : State) (f : Fld) : State := s.bumpBy f 1

/-- `n` words in force from a key on. -/
def State.run (s : State) (k n : Nat) : List Word := (List.range n).map (fun i => s.mem.get (k + i))

/-- Fields in force replaced in turn. -/
def State.wrs (s : State) (l : List (Fld × Nat)) : State := l.foldl (fun t p => t.wr p.1 p.2) s

/-! ### Free values -/

/-- A free value, and the state whose next free value is another. -/
def State.fresh (s : State) : Word × State := (Config.freeWord s.free, { s with free := s.free + 1 })

/-! ### The staged, pending and taken sets -/

/-- The values in force. -/
def State.live (s : State) : View := s.mem.get

/-- The comparison of R502 on 32-bit numbers: whether `a` is `b` or before it. -/
def seqLe (a b : Nat) : Bool := (b + 2 ^ 32 - a % 2 ^ 32) % 2 ^ 32 < 2 ^ 31

/-- The values that hold for frame `fn`: those in force, with the sets taken for that frame or one before it (R112). -/
def State.viewFor (s : State) (fn : Nat) : View :=
  (s.taken.filter (fun t => seqLe t.fn fn)).foldl (fun v t => v.over t.ov) s.live

/-- The values in force with every set that was taken, those of Pipeline B that wait for a companion frame among them (R323). -/
def State.takenView (s : State) : View := s.taken.foldl (fun v t => v.over t.ov) (s.live.over s.pb.taken)

/-- The values with the pending set on them. -/
def State.pendView (s : State) : View :=
  match s.pend with
  | some p => s.takenView.over p.ov
  | none => s.takenView

/-- The staged values: what a read of a staged field returns (R111). -/
def State.staged (s : State) : View := s.pendView.over s.stg

/-- A staged word written (R111). -/
def State.stage (s : State) (k : Nat) (w : Word) : State := { s with stg := s.stg.put k w }

/-- A staged field written. -/
def State.stageF (s : State) (f : Fld) (v : Nat) : State :=
  s.stage f.addr (putBits (s.staged f.addr) f.lo f.len v)

/-- Staged fields written in turn. -/
def State.stageFs (s : State) (l : List (Fld × Nat)) : State := l.foldl (fun t p => t.stageF p.1 p.2) s

/-- Staged words written from a key on. -/
def State.stageRun (s : State) (k : Nat) (ws : List Word) : State := { s with stg := s.stg.putRun k ws }

/-- An overlay brought into force: its staged bits replace those of the words in force. -/
def State.land (s : State) (o : Overlay) : State :=
  o.foldl (fun t p => t.setReg p.1 (keepMask p.2 (stagedMask p.1) ||| clearMask (t.reg p.1) (stagedMask p.1))) s

/-! ### CONTROL packets -/

/-- The words of a CONTROL packet (R469, R478). -/
def Ctl.words : Ctl → List Word
  | .reply op tag gen st fn pl =>
    w32 (op * 2 ^ 24 + tag * 2 ^ 12 + gen * 2 ^ 8 + st) :: w32 (pl.length * 2 ^ 22 + fn % 2 ^ 22) :: pl
  | .event code n lost fn pl =>
    w32 (255 * 2 ^ 24 + code * 2 ^ 16 + n * 2 ^ 8 + flag lost) :: w32 (pl.length * 2 ^ 22 + fn % 2 ^ 22) :: pl

/-- The words that a packet of `n` payload words takes on the lanes with its header block (R417). -/
def pktWords (n : Nat) : Nat := 4 + 4 * ceilDiv n 4

/-- The held packets within the 512 KB of the replay buffer, oldest dropped first (R428). -/
def trimReplay : List SentPkt → Nat → List SentPkt
  | [], _ => []
  | p :: ps, total => if 131072 < total then trimReplay ps (total - p.words) else p :: ps

/-- A packet of a stream sent on the lanes: it takes the next LSEQ and is held for replay (R418, R428). -/
def State.sendPkt (s : State) (stream n : Nat) : State :=
  let q := s.lnk.replay ++ [⟨s.lnk.lseq, stream, pktWords n⟩]
  let total : Nat := (q.map (fun p => p.words)).foldl (fun a b => a + b) 0
  let t := { s with lnk := { s.lnk with lseq := (s.lnk.lseq + 1) % 65536, replay := trimReplay q total } }
  if 131072 < total then t.wr F.LNK_STAT_REPLAY_OVF 1 else t

/-- A packet of a stream with its payload sent: it waits for the logical stream of the lanes (R416 to R418), and its words are kept as
long as it is held for replay. -/
def State.sendData (s : State) (stream : Nat) (ws : List Word) : State :=
  let t := s.sendPkt stream ws.length
  let p := TxItem.pkt s.lnk.lseq stream ws
  let kept := s.lnk.kept ++ [p]
  { t with lnk := { t.lnk with tx := s.lnk.tx ++ [p], kept := kept.drop (kept.length - t.lnk.replay.length) } }

/-- Whether the lanes can carry a CONTROL packet: the link is ACTIVE (a test holds replies back in
its own state, R435) and the lanes are not idle in PARKING_WATCH (R512). -/
def State.canSend (s : State) : Bool := s.lnk.state == 2 && !s.sys.park.idle

/-- One CONTROL packet on the lanes. -/
def State.put (s : State) (c : Ctl) : State :=
  State.sendData { s with fe := { s.fe with out := s.fe.out ++ [c] } } 0 c.words

/-- The first waiting reply, else the first event of the queue, sent (R479). -/
def State.sendOne (s : State) : State :=
  match s.fe.waiting with
  | c :: cs => State.put { s with fe := { s.fe with waiting := cs } } c
  | [] =>
    match s.fe.events with
    | e :: es =>
      State.put { s with fe := { s.fe with events := es, lost := false } }
        (.event e.code e.count s.fe.lost e.fn e.payload)
    | [] => s

/-- Every waiting reply and then every event sent, if the lanes can carry them. -/
def State.flush (s : State) : State :=
  if s.canSend then iter State.sendOne (s.fe.waiting.length + s.fe.events.length) s else s

/-- A reply formed: sent at once if the lanes can carry it, else kept waiting in order (R473, R512). -/
def State.reply (s : State) (op tag gen st fn : Nat) (pl : List Word) : State :=
  let c := Ctl.reply op tag gen st (fn % 2 ^ 22) pl
  if s.canSend && s.fe.waiting.isEmpty then s.put c
  else { s with fe := { s.fe with waiting := s.fe.waiting ++ [c] } }

/-- The final reply of the first open command with this opcode and tag; its tag is free again (R461). -/
def State.finish (s : State) (op tag st fn : Nat) (pl : List Word) : State :=
  match s.fe.opn.find? (fun o => o.op == op && o.tag == tag) with
  | none => s
  | some o =>
    State.reply { s with fe := { s.fe with opn := s.fe.opn.filter (fun p => !(p.op == op && p.tag == tag)) } }
      o.op o.tag o.gen st fn pl

/-- The final reply of every open command with this opcode. -/
def State.finishOp (s : State) (op st fn : Nat) (pl : List Word) : State :=
  (s.fe.opn.filter (fun o => o.op == op)).foldl (fun t o => t.finish o.op o.tag st fn pl) s

/-- Whether a command with this opcode is open. -/
def State.isOpen (s : State) (op : Nat) : Bool := s.fe.opn.any (fun o => o.op == op)

/-- What serving a command answers: a final reply with its FN field, ACCEPTED and a final reply at once, ACCEPTED with a final
reply to follow, or one final reply that comes later (R472). -/
inductive Ans where
  | done (st : Nat) (fn : Nat) (pl : List Word)
  | both (st : Nat) (fn : Nat) (pl : List Word)
  | accepted (pl : List Word)
  | later
  deriving DecidableEq, Repr

/-- A final reply whose FN field is that of the frame being read (R470). -/
def State.fin (s : State) (st : Nat) (pl : List Word) : Ans × State := (.done st s.tt.fn pl, s)

/-- The fields that an enforcement level holds, as a host has set them (R576): the heater, the groups STATS, CODING and VISION and the
recorder's second encoding from ENF1 on, DISPB and TNR at ENF2. Which fields a level holds: DEDUCED, assumption 49. -/
def State.heldFields (s : State) : List Nat :=
  let one := if s.thm.level = 0 then [] else
    [bits (s.reg R.THM_HTR) 0 1, fld s.staged F.OUT_ROUTE_CODE, fld s.staged F.OUT_ROUTE_VIS, fld s.staged F.OUT_CODE_REC_BPP,
     bits (s.staged R.STA_CFG) 0 4]
  let two := if s.thm.level < 2 then [] else [fld s.staged F.OUT_ROUTE_DISPB, fld s.staged F.PA_CTRL_TNR_EN]
  one ++ two

/-- The status of a command that is done and has brought `t` about: OK, or DEGRADED where it changed a field that enforcement holds, for
what was staged takes effect when the level is released (R576). -/
def heldStatus (s t : State) : Nat := if s.heldFields = t.heldFields then 0 else 0xD

/-- An answer of a command, with its status under enforcement where it is OK (R576). -/
def State.underLevel (s : State) (r : Ans × State) : Ans × State :=
  match r.1 with
  | .done 0 fn pl => (.done (heldStatus s r.2) fn pl, r.2)
  | _ => r

/-- A final reply PARAM with its reason (R471). -/
def State.param (s : State) (reason : Nat) : Ans × State := s.fin 4 [w32 reason]

/-- A final reply PARAM with its reason and an index in w0 [31:16]. -/
def State.paramAt (s : State) (reason idx : Nat) : Ans × State := s.fin 4 [w32 (reason + idx % 65536 * 65536)]

/-- A final reply PARAM whose reason the spec does not name: a free value. -/
def State.paramOpen (s : State) : Ans × State :=
  let (w, t) := s.fresh
  t.fin 4 [keepMask w 0xFF]

/-- A final reply OK. -/
def State.ok (s : State) (pl : List Word) : Ans × State := s.fin 0 pl

/-- What a write that reaches a register does: it is done, or refused with a status, a reason and an index (R482). -/
inductive WRes where
  | ok
  | refuse (st reason idx : Nat)
  deriving DecidableEq, Repr

/-- The payload of a refused write: the reason of a PARAM, or of another status that gives one, with the index; none otherwise. -/
def refusalWords (st reason idx : Nat) : List Word := if st == 4 || st == 9 then [w32 (reason + idx % 65536 * 65536)] else []

/-- An answer of a register path as the answer of the equivalent command (R482). -/
def WRes.ans (s : State) : WRes → Ans × State
  | .ok => s.ok []
  | .refuse st reason idx => s.fin st (refusalWords st reason idx)

/-- Word `i` of a payload, 0 beyond its end. -/
def pw (k : Pkt) (i : Nat) : Word := k.payload.getD i 0#32

/-- Bits of word `i` of a payload. -/
def pf (k : Pkt) (i lo len : Nat) : Nat := bits (pw k i) lo len

/-! ### Events and faults -/

/-- An event raised (R478 to R480): merged with an unsent entry of its code, or queued, or dropped from a full queue. -/
def State.event (s : State) (code : Nat) (pl : List Word) : State :=
  if s.fe.evMask.testBit code then s
  else if s.fe.events.any (fun e => e.code == code) then
    { s with fe := { s.fe with
        events := s.fe.events.map (fun e => if e.code == code then { e with count := min 255 (e.count + 1) } else e) } }
  else if s.fe.events.length < 64 then
    { s with fe := { s.fe with events := s.fe.events ++ [⟨code, 1, s.tt.fn, pl⟩] } }
  else State.bump { s with fe := { s.fe with lost := true } } F.CMD_EVDROP_COUNT

/-- A condition fault ends (R660). -/
def State.faultEnd (s : State) (id : Nat) : State :=
  s.setReg R.SAF_ACTIVE (clearMask (s.reg R.SAF_ACTIVE) (2 ^ id))

/-- Entry to LIMP is due at the next frame start (R507); the first cause stands. -/
def State.limpFor (s : State) (cause : Nat) : State :=
  if s.sys.mode == 0xB then s
  else match s.sys.limpDue with
    | some _ => s
    | none => { s with sys := { s.sys with limpDue := some cause } }

/-- Whether FAULT_N is pulled low (R662, R670). -/
def State.faultLow (s : State) : Bool :=
  s.sys.phase == .unpowered || s.sys.phase == .reset ||
  bits (s.reg R.SAF_ACTIVE) 0 12 != 0 ||
  (bits (s.reg R.SAF_ACTIVE) 12 9 &&& s.rd F.SAF_FNMAP_OPTIONAL) != 0 ||
  s.sys.mode == 0xB || s.saf.pinTest

/-! ### Time -/

/-- Units of `clk` in one nanosecond, times 25: 2^20 periods of 1.28 GHz. -/
def nsUnits25 : Nat := 33554432

/-- Nanoseconds in units of `clk`, rounded up. -/
def ns (n : Nat) : Nat := ceilDiv (nsUnits25 * n) 25

/-- Microseconds in units of `clk`. -/
def us (n : Nat) : Nat := ns (1000 * n)

/-- Milliseconds in units of `clk`. -/
def ms (n : Nat) : Nat := us (1000 * n)

/-- The RL in units of `clk` as a fraction: the reference as measured (R86, R95), else TT_RLNOM in 1/64 ns. -/
def State.rlNow (s : State) : Nat × Nat :=
  match s.tt.rl with
  | some r => r
  | none => (524288 * s.rd F.TT_RLNOM_RL, 25)

/-- The time base advanced by `d` units: TB gains d · 65,536 / RL, and what is below its least bit is carried on (R87). -/
def State.advanceTb (s : State) (d : Nat) : State :=
  let r := s.rlNow
  let x := 65536 * d * r.2 + s.tt.tbRem
  { s with tt := { s.tt with clk := s.tt.clk + d, tb := (s.tt.tb + x / r.1) % 2 ^ 64, tbRem := if r.1 = 0 then 0 else x % r.1 } }

/-- Time passes up to `t` (none if it is past already); what the lanes can carry is sent meanwhile. -/
def State.elapse (s : State) (t : Nat) : State :=
  if s.tt.clk < t then
    State.flush (if s.sys.phase == .unpowered || s.sys.phase == .reset
      then { s with tt := { s.tt with clk := t } } else s.advanceTb (t - s.tt.clk))
  else s

/-- RP in 1/65,536 periods of the 1.28 GHz clock under a view, which is one sixteenth of an RP in units of `clk` (R97). -/
def rpRaw (v : View) : Nat := (v R.TT_RP).toNat

/-- The RP that holds now: that of the frame being read, else that in force (R112). -/
def State.rpNow (s : State) : Nat := if s.tt.run then s.tt.rpCur else rpRaw s.live

/-- One slot of the RP that holds now. -/
def State.slot (s : State) : Nat := s.rpNow

/-- A period of the 1.28 GHz counter clock, in units of `clk`. -/
def cycleUnits : Nat := 2 ^ 20

/-- The counter cycle on which a boundary lies that falls due at `t` (R97): the last one not after it. What is left over is carried
forward, so boundaries keep their exact times beside it. -/
def onCycle (t : Nat) : Nat := t / cycleUnits * cycleUnits

/-- Slots since RP 0 slot 0 of the frame being read. -/
def State.pos (s : State) : Nat :=
  if s.tt.rpCur = 0 then 0 else ((s.tt.clk / cycleUnits + 1) * cycleUnits - 1 - s.tt.rp0) / s.tt.rpCur

/-- When slot `j` of the frame being read begins, counted from its RP 0 slot 0 (R97). -/
def State.slotTime (s : State) (j : Int) : Nat := onCycle ((s.tt.rp0 : Int) + j * (s.tt.rpCur : Int)).toNat

/-- Time passes up to slot `j` of RP `rp` of the frame being read. -/
def State.toSlot (s : State) (rp j : Nat) : State := s.elapse (s.slotTime (rp * 16 + j : Nat))

/-- The frame number after `fn` (R7). -/
def fnNext (fn : Nat) : Nat := (fn + 1) % 2 ^ 32

/-! ### Modes -/

/-- The modes in which frames feed the output streams (R487). -/
def streamingMode (m : Nat) : Bool := [0x1, 0x3, 0x4, 0x5, 0x6, 0x8, 0xA, 0xB].contains m

/-- Whether the program that serves commands can take one: the firmware, or the boot ROM in LIMP (R29, R507). -/
def State.serverUp (s : State) : Bool := s.sys.fw == .running || s.sys.fw == .limp

/-- Whether an authenticated session is in force is asked of the security block; here the mode in which a check is made:
the present mode, and from take-over until the take-over change lands, START_MODE (R490). -/
def State.checkMode (s : State) : Nat :=
  if s.sys.mode == 1 && s.sys.takenOver then
    match s.sys.chg with
    | some c => c.target
    | none => s.sys.mode
  else s.sys.mode

end Sys2Proof.Machine
end

