-- ==== Sys2Proof/Machine/Clips.lean ====
section
/-!
DEFINITION. Recorder events and the clips they open (R645, R646, R649 to R651), and faults, which raise such events (R660).
-/

namespace Sys2Proof.Machine

open Sys2Proof (Word)

/-! ### Sizes and units -/

/-- The bytes of a frame record (R644): header, embedded header, content padded to a whole word, and footer. -/
def RecFrame.size4 (f : RecFrame) : Nat := 16 + 512 + ceilDiv f.bytes 4 * 4 + 256

/-- The bytes of records. -/
def framesBytes (fs : List RecFrame) : Nat := (fs.map RecFrame.size4).foldl (fun a b => a + b) 0

/-- The units that records take (R643). -/
def unitsFor (bytes : Nat) : Nat := ceilDiv bytes 1048064

/-- The clip ID of a committed clip (R645). -/
def Clip.id (c : Clip) : Nat := bits (c.words.getD 0 0#32) 16 16

/-- Whether a committed clip is protected. -/
def Clip.protected_ (c : Clip) : Bool := bit (c.words.getD 0 0#32) 8

/-- The units in use: those of committed clips and of open ones so far. -/
def State.unitsUsed (s : State) : Nat :=
  ((s.rec_.clips.map (fun c => c.units.length)) ++ (s.rec_.opens.map (fun c => max 1 (unitsFor (framesBytes c.frames))))).foldl
    (fun a b => a + b) 0

/-- Free data units (R658). -/
def State.unitsFree (s : State) : Nat := s.rec_.units - s.unitsUsed

/-- Units that a committed clip or the first unit of an open one takes. -/
def State.unitTaken (s : State) (u : Nat) : Bool :=
  s.rec_.clips.any (fun c => c.units.contains u) || s.rec_.opens.any (fun c => c.unit == u)

/-- The lowest `n` free units at or after `u`. -/
def State.freeUnits (s : State) : Nat → Nat → Nat → List Nat
  | 0, _, _ => []
  | _, 0, _ => []
  | fuel + 1, n + 1, u =>
    if s.rec_.units ≤ u then []
    else if s.unitTaken u then s.freeUnits fuel (n + 1) (u + 1)
    else u :: s.freeUnits fuel n (u + 1)

/-- The lowest free clip ID (R651). -/
def State.freeClip (s : State) : Nat :=
  let used := s.rec_.clips.map Clip.id ++ s.rec_.opens.map (fun c => c.id)
  ((List.range (used.length + 1)).find? (fun i => !used.contains i)).getD 0

/-- A committed clip erased (R646). -/
def State.eraseClip (s : State) (id : Nat) : State :=
  { s with rec_ := { s.rec_ with
      clips := s.rec_.clips.filter (fun c => c.id != id), journal := s.rec_.journal ++ [.eraseRec id] } }

/-- The oldest committed clips without PROTECT erased until a test holds (R651). -/
def State.eraseUntil (fits : State → Bool) : Nat → State → State
  | 0, s => s
  | n + 1, s =>
    if fits s then s
    else match s.rec_.clips.find? (fun c => !c.protected_) with
      | some c => State.eraseUntil fits n (s.eraseClip c.id)
      | none => s

/-! ### Events -/

/-- Frame times in a number of ms, rounded up (R650). -/
def State.framesIn (s : State) (n : Nat) : Nat :=
  ceilDiv (ms n) (max 1 (16 * s.rd F.TT_VTOTAL_VTOTAL * s.rpNow))

/-- A recorder event (R650, R651): the clip ID, or the status and reason of its refusal. `pics` are the records it begins with
(a parking wake), and `coding` whether coding frames follow. -/
def State.recEvent (s : State) (source : Nat) (protect : Bool) (user : Word) (pics : List RecFrame) (coding : Bool) :
    (Option Nat × Nat × List Word) × State :=
  let e := s.tt.fn
  let pre := s.framesIn (s.rd F.REC_CLIP_PRE_MS)
  let post := s.framesIn (s.rd F.REC_CLIP_POST_MS)
  if s.rec_.mount != 2 then ((none, 6, [0xC2#32]), s)
  else match s.rec_.opens.find? (fun c => c.post) with
    | some c =>
      let want := (e + post) % 2 ^ 32
      let want := if seqLe want c.last then c.last else want
      let last := if seqLe want c.limit then want else c.limit
      ((some c.id, 0, []), { s with rec_ := { s.rec_ with
        opens := s.rec_.opens.map (fun d => if d.id = c.id then { d with last := last } else d) } })
    | none =>
      if 4 ≤ s.rec_.opens.length then ((none, 6, []), s)
      else
        let per := match s.rec_.ring.getLast? with
          | some f => f.size4
          | none => 0
        let est := max 1 (unitsFor (framesBytes pics + (if coding then (pre + 1 + post) * per else 0)))
        let fits := fun (t : State) => decide (t.rec_.clips.length < 65536 ∧ est ≤ t.unitsFree)
        let t := if s.tst F.REC_CFG_RING then State.eraseUntil fits s.rec_.clips.length s else s
        if !fits t then ((none, 6, []), s)
        else
          let first := if pics.isEmpty then (e + 2 ^ 32 - min e pre) % 2 ^ 32 else e
          let have_ := t.rec_.ring.filter (fun f => pics.isEmpty && seqLe first f.fn)
          let oldest := match have_ with
            | f :: _ => f.fn
            | [] => e
          let id := t.freeClip
          let unit := (t.freeUnits (t.rec_.units + 1) 1 0).headD 0
          let c : OpenClip :=
            { id := id, source := source, protect := protect, user := user, fnE := e, tb := t.tt.tb, sess := t.rd F.SEC_SESSID_ID,
              first := first, last := (e + post) % 2 ^ 32, limit := (e + s.framesIn 120000) % 2 ^ 32, frames := pics ++ have_,
              trunc := pics.isEmpty && (oldest != first || decide (e < pre)), unit := unit, post := coding }
          ((some id, 0, []), { t with rec_ := { t.rec_ with
            opens := t.rec_.opens ++ [c], journal := t.rec_.journal ++ [.openRec id unit] } })

/-- A recorder event from another source than REC_EVENT: one that meets NO_RESOURCE is counted in REC_IOERR (R651). -/
def State.recRaise (s : State) (source : Nat) (pics : List RecFrame) (coding : Bool) : State :=
  let r := s.recEvent source false 0#32 pics coding
  match r.1.1 with
  | some _ => r.2
  | none => s.bump F.REC_IOERR_COUNT

/-! ### Faults -/

/-- A fault becomes active (R660): SAF_ACTIVE, SAF_LATCHED and SAF_LAST, its count, and the event FAULT with the detail the
detecting rule names. A fault that is active already raises nothing. -/
def State.fault (s : State) (id : Nat) (detail : Nat) : State :=
  if (s.reg R.SAF_ACTIVE).toNat.testBit id then s
  else
    let t := s.setReg R.SAF_ACTIVE (s.reg R.SAF_ACTIVE ||| w32 (2 ^ id))
    let t := t.setReg R.SAF_LATCHED (t.reg R.SAF_LATCHED ||| w32 (2 ^ id))
    let t := t.setReg R.SAF_LAST (w32 (id + s.tt.fn % 2 ^ 22 * 2 ^ 8 + 2 ^ 31))
    let t := { t with saf := { t.saf with counts := t.saf.counts.modify id (fun n => min 65535 (n + 1)) } }
    let t := t.event 0x0B [w32 id, w32 detail]
    if t.tst F.REC_CFG_FAULT_EVT then t.recRaise 2 [] true else t

/-- The fault's own counter, for its event's detail. -/
def State.faultCount (s : State) (id : Nat) : Nat := min 65535 (s.saf.counts.getD id 0 + 1)

/-- A fault with its own counter as the detail (R660). -/
def State.faultC (s : State) (id : Nat) : State := s.fault id (s.faultCount id)

end Sys2Proof.Machine
end

