-- ==== Sys2Proof/Machine/Frame.lean ====
section
/-!
DEFINITION. The shape of a frame under a view of the settings: the samples of a row (R40, R57, R137), the read set of the
windows (R219 to R229), integrations and their limits (R42, R43, R59, R139 to R143), and the apply frame of a commit (R112).
-/

namespace Sys2Proof.Machine

open Sys2Proof (Word)

/-! ### Samples -/

/-- The number of samples in a mask, s (R137). -/
def maskCount (m : Nat) : Nat := m % 2 + m / 2 % 2 + m / 4 % 2 + m / 8 % 2

/-- A sample mask is legal: not empty, and the short sample not alone (R137). -/
def maskOk (m : Nat) : Bool := m != 0 && m != 8

/-- floor(4 / s): slots of a phase, and windows that run at the same time (R40, R57). -/
def windowsOf (s : Nat) : Nat := if s = 1 then 4 else if s = 2 then 2 else 1

/-- The sample mask of a view. -/
def vMask (v : View) : Nat := fld v F.EXP_SAMPLES_MASK

/-- floor(4 / s) of a view. -/
def vW (v : View) : Nat := windowsOf (maskCount (vMask v))

/-- Whether a view takes the short sample. -/
def vShort (v : View) : Bool := (vMask v).testBit 3

/-- RPmin for s, in 1/65,536 counter cycles (R60). -/
def rpMinRaw (s : Nat) : Nat := 5120 * 65536 / windowsOf s

/-! ### Windows and the read set -/

/-- An enabled window (R219, R220). -/
structure WinRect where
  idx : Nat
  bx0 : Nat
  by0 : Nat
  bw : Nat
  bh : Nat
  skip : Nat
  disp : Bool
  code : Bool
  vis : Bool
  deriving DecidableEq, Repr

/-- The address of register `r` (0 POS, 1 SIZE, 2 CFG) of window n (R254). -/
def winAddr (n r : Nat) : Nat := 0x0810 + 4 * n + r

/-- A window from its three registers. -/
def winRect (n : Nat) (pos size cfg : Word) : WinRect :=
  ⟨n, bits pos 0 10, bits pos 16 10, bits size 0 11, bits size 16 11, bits cfg 1 2, bit cfg 3, bit cfg 4, bit cfg 5⟩

/-- The enabled windows of a view, by index. -/
def winRects (v : View) : List WinRect :=
  (List.range 16).filterMap (fun n =>
    if bit (v (winAddr n 2)) 0 then some (winRect n (v (winAddr n 0)) (v (winAddr n 1)) (v (winAddr n 2))) else none)

/-- Whether a window selects a block row under its SKIP (R226, R227). -/
def WinRect.selects (w : WinRect) (b : Nat) : Bool :=
  decide (w.by0 ≤ b) && decide (b < w.by0 + w.bh) && b % 2 ^ w.skip == 0

/-- The block rows of the read set, ascending (R227, R228). -/
def blockRows (ws : List WinRect) : List Nat := (List.range 1024).filter (fun b => ws.any (fun w => w.selects b))

/-- NROW of a view (R227). -/
def vNrow (v : View) : Nat := 4 * (blockRows (winRects v)).length

/-- VMIN of a view (R229). -/
def vVmin (v : View) : Nat := 48 + vNrow v + 16

/-- The rows of a frame in reading order, as y + 48: the 48 optical-black rows, then the read set (R228). -/
def readRows (bs : List Nat) : List Nat := List.range 48 ++ bs.flatMap (fun b => [4 * b + 48, 4 * b + 49, 4 * b + 50, 4 * b + 51])

/-- The place of row y + 48 in the reading order. -/
def readIndex (bs : List Nat) (row : Nat) : Option Nat :=
  if row < 48 then some row
  else
    let b := (row - 48) / 4
    if bs.contains b then some (48 + 4 * (bs.filter (fun c => decide (c < b))).length + (row - 48) % 4) else none

/-! ### The template in force, and when rows are read -/

/-- The COUNT entries of the template that a view holds, as pairs of words; none where the template is the built one (R104). -/
def vTemplate (v : View) : List (Word × Word) :=
  let n := bits (v (wkey widTpl 0)) 16 9
  (List.range n).map (fun e => (v (wkey widTpl (1 + 2 * e)), v (wkey widTpl (2 + 2 * e))))

/-- POS of an entry, signed (R100). -/
def entPos (w : Word) : Int := signed 17 (bits w 0 17)

/-- SLOT of an entry. -/
def entSlot (w : Word) : Nat := bits w 17 4

/-- KIND of an entry. -/
def entKind (w : Word) : Nat := bits w 21 5

/-- AUTO of an entry. -/
def entAuto (w : Word) : Bool := bit w 26

/-- The entries of the template of one kind. -/
def vEntries (v : View) (kind : Nat) : List (Word × Word) := (vTemplate v).filter (fun e => entKind e.1 == kind)

/-- Where the LONG_READ entries of a template lie, with their lengths: as given, and those with AUTO one after another. -/
def longSpans : List (Nat × Word × Word) → Int → List (Nat × Int × Nat)
  | [], _ => []
  | (i, a, b) :: es, at_ =>
    if entKind a = 1 then
      let p := if entAuto a then at_ else entPos a
      let n := bits b 13 13
      (i, p, n) :: longSpans es (p + n)
    else longSpans es at_

/-- The read sweeps of a view (R101, R104, R228): of each its RP, the place in the reading order of its first row, and its number of
rows. Row i of a sweep is the i-th row of the reading order from its ROW0 on, and is read at POS + i. -/
def readSweeps (v : View) : List (Int × Nat × Nat) :=
  let bs := blockRows (winRects v)
  let total := 48 + 4 * bs.length
  let es := vTemplate v
  if es.isEmpty then [(0, 0, total)]
  else
    let ix := (List.range es.length).zip es
    (longSpans (ix.map (fun p => (p.1, p.2.1, p.2.2))) 0).map (fun s =>
      let row0 := bits (es.getD s.1 (0#32, 0#32)).2 0 13
      let i0 := if row0 < 48 then row0 else 48 + ((bs.map (fun b => min 4 (row0 - (4 * b + 48)))).foldl (fun a b => a + b) 0)
      (s.2.1, i0, min s.2.2 (total - i0)))

/-- The RP at which the row at place i of the reading order is read; none where no sweep reads it. -/
def sweepRp (sw : List (Int × Nat × Nat)) (i : Nat) : Option Int :=
  (sw.find? (fun s => decide (s.2.1 ≤ i ∧ i < s.2.1 + s.2.2))).map (fun s => s.1 + ((i - s.2.1 : Nat) : Int))

/-- The place in the reading order of the row that is read in the window that begins at RP n, if there is one. -/
def sweepRow (sw : List (Int × Nat × Nat)) (n : Int) : Option Nat :=
  (sw.find? (fun s => decide (s.1 ≤ n ∧ n < s.1 + s.2.2))).map (fun s => s.2.1 + (n - s.1).toNat)

/-- The last RP at which a row is read. -/
def sweepEnd (sw : List (Int × Nat × Nat)) : Int :=
  (sw.filter (fun s => decide (0 < s.2.2))).foldl (fun a s => max a (s.1 + s.2.2 - 1)) 0

/-- The RP, from the frame's RP 0, at which row y + 48 is read. -/
def readRp (v : View) (row : Nat) : Option Int :=
  match readIndex (blockRows (winRects v)) row with
  | some i => sweepRp (readSweeps v) i
  | none => none

/-- Whether the short read of the row at place i, in the window that begins at RP n, comes together with the read of a row 3 after it
modulo 4, of this frame or the next (R59). -/
def r59Clash (v : View) (sw : List (Int × Nat × Nat)) (i : Nat) (n : Int) : Bool :=
  maskCount (vMask v) == 2 &&
    [n, n - fld v F.TT_VTOTAL_VTOTAL].any (fun m => match sweepRow sw m with
      | some j => (j + 4 - i % 4) % 4 == 3
      | none => false)

/-! ### Integrations -/

/-- TL in slots (R139). -/
def vTl (v : View) : Nat := fld v F.EXP_TL_SLOTS

/-- Q of the short ratio (R140). -/
def vQ (v : View) : Nat := fld v F.EXP_RATIO_Q

/-- VTOTAL of a view. -/
def vVtotal (v : View) : Nat := fld v F.TT_VTOTAL_VTOTAL

/-- The whole number nearest to the square root of n / d, a tie going up. -/
def nearestRoot (n d : Nat) : Nat := (isqrt (4 * n / d) + 1) / 2

/-- The placed long integration of a block at index k: TL · 2^(-k/2) to the nearest slot, never below one (R42, R43). Of two slots that
are as near the larger count is taken, as the example after R145 has it (3,914.5 is placed as 3,915); DEDUCED, assumption 6. -/
def placedLong (tl k : Nat) : Nat := max 1 (nearestRoot (tl * tl) (2 ^ k))

/-- The placed short integration of a block at index k: TL · 2^(-k/2) · 2^-Q (R42, R43, R140). -/
def placedShort (tl k q : Nat) : Nat := max 1 (nearestRoot (tl * tl) (2 ^ k * 4 ^ q))

/-- Whether R59 moves the short read of some row when short reads come `d` RP after their long reads: with s = 2, a window reads at
the same time a row that comes 3 after it modulo 4. -/
def r59Moves (v : View) (d : Nat) : Bool :=
  let n := 48 + vNrow v
  let vt := vVtotal v
  maskCount (vMask v) == 2 && vShort v &&
    (if (vTemplate v).isEmpty then (d % 4 == 3 && decide (d < n)) || ((d + 3 * vt) % 4 == 3 && decide (vt < n + d))
     else
      let sw := readSweeps v
      (List.range n).any (fun i => match sweepRp sw i with
        | some p => r59Clash v sw i (p + d)
        | none => false))

/-- D_S of a view before the raise against the frame before it (R141). -/
def vDs (v : View) : Nat :=
  if vShort v then
    let d := ceilDiv (placedShort (vTl v) 0 (vQ v)) 16
    d + flag (r59Moves v d)
  else 0

/-- D_S of a frame after one with effective offset `prev` and gap `gap` (R141). -/
def effDs (v : View) (prev gap : Nat) : Nat := if vShort v then max (vDs v) (prev - gap) else 0

/-- G of a view: the RP from its last long read window to the end of a frame of `vt` RP, less 1 (R141). -/
def vGap (v : View) (vt : Nat) : Nat := ((vt : Int) - sweepEnd (readSweeps v) - 1).toNat

/-- The longest TL with unchanged settings, at the effective D_S (R142). -/
def tlLimit (v : View) (ds : Nat) : Nat :=
  if vShort v then 16 * (vVtotal v - ds) - 12 * vW v else 16 * vVtotal v - 8 * vW v

/-- The reason for which settings whose effective D_S is `ds` cannot hold from frame to frame (R137, R138, R139, R140, R142, R145), if
there is one. -/
def checkSameAt (v : View) (ds : Nat) : Option Nat :=
  if !maskOk (vMask v) then some 0x01
  else if rpRaw v < rpMinRaw (maskCount (vMask v)) then some 0x02
  else if vTl v < 256 then some 0x03
  else if tlLimit v ds < vTl v then some 0x04
  else none

/-- As `checkSameAt`, where no frame before raises D_S. -/
def checkSame (v : View) : Option Nat := checkSameAt v (vDs v)

/-- When, in units of `clk` from the start of the frame, the read that ends the use in frame N of a row read at RP p ends: its short
read in the window `d` RP later, on the RP grid that holds it, or without a short sample its long read (R142, R143). -/
def readEnd (v0 : View) (rp0 rp1 d : Nat) (p : Int) : Int :=
  let vt : Int := vVtotal v0
  if vShort v0 then
    if p + d < vt then (16 * (p + d) + 16 * vW v0) * rp0 else 16 * vt * rp0 + (16 * (p + d - vt) + 16 * vW v0) * rp1
  else (16 * p + 12 * vW v0) * rp0

/-- Whether R143 holds for a row that is read at RP p of frame N and at RP q of frame N+1. -/
def pairRow (v0 v1 : View) (d : Nat) (p q : Int) : Bool :=
  let rp0 := rpRaw v0
  let rp1 := rpRaw v1
  decide (readEnd v0 rp0 rp1 d p + vTl v1 * rp1 ≤ 16 * vVtotal v0 * rp0 + (16 * q + 4 * vW v1) * rp1)

/-- Whether R143 holds for every row that both frames read, with D_S of the first. -/
def pairOk (v0 v1 : View) (d : Nat) : Bool :=
  let b0 := blockRows (winRects v0)
  let b1 := blockRows (winRects v1)
  if b0 == b1 && (vTemplate v0).isEmpty && (vTemplate v1).isEmpty then
    let n := 48 + 4 * b0.length
    ([0, n - 1, vVtotal v0 - d - 1, vVtotal v0 - d].filter (fun i => decide (i < n))).all (fun i => pairRow v0 v1 d i i)
  else
    let s0 := readSweeps v0
    let s1 := readSweeps v1
    (readRows b0).all (fun r =>
      match (readIndex b0 r).bind (sweepRp s0), (readIndex b1 r).bind (sweepRp s1) with
      | some p, some q => pairRow v0 v1 d p q
      | _, _ => true)

/-- The reason for which a step from one frame's settings, with their effective D_S, to the next one's is refused (R143), if there is
one. -/
def checkPair (v0 v1 : View) (ds : Nat) : Option Nat := if pairOk v0 v1 ds then none else some 0x05

/-- The reason for which a staged set cannot follow settings with effective D_S `ds` (R138, R141 to R144). -/
def checkStep (v0 v1 : View) (ds : Nat) : Option Nat :=
  match checkSameAt v1 (effDs v1 ds (vGap v0 (vVtotal v0))) with
  | some r => some r
  | none => checkPair v0 v1 ds

/-! ### COMMIT and LEAD -/

/-- Where the COMMIT event lies, in slots from the frame's RP 0 slot 0: the template's, else RP 0 slot 0 (R104). -/
def commitSlot (v : View) : Int :=
  match vEntries v 0x0A with
  | e :: _ => if entAuto e.1 then 0 else 16 * entPos e.1 + entSlot e.1
  | [] => 0

/-- The RP at which the first row of a frame is read: 0, or where a host's template begins to read. -/
def firstRp (v : View) : Int :=
  match readSweeps v with
  | [] => 0
  | p :: ps => ps.foldl (fun a q => min a q.1) p.1

/-- From the first-row integration, the ROW_RESET of the first read row, to RP 0 slot 0 of the frame, in slots (R42, R112). -/
def leadSlots (v : View) : Nat := ((vTl v : Int) - 4 * vW v - 16 * firstRp v).toNat

/-! ### The apply frame -/

/-- The start of frame M = fn + m in units of `clk`: the frame being read at its own length, later ones at their nominal
VTOTAL and RP (R112). -/
def frameStart (s : State) : Nat → Nat
  | 0 => s.tt.rp0
  | 1 => s.tt.rp0 + 16 * s.tt.vcur * s.tt.rpCur
  | m + 1 => frameStart s m + (let v := s.viewFor (s.tt.fn + m); 16 * vVtotal v * rpRaw v)

/-- The time of the COMMIT event of frame fn + m. -/
def commitTime (s : State) (m : Nat) : Nat :=
  let v := s.viewFor (s.tt.fn + m)
  ((frameStart s m : Int) + commitSlot v * (if m = 0 then s.tt.rpCur else rpRaw v)).toNat

/-- The first COMMIT event, as an offset from the frame being read, that comes no earlier than `t` and has not passed. -/
def firstCommit (s : State) (t : Nat) : Nat → Nat → Nat
  | 0, m => m
  | fuel + 1, m => if m < s.tt.committed ∨ commitTime s m < t then firstCommit s t fuel (m + 1) else m

/-- How many frames after frame M the set taken at its COMMIT event applies (R112): the least j ≥ 1 for which the first-row
integration starts after the COMMIT event under the old settings and under the new. -/
def applyAfter (c start period oldLead newLead : Nat) : Nat :=
  let need := c + max oldLead newLead - start
  max 1 (need / period + 1)

/-- The apply FN of a set whose REQ is set at time `t` (R112). -/
def applyFnAt (s : State) (old new : View) (t : Nat) : Nat :=
  if s.tt.run then
    let m := firstCommit s (t + 16 * s.rpNow) 8 0
    let v := s.viewFor (s.tt.fn + m)
    let rp := if m = 0 then s.tt.rpCur else rpRaw v
    let start := frameStart s m
    let c := commitTime s m
    let j := applyAfter c start (16 * vVtotal v * rp) (leadSlots old * rp) (leadSlots new * rpRaw new)
    (s.tt.fn + m + j) % 2 ^ 32
  else
    let next := if s.tt.started then fnNext s.tt.fn else 0
    -- a frame whose first event has come, or in TRIGGERED mode comes before the set is taken, has started
    match s.tt.startDue with
    | some d =>
      let v := s.viewFor next
      if d - leadSlots v * rpRaw v ≤ t + (if s.sys.mode = 5 then 16 * s.rpNow else 0) then fnNext next else next
    | none => next

/-- REQ is set (R111, R112): the staged set becomes the pending set, and TT_APPLYFN holds its apply FN. Nothing where a set is
pending already. -/
def State.commit (s : State) (byRom : Bool) : State :=
  match s.pend with
  | some _ => s
  | none =>
    let fn := applyFnAt s s.takenView s.staged s.tt.clk
    State.setReg { s with stg := [], pend := some ⟨s.stg, s.tt.clk, s.rpNow, byRom⟩ } R.TT_APPLYFN (w32 fn)

/-- The settings in force in the frame before the one for which a set staged now would apply (R143). -/
def State.before (s : State) : View := s.pendView

/-- The effective D_S of the frame being read (R141). -/
def State.effNow (s : State) : Nat := s.exp.dsEff

/-- The effective D_S of the settings of `before`: that of the frame being read, and of each set that was taken or is pending after it
in turn (R141, R143). -/
def State.effBefore (s : State) : Nat :=
  let step := fun (p : Nat × View) (o : Overlay) => (effDs (p.2.over o) p.1 (vGap p.2 (vVtotal p.2)), p.2.over o)
  let sets := s.taken.map (fun t => t.ov) ++ (match s.pend with
    | some p => [p.ov]
    | none => [])
  (sets.foldl step (if s.tt.run then s.effNow else vDs s.live, s.live)).1

/-- The reason for which the staged set cannot be committed (R142, R143): it would break the order of a pixel's integrations. With no
frame read and none to come there is no frame before it. -/
def State.commitReason (s : State) : Option Nat :=
  if s.tt.run || s.pend.isSome then checkStep s.before s.staged s.effBefore else checkSame s.staged

end Sys2Proof.Machine
end

