-- ==== Sys2Proof/Machine/Outputs.lean ====
section
/-!
DEFINITION. The output streams (R362 to R404): the display view, stream rates and the bandwidth check, stream frames and their
packets, shedding and fallback, and the commands of the outputs.
-/

namespace Sys2Proof.Machine

open Sys2Proof (Word Byte Pkt)

/-! ### The display view -/

/-- The bank of OUT.MESH in force, as a staged word of its own: a commit that carries a mesh marked ready carries the other
bank's number (R370). -/
def keyBank : Nat := 0x10002

/-- How many times binning reduces a picture in each direction (R232). -/
def binDiv (v : View) : Nat :=
  let m := fld v F.WIN_BIN_MODE
  if m = 1 then 2 else if m = 2 then 4 else 1

/-- The block rows that a window's picture consists of (R226). -/
def WinRect.rows (w : WinRect) : List Nat := (List.range 1024).filter w.selects

/-- Width and height of a window's processed picture, after skip and binning. -/
def pictureSize (v : View) (w : WinRect) : Nat × Nat := (4 * w.bw / binDiv v, 4 * w.rows.length / binDiv v)

/-- The display A view (R368): the size of the picture, the crop rectangle and the output size. -/
structure DispView where
  w : Nat
  h : Nat
  cx : Nat
  cy : Nat
  cw : Nat
  ch : Nat
  ow : Nat
  oh : Nat
  deriving DecidableEq, Repr

/-- The window with DISP. -/
def dispWin (v : View) : Option WinRect := (winRects v).find? (fun w => w.disp)

/-- The display A view of the settings; none where no window carries DISP. -/
def dispView (v : View) : Option DispView :=
  match dispWin v with
  | none => none
  | some r =>
    let p := pictureSize v r
    let cx := fld v F.OUT_CROP0_CX0
    let cy := fld v F.OUT_CROP0_CY0
    let cw := if fld v F.OUT_CROP1_CW = 0 then p.1 - cx else fld v F.OUT_CROP1_CW
    let ch := if fld v F.OUT_CROP1_CH = 0 then p.2 - cy else fld v F.OUT_CROP1_CH
    some ⟨p.1, p.2, cx, cy, cw, ch,
      if fld v F.OUT_DSIZE_OUT_W = 0 then cw else fld v F.OUT_DSIZE_OUT_W,
      if fld v F.OUT_DSIZE_OUT_H = 0 then ch else fld v F.OUT_DSIZE_OUT_H⟩

/-- Display A is routed: OUT_ROUTE.DISPA is 1 and an enabled window carries DISP (R105). -/
def displayRouted (v : View) : Bool := vtst v F.OUT_ROUTE_DISPA && (dispWin v).isSome

/-- Whether a view breaks the sizes of R368. -/
def sizeBad (v : View) : Bool :=
  match dispView v with
  | none => false
  | some d => decide (d.cw = 0 ∨ d.ch = 0 ∨ d.w < d.cx + d.cw ∨ d.h < d.cy + d.ch ∨ d.ow % 2 = 1 ∨
      d.ow < 16 ∨ 4096 < d.ow ∨ d.oh < 16 ∨ 4096 < d.oh)

/-- Source y of mesh node (i, j) of the bank that a view selects, in 1/16 pixel (R369, R370). -/
def meshY (v : View) (i j : Nat) : Nat := bits (v (wkey 0x0D00 (4225 * ((v keyBank).toNat % 2) + 65 * j + i))) 16 16

/-- The excursions of the nodes of the mesh that a view selects, in 1/1,024 row: each one's source y less that of its identity position
(R372). Where no window carries DISP the picture is taken to be the whole array: DESIGN CHOICE, assumption 63. -/
def excursions (v : View) : List Int :=
  let cy := fld v F.OUT_CROP0_CY0
  let ch := match dispView v with
    | some d => d.ch
    | none => if fld v F.OUT_CROP1_CH = 0 then 4096 - cy else fld v F.OUT_CROP1_CH
  (List.range 65).flatMap (fun j => (List.range 65).map (fun i =>
    (64 * meshY v i j : Nat) - ((1024 * cy + 16 * j * (ch - 1) : Nat) : Int)))

/-- Whether a mesh reaches further down than TT_CHASE.EXC (R106). -/
def meshDown (v : View) : Bool := (excursions v).any (fun e => decide ((1024 * fld v F.TT_CHASE_EXC : Nat) < e))

/-- Whether a display A view breaks the limits that R372 sets in LOCKED mode on the excursion of its nodes. -/
def meshBad (v : View) : Bool :=
  (dispView v).isSome && vtst v F.OUT_DFMT_MESH_EN && (meshDown v || (excursions v).any (fun e => decide (e < -131072)))

/-- Whether an orientation needs rows out of order (R372). -/
def orientBad (v : View) : Bool := decide (2 ≤ fld v F.OUT_DFMT_ORIENT)

/-- Whether the display A view breaks the limits of R372. -/
def excursionBad (v : View) : Bool := orientBad v || meshBad v

/-! ### The chase lead -/

/-- The read index of a picture row, counted from the first read after the optical-black rows; for a binned row that of the
last member row of its footprint (R105, R237). -/
def pictureRead (v : View) (r : WinRect) (p : Nat) : Nat :=
  let m := binDiv v
  let f := if m = 1 then 1
    else
      let base := if Config.mosaic = 2 then 8 else if Config.mosaic = 3 then 2 else 4
      if m = 2 then base else 2 * base
  let q := (p / (f / m) + 1) * f - 1
  match readIndex (blockRows (winRects v)) (4 * (r.rows.getD (q / 4) 0) + q % 4 + 48) with
  | some i => i - 48
  | none => 0

/-- The read index at picture position `x / d`, times `d`: between rows by interpolation, beyond the last at the spacing of the
last two (R105). -/
def readAt (v : View) (r : WinRect) (h x d : Nat) : Nat :=
  let n := x / d
  if n + 1 < h then
    let a := pictureRead v r n
    a * d + (pictureRead v r (n + 1) - a) * (x % d)
  else
    let b := pictureRead v r (h - 1)
    let a := pictureRead v r (h - 2)
    b * d + (b - a) * (x - (h - 1) * d)

/-- The largest of a list of whole numbers, 0 for none. -/
def maxInt : List Int → Int
  | [] => 0
  | [x] => x
  | x :: xs => max x (maxInt xs)

/-- L in TB units, to the nearest (R105). -/
def State.chaseLead (s : State) (v : View) : Int :=
  let g := s.rd F.TT_CHASE_GUARD
  let vtrl := s.rd F.TT_REF_VTOTAL_RL
  let dvt := 2 ^ s.rd F.TT_REF_D * vVtotal v
  match dispWin v, dispView v with
  | some r, some d =>
    if !displayRouted v then (4096 * g : Nat)
    else
      let den := max 1 (d.oh - 1)
      let c := 3 * vW v - 1
      -- F(ℓ) times den · D · VTOTAL
      let fl := fun (l : Nat) =>
        let x := d.cy * den + l * (d.ch - 1) + (fld v F.TT_CHASE_EXC + 1) * den
        ((vtrl * ((73 + c) * den + readAt v r d.h x den) : Nat) : Int) - ((l * den * dvt : Nat) : Int)
      let top := maxInt ((List.range s.tt.actN).map fl)
      let dd := den * dvt
      let rl := max 1 s.tt.rlNom
      let rest := dd * (1536000 * 256 + s.rd F.TT_CHASE_H * rl + g * 16 * rl)
      roundI (65536 * (top * ((rl * 256 : Nat) : Int) + (rest : Int))) (dd * rl * 256)
  | _, _ => (4096 * g : Nat)

/-- TT_LEAD computed again, in ACQUIRE, TRACK and COAST (R105, R129). -/
def State.setLead (s : State) : State :=
  if s.tt.lock = 0 then s else s.setReg R.TT_LEAD (w32 (unsigned 32 (s.chaseLead s.live)))

/-! ### Rates -/

/-- The frame rate that rates are counted at, in Hz, as a fraction (R366): of the settings, or in LOCKED mode of the reference. -/
def State.frameRate (s : State) (v : View) : Nat × Nat :=
  if s.checkMode == 0x4 then (64000000000 * 2 ^ s.rd F.TT_REF_D, s.rd F.TT_REF_VTOTAL_RL * s.tt.rlNom)
  else (83886080000000, vVtotal v * rpRaw v)

/-- Bits per pixel of a display format (R373). -/
def dispBits (v : View) : Nat :=
  let f := fld v F.OUT_DFMT_FORMAT
  if f = 1 then 24 else if f = 2 then 30 else 20

/-- The words of rows with their trailers, and of the embedded rows (R349, R353). -/
def rowsWords (n rowBits : Nat) : Nat := n * (ceilDiv rowBits 32 + 2) + 192

/-- Words of a display A frame, in full size or scaled by 1/2 (R366, R387). -/
def dispAWords (v : View) (half : Bool) : Nat :=
  match dispView v with
  | some d =>
    if !displayRouted v then 0
    else if half then rowsWords (d.oh / 2) (d.ow / 4 * 2 * dispBits v) else rowsWords d.oh (d.ow * dispBits v)
  | none => 0

/-- The size of display B: PB_OUT, or the companion's (R322). -/
def State.dispBSize (s : State) (v : View) : Nat × Nat :=
  let p := s.reg (wkey 0x0B00 2)
  (if fld v F.PB_OUT_OUT_W = 0 then bits p 0 12 else fld v F.PB_OUT_OUT_W,
   if fld v F.PB_OUT_OUT_H = 0 then bits p 16 12 else fld v F.PB_OUT_OUT_H)

/-- Words of a display B frame; it is produced while the companion is in RUN or LOST (R365). -/
def State.dispBWords (s : State) (v : View) : Nat :=
  if vtst v F.OUT_ROUTE_DISPB && (s.pb.state == 4 || s.pb.state == 5) then
    let d := s.dispBSize v
    rowsWords d.2 (d.1 * 20)
  else 0

/-- Bytes of a codestream (R378). -/
def codeBytes (bpp w h : Nat) : Nat :=
  let slice := bpp * w * 16 / 128
  slice * (h / 16) + slice * (h % 16) / 16

/-- Words of the coding stream's frame. -/
def codeWords (v : View) : Nat :=
  match (winRects v).find? (fun w => w.code) with
  | some w =>
    if vtst v F.OUT_ROUTE_CODE then
      let p := pictureSize v w
      ceilDiv (codeBytes (fld v F.OUT_CODE_BPP) p.1 p.2) 4 + 192
    else 0
  | none => 0

/-- The depth of radiance vision in bits (R400). -/
def visDepth (v : View) : Nat := [12, 14, 16, 16].getD (fld v F.OUT_VIS_DEPTH) 12

/-- Words of the vision stream of a window (R381 to R383). -/
def visWords (v : View) (w : WinRect) : Nat :=
  if vtst v F.OUT_ROUTE_VIS && w.vis then
    let p := pictureSize v w
    let raw := fld v F.OUT_VIS_MODE = 1
    let rows := if raw then p.2 * maskCount (fld v F.OUT_VIS_SAMPLESEL &&& vMask v) else p.2
    let side := if vtst v F.OUT_VIS_SIDE then w.rows.length * ceilDiv w.bw 8 else 0
    rowsWords rows (p.1 * (if raw then 12 else visDepth v)) + side
  else 0

/-- Data words of the statistics push per set (R389). -/
def statsWords (v : View) : Nat :=
  32768 * fld v F.STA_CFG_PUSH_GRID + 512 * fld v F.STA_CFG_PUSH_HIST + 256 * fld v F.STA_CFG_PUSH_ROWPROF +
    512 * fld v F.STA_CFG_PUSH_BGRID

/-- Words per frame of the shed groups: STATS, CODING, VISION, DISPB (R401). -/
def State.groupWords (s : State) (v : View) : List Nat :=
  [statsWords v, codeWords v, ((winRects v).map (visWords v)).foldl (fun a b => a + b) 0, s.dispBWords v]

/-- The usable rate of lanes at a lane rate, in bits per second (R366, R410). -/
def usableRate (rate lanes : Nat) : Nat := lanes * (11925000000 / 2 ^ rate)

/-- Whether words per frame fit a rate. -/
def State.fits (s : State) (v : View) (words usable : Nat) : Bool :=
  let f := s.frameRate v
  decide (words * 32 * f.1 ≤ usable * f.2)

/-- Words per frame of every routed stream (R366). -/
def State.totalWords (s : State) (v : View) : Nat := dispAWords v false + (s.groupWords v).foldl (fun a b => a + b) 0

/-- The rate of a clip readout that runs, in bits per second (R654). -/
def State.readRate (s : State) : Nat := if s.rec_.reading.isSome then 100000000 * s.rd F.REC_CFG_READ_RATE else 0

/-- Whether settings fit a lane rate and a mask of configured lanes (R366). -/
def State.bandwidthOk (s : State) (v : View) (rate mask : Nat) : Bool :=
  decide (s.readRate ≤ usableRate rate (maskCount mask)) && s.fits v (s.totalWords v) (usableRate rate (maskCount mask) - s.readRate)

/-- OUT_STAT.RATE: the staged total in Mb/s, saturating (R403). -/
def State.rateMb (s : State) : Nat :=
  let f := s.frameRate s.staged
  min 65535 (roundUp (s.totalWords s.staged * 32 * f.1 + s.readRate * f.2) (f.2 * 1000000))

/-- Whether a coded picture needs more than 2,000 Mpixel/s across both encodings (R380). -/
def State.encoderBad (s : State) (v : View) : Bool :=
  match (winRects v).find? (fun w => w.code) with
  | some w =>
    let p := pictureSize v w
    let f := s.frameRate v
    decide (2000000000 * f.2 < p.1 * p.2 * (if fld v F.OUT_CODE_REC_BPP = 0 then 1 else 2) * f.1)
  | none => false

/-! ### Checks of a staged change -/

/-- The limits on the outputs that every staged change keeps (R366, R380). -/
def State.rateReason (t : State) : Option Nat :=
  if t.encoderBad t.staged then some 0x77
  else if !t.bandwidthOk t.staged (t.rd F.LNK_CFG_RATE) (t.rd F.LNK_CFG_LANES) then some 0x73
  else none

/-- The reason for which what was staged in `t` cannot stand after the settings of `s` (R138, R142 to R145, R366, R380). While
no frame is read and no set is pending there is no frame before it to step from. -/
def stagedReason (t : State) : Option Nat :=
  match t.commitReason with
  | some r => some r
  | none => t.rateReason

/-- Whether codes of OUT.COMPAND break R381. -/
def compandBad (v : View) : Bool :=
  let k := (List.range 17).map (fun i => bits (v (wkey 0x0D01 i)) 0 16)
  k.any (fun x => decide (2 ^ visDepth v ≤ x)) || (k.zip (k.drop 1)).any (fun p => decide (p.2 < p.1))

/-- The BPP values of R378 and R380. -/
def bppBad (n : Nat) : Bool := decide (n < 16 ∨ 96 < n)

/-- Whether display A's fallback does not fit one lane (R387). -/
def State.fallbackBad (t : State) (v : View) : Bool :=
  displayRouted v &&
    (if vtst v F.OUT_DFMT_FALLBACK then !t.fits v (dispAWords v false) (2 * usableRate (t.rd F.LNK_CFG_RATE) 1)
     else !t.fits v (dispAWords v true) (usableRate (t.rd F.LNK_CFG_RATE) 1))

/-- The reason for which a change of the output settings staged in `t` is refused. -/
def outReason (t : State) : Option Nat :=
  let v := t.staged
  if sizeBad v then some 0x70
  else if t.checkMode == 0x4 && orientBad v then some 0x72
  else if t.checkMode == 0x4 && meshBad v then some 0x71
  else if bppBad (fld v F.OUT_CODE_BPP) || (fld v F.OUT_CODE_REC_BPP != 0 && bppBad (fld v F.OUT_CODE_REC_BPP)) then some 0x75
  else if fld v F.OUT_VIS_SAMPLESEL = 0 then some 0x78
  else if fld v F.OUT_VIS_CURVE = 2 && compandBad v then some 0x76
  else if t.encoderBad v then some 0x77
  else if t.fallbackBad v then some 0x74
  else t.rateReason

/-- A change of the output settings staged in `t`: kept, or refused with PARAM. -/
def outAns (s t : State) : Ans × State :=
  match outReason t with
  | some r => s.param r
  | none => t.ok []

/-! ### Commands -/

/-- OUTPUT_ROUTE (R390). -/
def srvOutputRoute (k : Pkt) (s : State) : Ans × State := s.underLevel <| outAns s (s.stage R.OUT_ROUTE (keepMask (pw k 0) 0xF))

/-- DISPLAY_FORMAT (R391). -/
def srvDisplayFormat (k : Pkt) (s : State) : Ans × State :=
  let t := s.stage R.OUT_DFMT (keepMask (pw k 0) 0x3F)
  let t := t.stage R.OUT_DSIZE (keepMask (pw k 1) 0x1FFF1FFF)
  let t := t.stage R.OUT_CROP0 (keepMask (pw k 2) 0x0FFF0FFF)
  outAns s (t.stage R.OUT_CROP1 (keepMask (pw k 3) 0x1FFF1FFF))

/-- CODING_CONFIG (R393). -/
def srvCodingConfig (k : Pkt) (s : State) : Ans × State := s.underLevel <| outAns s (s.stage R.OUT_CODE (keepMask (pw k 0) 0x7F7F))

/-- VISION_FORMAT (R394): with CURVE PWL the knots follow. -/
def srvVisionFormat (k : Pkt) (s : State) : Ans × State :=
  let pwl := pf k 0 3 2 == 2
  if k.payload.length != (if pwl then 18 else 1) then s.fin 3 []
  else
    let t := s.stage R.OUT_VIS (keepMask (pw k 0) 0x7FFF)
    outAns s (if pwl then t.stageRun (wkey 0x0D01 0) ((k.payload.drop 1).map (fun w => keepMask w 0xFFFF)) else t)

/-- Whether four 2-bit codes name every shed group (R395). -/
def prioOk (w : Word) : Bool := (List.range 4).all (fun g => (List.range 4).any (fun i => bits w (2 * i) 2 == g))

/-- STREAM_PRIORITY (R395). -/
def srvStreamPriority (k : Pkt) (s : State) : Ans × State :=
  if prioOk (pw k 0) then (s.setReg R.OUT_PRIO (keepMask (pw k 0) 0xFF)).ok [] else s.param 0x7A

/-- The bank of OUT.MESH in force. -/
def State.meshBank (s : State) : Nat := (s.reg keyBank).toNat % 2

/-- Whether a commit that carries a mesh is pending (R370). -/
def State.meshPending (s : State) : Bool := (s.pendView keyBank).toNat % 2 != s.meshBank

/-- WARP_MESH_LOAD (R370, R372, R392): nodes of the staged bank, and with LAST its check. -/
def srvWarpMeshLoad (k : Pkt) (s : State) : Ans × State :=
  let start := pf k 0 0 13
  let ws := k.payload.drop 1
  let b := 1 - s.meshBank
  if s.meshPending then s.fin 8 []
  else if 4225 < start + ws.length then s.param 0x79
  else
    let t := s.setRun (wkey 0x0D00 (4225 * b + start)) ws
    if pf k 0 17 1 = 1 then
      let u := t.stage keyBank (w32 b)
      if u.checkMode == 0x4 && (meshBad u.staged || meshDown u.staged) then
        (if orientBad u.staged then t.param 0x72 else t.param 0x71)
      else u.ok []
    else t.ok []

/-- A TABLE_WRITE of OUT.MESH, which reaches the words of the staged bank alone (R370). -/
def tblMesh (start : Nat) (ws : List Word) (s : State) : WRes × State :=
  let b := 1 - s.meshBank
  if s.meshPending then (.refuse 8 0 0, s)
  else if start < 4225 * b ∨ 4225 * (b + 1) < start + ws.length then (.refuse 4 0x14 0, s)
  else (.ok, s.setRun (wkey 0x0D00 start) ws)

/-- A TABLE_WRITE of OUT.COMPAND: staged, and checked where PWL is selected (R381). -/
def tblCompand (start : Nat) (ws : List Word) (s : State) : WRes × State :=
  let t := s.stageRun (wkey 0x0D01 start) (ws.map (fun w => keepMask w 0xFFFF))
  if fld t.staged F.OUT_VIS_CURVE = 2 && compandBad t.staged then (.refuse 4 0x76 0, s) else (.ok, t)

/-- A refused write of bank OUT: OUT_STAT.ERR with the reason (R395). -/
def outErr (s : State) (st reason : Nat) : WRes × State :=
  (.refuse st reason 0, s.wrs [(F.OUT_STAT_ERR, 1), (F.OUT_STAT_REASON, reason)])

/-- A write of a register of bank OUT (R390 to R395). -/
def wrOut (a : Nat) (v : Word) (s : State) : WRes × State :=
  if a = R.OUT_PRIO then
    if prioOk v then (.ok, s.setReg a (keepMask v 0xFF)) else outErr s 4 0x7A
  else
    let t := s.stage a v
    match outReason t with
    | some r => outErr s 4 r
    | none => (.ok, t)

/-- A write of TT_CHASE (R128, R372): EXC is staged, GUARD is in force at once. -/
def wrTtChase (v : Word) (s : State) : WRes × State :=
  let g := s.wr F.TT_CHASE_GUARD (bits v 8 8)
  let t := g.stageF F.TT_CHASE_EXC (min 128 (bits v 0 8))
  if s.checkMode == 0x4 && meshBad t.staged then (.refuse 4 0x71 0, s) else (.ok, t)

/-! ### Stream packets -/

/-- The shed group of a stream (R362), if it has one. -/
def streamGroup (stream : Nat) : Option Nat :=
  if stream = 2 then some 3
  else if stream = 3 ∨ stream = 0x31 then some 1
  else if 0x10 ≤ stream ∧ stream < 0x20 then some 2
  else if stream = 0x20 then some 0
  else none

/-- The groups shed now, by lane changes and by enforcement. -/
def State.shedGroups (s : State) : List Nat := s.out.linkShed ++ s.out.enfShed

/-- Whether a stream is shed. -/
def State.streamShed (s : State) (stream : Nat) : Bool :=
  match streamGroup stream with
  | some g => s.shedGroups.contains g
  | none => false

/-- SEQ of a stream's next packet (R362). -/
def State.streamSeq (s : State) (stream : Nat) : Nat :=
  match s.out.seqs.find? (fun p => p.1 == stream) with
  | some p => p.2
  | none => 0

/-- A packet of a stream (R362 to R364). It is sent only while the lanes carry streams. -/
def State.streamPacket (s : State) (stream ptype fn : Nat) (ws : List Word) : State :=
  if !s.canSend then s
  else
    let q := s.streamSeq stream
    let words := w32 (stream + ptype * 2 ^ 8 + q * 2 ^ 16) :: w32 fn :: ws
    State.sendData { s with out := { s.out with
        seqs := (stream, (q + 1) % 65536) :: s.out.seqs.filter (fun p => p.1 != stream),
        sent := s.out.sent ++ [⟨stream, ptype, q, words⟩] } } stream words

/-- Words sent in packets of a type with their byte offsets, 4,096 words each (R363, R419). -/
def State.splitPackets (s : State) (stream ptype fn : Nat) : Nat → Nat → List Word → State
  | 0, _, _ => s
  | n + 1, off, ws =>
    if ws.isEmpty then s
    else (s.streamPacket stream ptype fn (w32 off :: ws.take 4093)).splitPackets stream ptype fn n (off + 4 * 4093) (ws.drop 4093)

/-- A packet of a stream frame: a frame that is not on the link sends none. -/
def State.framePacket (s : State) (f : StreamFrame) (ptype : Nat) (ws : List Word) : State :=
  if f.onLink then s.streamPacket f.stream ptype f.fn ws else s

/-- A header with its stream ID and its CRC (R349). -/
def closeHeader (stream : Nat) (hdr : List Word) : List Word :=
  let h := match hdr with
    | w :: ws => putBits w 8 8 stream :: ws
    | [] => []
  h.take 127 ++ [crc32c (h.take 127)]

/-- A stream frame begun: its FRAME_START and its HEADER (R364, R349). -/
def State.beginFrame (s : State) (f : StreamFrame) (size : Word) (form : Word) (bytes : Nat) : State :=
  let t := s.framePacket f 1 [size, form, w32 f.src, w32 bytes]
  let t := t.framePacket f 2 f.hdr
  { t with out := { t.out with live := t.out.live ++ [f] } }

/-- A stream frame that cannot be completed ends with ABORT and its reason: 1 SHED, 2 MODE, 3 INTERNAL (R363, R364). Shedding does not
stop the encoding of a coding frame, which the recorder goes on receiving (R380). -/
def State.abortFrame (s : State) (reason : Nat) (f : StreamFrame) : State :=
  let keep := f.stream == 3 && reason == 1
  let t := s.framePacket f 7 [w32 reason]
  let t : State := { t with out := { t.out with live := t.out.live.filterMap (fun g =>
    if g != f then some g else if keep then some { g with onLink := false } else none) } }
  if f.onLink then t.bump F.OUT_ABORT_COUNT else t

/-- Every stream frame in progress aborted (R364). -/
def State.abortAll (s : State) (reason : Nat) : State := s.out.live.foldl (fun t f => t.abortFrame reason f) s

/-- Stream frames in progress of shed groups aborted (R386). -/
def State.abortShed (s : State) : State :=
  (s.out.live.filter (fun f => f.onLink && s.streamShed f.stream)).foldl (fun t f => t.abortFrame 1 f) s

/-! ### Shedding -/

/-- The usable rate of the active lanes, less that of a clip readout where the shed groups `shed` leave it running (R654). -/
def State.usableNow (s : State) (shed : List Nat) : Nat :=
  usableRate (s.rd F.LNK_CFG_RATE) (maskCount s.lnk.active) - (if shed.contains 1 then 0 else s.readRate)

/-- OUT_SHED as the shedding has it (R402). -/
def State.showShed (s : State) : State :=
  s.wrs [(F.OUT_SHED_GROUPS, (List.range 4).foldl (fun a g => a + flag (s.shedGroups.contains g) * 2 ^ g) 0),
    (F.OUT_SHED_FALLBACK, flag s.out.fallback)]

/-- Words per frame of display A and of the groups that a list does not shed. -/
def State.wordsLeft (s : State) (shed : List Nat) : Nat :=
  let g := s.groupWords s.live
  (List.range 4).foldl (fun a i => if shed.contains i then a else a + g.getD i 0) (dispAWords s.live false)

/-- The groups in the order of OUT_PRIO (R401). -/
def State.prio (s : State) : List Nat := (List.range 4).map (fun i => bits (s.reg R.OUT_PRIO) (2 * i) 2)

/-- Groups shed in order until the remainder fits (R386). -/
def shedUntil (s : State) : List Nat → List Nat → List Nat
  | [], acc => acc
  | g :: gs, acc =>
    if s.fits s.live (s.wordsLeft (acc ++ s.out.enfShed)) (s.usableNow (acc ++ s.out.enfShed)) then acc
    else shedUntil s gs (if acc.contains g then acc else acc ++ [g])

/-- The groups of shed order for which there is no room yet: those that stay shed when lanes return, tried in the reverse of
their shed order (R388). -/
def restoreUntil (s : State) : Nat → List Nat → List Nat
  | 0, acc => acc
  | n + 1, acc =>
    let less := acc.dropLast
    if acc.isEmpty then acc
    else if s.fits s.live (s.wordsLeft (less ++ s.out.enfShed)) (s.usableNow (less ++ s.out.enfShed)) then restoreUntil s n less
    else acc

/-- A change of the active lanes: groups are shed until the remainder fits (R386). -/
def State.reshed (s : State) : State :=
  let l := shedUntil s s.prio s.out.linkShed
  State.abortShed (State.showShed { s with out := { s.out with linkShed := l } })

/-- At a frame start: groups return where the remainder fits, and display A enters or leaves its fallback (R387, R388). -/
def State.frameShed (s : State) : State :=
  let l := restoreUntil s 4 s.out.linkShed
  let full := s.thm.level != 2 && s.fits s.live (dispAWords s.live false) (s.usableNow [1])
  State.showShed { s with out := { s.out with linkShed := l, fallback := s.lnk.active != 0 && !full } }

/-- What OUT_STAT reads as (R403). -/
def State.viewOutStat (s : State) : Word :=
  putBits (putBits (putBits (s.reg R.OUT_STAT) 0 16 s.rateMb) 16 1 s.meshBank) 17 1
    (flag ((s.staged keyBank).toNat % 2 != s.meshBank))

end Sys2Proof.Machine
end

