-- ==== Sys2Proof/Machine/Black.lean ====
section
/-!
DEFINITION. The mosaic and its bins (R46, R232, R233), and the black level (R261, R264): the estimator over the optical-black codes of
each sample, and the black that each row is corrected with.
-/

namespace Sys2Proof.Machine

open Sys2Proof (Word)

/-! ### The mosaic -/

/-- The filter at a place of the mosaic: 0 R, 1 G, C or M, 2 B, 3 I (R46). -/
def colourAt (x y : Nat) : Nat :=
  match Config.mosaic with
  | 2 =>
    if (x + y) % 2 = 1 then 1
    else if x % 2 = 1 then 3
    else if (x / 2 + y / 2) % 2 = 0 then 0 else 2
  | 3 => 1
  | _ => if (x + y) % 2 = 1 then 1 else if y % 2 = 0 then 0 else 2

/-- The period of the mosaic (R282). -/
def mosaicPeriod : Nat :=
  match Config.mosaic with
  | 2 => 4
  | 3 => 1
  | _ => 2

/-- Height and width of a bin's binFoot in pixels (R232). -/
def binFoot (v : View) : Nat := if binDiv v = 1 then 1 else (if binDiv v = 2 then 2 else 4) * mosaicPeriod

/-- The member pixels of binned position `x` in one direction (R232). -/
def members (v : View) (x : Nat) : List Nat :=
  let m := binDiv v
  if m = 1 then [x]
  else
    let out := binFoot v / m
    (List.range m).map (fun i => binFoot v * (x / out) + x % out + out * i)

/-- The code of a bin from its members (R233). -/
def binCode (ds : List Nat) : Nat :=
  if ds.contains 4095 then 4095
  else
    let l := ds.filter (fun d => d != 0)
    roundUp (l.foldl (fun a b => a + b) 0) l.length

/-! ### The black level -/

/-- B_s in force, in 1/16 count (R292). -/
def State.blackOf (s : State) (sample : Nat) : Nat := bits (s.reg (R.PA_BLACK0 + sample)) 0 16

/-- The optical-black columns x = -16 to -3 and 4,098 to 4,111 (R261) as places among the codes of a row. With binning set they are those
of each bin that lies in them whole: the tiling goes on into the optical-black columns (R232; DEDUCED, assumption 64). -/
def obColumns (v : View) : List (List Nat) :=
  let n := 16 / binDiv v
  (((List.range n) ++ (List.range n).map (fun i => 4112 / binDiv v + i)).map (members v)).filterMap (fun xs =>
    if xs.all (fun x => decide (x < 14) || decide (4114 ≤ x ∧ x < 4128)) then some (xs.map (fun x => x + 8)) else none)

/-- The optical-black codes of a row of the (binned) mosaic, from the codes of its member rows. -/
def obCodes (v : View) (rows : List (List Nat)) : List Nat :=
  let rs := rows.map (fun c => c.toArray)
  (obColumns v).map (fun js => binCode (rs.flatMap (fun c => js.map (fun j => c.getD j 0))))

/-- The codes of R261 that count: those of the rows y = -40 to -1 within OUTLIER counts of the black in force. A bin counts where its
rows lie among them whole and none is INVALID. -/
def State.blackCodes (s : State) (fn sample : Nat) (v : View) : List Nat :=
  let far := 16 * max 1 (fld v F.PA_BLC_OUTLIER)
  let b := s.blackOf sample
  let mine := s.pix.rows.filter (fun r => r.fn == fn && r.sample == sample && decide (r.row < 48) && !bit r.tag 15)
  (((List.range (48 / binDiv v)).map (members v)).filter (fun ys => ys.all (fun y => decide (8 ≤ y)))).flatMap (fun (ys : List Nat) =>
    let rows : List RowCodes := ys.filterMap (fun y => mine.find? (fun r => r.row == y))
    if rows.length < ys.length then []
    else (obCodes v (rows.map (fun r => r.codes))).filter (fun d =>
      d != 0 && d != 4095 && decide (16 * d ≤ b + far) && decide (b ≤ 16 * d + far)))

/-- The black level of a sample measured in a frame, `key` being the pedestal and the ramp gain of its rows (R261). The mean of no
code at all is a free value. -/
def State.measureBlack (s : State) (fn sample : Nat) (v : View) (key : Nat × Nat) : State :=
  let l := s.blackCodes fn sample v
  let (w, s) := if l.isEmpty then s.fresh else (0#32, s)
  let f : Int := if l.isEmpty then (bits w 0 16 : Nat) else (roundUp (16 * l.foldl (fun a b => a + b) 0) l.length : Nat)
  let b : Int := (s.blackOf sample : Nat)
  let few := decide (l.length < 256)
  let step := fn == 0 || (match s.pix.blcKey.getD sample none with
    | some k => k != key
    | none => false)
  let nb : Int :=
    if fn = 0 ∧ few = true then (16 * key.1 : Nat)
    else if step then f
    else if few then b
    else b + roundI (f - b) (2 ^ min 4 (fld v F.PA_BLC_ALPHA))
  let hold := few && !step
  State.setReg { s with pix := { s.pix with
      fblack := s.pix.fblack.set sample f, blcKey := s.pix.blcKey.set sample (some key), held := s.pix.held || hold } }
    (R.PA_BLACK0 + sample) (w32 (unsigned 16 nb))

/-- The black that a row of the (binned) mosaic is corrected with, in counts: B_s in whole counts, or B_s with the row's own correction
(R263, R264). -/
def rowBlack (v : View) (rows : List RowCodes) : Rat :=
  match rows with
  | [] => 0
  | r :: _ =>
    if vtst v F.PA_BLC_ROWCORR then
      let l := obCodes v (rows.map (fun c => c.codes))
      ((r.b : Int) - r.f : Int) / 16 + ((l.foldl (fun a d => a + d) 0 : Nat) : Rat) / (max 1 l.length : Nat)
    else (roundUp r.b 16 : Nat)

/-- A row and sample taken in on the logic die; the last optical-black row of a sample ends the measurement of its black. -/
def State.addRow (s : State) (fn row sample : Nat) (tag : Word) (conv : Nat) (key : Nat × Nat) (codes : List Nat) : State :=
  let v := if fn = s.tt.fn then s.live else s.live.over s.pix.prevOv
  let r : RowCodes := ⟨fn, row, sample, tag, conv, s.blackOf sample, s.pix.fblack.getD sample 0, codes⟩
  let t := { s with pix := { s.pix with rows := s.pix.rows ++ [r] } }
  if row = 47 then t.measureBlack fn sample v key else t

end Sys2Proof.Machine
end

