-- ==== Sys2Proof/Machine/Exposure.lean ====
section
/-!
DEFINITION. Exposure commands, settings contexts and sequences (R137 to R183).
-/

namespace Sys2Proof.Machine

open Sys2Proof (Word Byte Pkt)

/-- Slots of a time in ns at the staged RP, to the nearest, a tie going up (R139). -/
def State.slotsOfNs (s : State) (t : Nat) : Nat := roundUp (t * nsUnits25) (25 * rpRaw s.staged)

/-- Whether AE is enabled in the staged set (R156). -/
def State.aeOn (s : State) : Bool := vtst s.staged F.EXP_CTRL_AE_EN

/-- The answer to a change that was staged in `t`: PARAM with the reason where it cannot stand, and then nothing is staged. -/
def stageAns (s t : State) (pl : List Word) : Ans × State :=
  match stagedReason t with
  | some r => s.param r
  | none => t.ok pl

/-- AE_CONFIG (R164). -/
def srvAeConfig (k : Pkt) (s : State) : Ans × State :=
  let t := s.stage R.EXP_CTRL (keepMask (pw k 0) 0xF)
  let t := t.stage R.EXP_AE_CFG (keepMask (pw k 1) 0x3FF)
  let t := t.stage R.EXP_AE_TARGET (keepMask (pw k 2) 0xFFFF)
  let t := t.stage R.EXP_AE_TLMAX (keepMask (pw k 3) 0x3FFFFF)
  t.ok []

/-- What SET_EXPOSURE stages, or the reason for which it is refused (R156, R165). -/
def setExposure (k : Pkt) (s : State) : Nat ⊕ State :=
  let mask := pf k 1 0 4
  let gains := pf k 1 8 8
  let keep := pf k 1 16 1 == 1
  let tl := s.slotsOfNs (pw k 0).toNat
  if mask == 8 then .inl 0x01
  else if s.aeOn && ((pw k 0).toNat != 0 || (gains != 0 && !keep)) then .inl 0x06
  else if (pw k 0).toNat != 0 && decide (tl < 256) then .inl 0x03
  else if (pw k 0).toNat != 0 && decide (1048560 < tl) then .inl 0x04
  else
    let t := if (pw k 0).toNat == 0 then s else s.stageF F.EXP_TL_SLOTS tl
    let t := if mask == 0 then t else t.stageF F.EXP_SAMPLES_MASK mask
    let t := if keep || (s.aeOn && gains == 0) then t else t.stage R.CNV_RAMP (w32 gains)
    match stagedReason t with
    | some r => .inl r
    | none => .inr t

/-- SET_EXPOSURE (R160, R165): in SEQUENCE it is answered STATE. -/
def srvSetExposure (k : Pkt) (s : State) : Ans × State :=
  if s.checkMode == 0x6 then State.fin (s.bump F.CMD_STATE_COUNT) 5 [w32 s.checkMode]
  else if pf k 1 31 1 == 1 && s.pend.isSome then s.fin 8 []
  else match setExposure k s with
    | .inl r => s.param r
    | .inr t =>
      let tl := w32 (vTl t.staged)
      if pf k 1 31 1 == 1 then
        let u := t.commit false
        (.done 0 (u.reg R.TT_APPLYFN).toNat [tl, u.reg R.TT_APPLYFN], u)
      else t.ok [tl]

/-- Whether a threshold word keeps R166: T at most 3,839 and W at most T. -/
def threshOk (w : Word) : Bool := decide (bits w 0 12 ≤ 3839 ∧ bits w 16 8 ≤ bits w 0 12)

/-- EXP_RATIO with Q, QMIN and QMAX clamped into 2 to 10 (R174). -/
def ratioWord (w : Word) : Word :=
  w32 (clampN 2 10 (bits w 0 4) + clampN 2 10 (bits w 8 4) * 2 ^ 8 + clampN 2 10 (bits w 12 4) * 2 ^ 12)

/-- HDR_CONFIG (R166). -/
def srvHdrConfig (k : Pkt) (s : State) : Ans × State :=
  if pf k 0 0 4 < 2 || 10 < pf k 0 0 4 then s.param 0x07
  else if !(threshOk (pw k 1) && threshOk (pw k 2) && threshOk (pw k 3)) then s.param 0x0C
  else
    let t := s.stage R.EXP_RATIO (ratioWord (pw k 0))
    let t := (List.range 3).foldl (fun t i => t.stage (R.EXP_MTH_HCG + i) (keepMask (pw k (1 + i)) 0xFF0FFF)) t
    let t := t.stage R.EXP_MOTION (keepMask (pw k 4) 0x7FF)
    stageAns s t []

/-- FLICKER_CONFIG (R167). -/
def srvFlickerConfig (k : Pkt) (s : State) : Ans × State :=
  (s.stage R.EXP_FLICKER (keepMask (pw k 0) 0xFFFF0FFF)).ok []

/-! ### Contexts -/

/-- The two words of a context (R157). -/
def ctxWords (v : View) (c : Nat) : Word × Word := (v (wkey 0x0600 (2 * c)), v (wkey 0x0600 (2 * c + 1)))

/-- TL of a context: as given, or the reference TL times 2^(EV/8), placed to the nearest slot, a tie going up (R157). -/
def ctxTl (w : Word × Word) (ref : Nat) : Nat :=
  if bit w.1 8 then
    let ev := signed 8 (bits w.2 0 8)
    if 0 ≤ ev then rootRound 8 (ref ^ 8 * 2 ^ ev.toNat) 1 else rootRound 8 (ref ^ 8) (2 ^ ev.natAbs)
  else bits w.2 0 20

/-- The exposure words that a context carries, with Q's bounds kept from a view (R157, R160). -/
def ctxOverlay (v : View) (w : Word × Word) (ref : Nat) : Overlay :=
  [(R.EXP_SAMPLES, w32 (bits w.1 0 4)), (R.EXP_TL, w32 (ctxTl w ref)),
   (R.EXP_RATIO, putBits (v R.EXP_RATIO) 0 4 (bits w.1 4 4)), (R.CNV_RAMP, w32 (bits w.1 16 8))]

/-- The exposure words of a view: the base set (R159). -/
def baseSet (v : View) : List (Nat × Word) :=
  [R.EXP_SAMPLES, R.EXP_TL, R.EXP_RATIO, R.CNV_RAMP].map (fun a => (a, v a))

/-- The reason for which a context by itself cannot be a frame's exposure (R138, R142, R145). -/
def ctxReason (v : View) (w : Word × Word) (ref : Nat) : Option Nat :=
  if !maskOk (bits w.1 0 4) then some 0x01
  else if bits w.1 4 4 < 2 || 10 < bits w.1 4 4 then some 0x07
  else if 1048560 < ctxTl w ref then some 0x04
  else checkSame (v.over (ctxOverlay v w ref))

/-! ### The list -/

/-- The LEN entries of the list (R158). -/
def seqList (v : View) : List Word := (List.range (fld v F.SEQ_STAT_LEN)).map (fun i => v (wkey 0x0601 i))

/-- Whether some 4 consecutive frames of a cyclic list lack DISP: the entry that the fourth belongs to (R159). Each entry has a frame at
least, so four rounds reach the fourth frame also where no entry has DISP. -/
def displayGap (l : List Word) : Option Nat :=
  let runs := fun (p : Nat × Option Nat) (e : Nat × Word) =>
    if bit e.2 16 then (0, p.2)
    else
      let n := p.1 + bits e.2 8 8 + 1
      (n, if p.2.isNone && decide (3 < n) then some e.1 else p.2)
  let es := (List.range l.length).zip l
  ((es ++ es ++ es ++ es).foldl runs (0, none)).2

/-- A step of a list in the order in which its frames run: the entry, the settings before it with their effective D_S, and its own
effective D_S in its first and in its last frame (R141). -/
structure ListStep where
  ent : Nat
  before : View
  dsBefore : Nat
  dsFirst : Nat
  dsLast : Nat

/-- The steps of a list through the given entries, from settings with their effective D_S on. -/
def listSteps (view : Nat → View) (reps : Nat → Nat) : List Nat → View → Nat → List ListStep
  | [], _, _ => []
  | i :: is, v, d =>
    let w := view i
    let first := effDs w d (vGap v (vVtotal v))
    let last := effDs w first (reps i * vGap w (vVtotal w))
    ⟨i, v, d, first, last⟩ :: listSteps view reps is w last

/-- The first entry of a list that breaks a rule of R159, with its reason: its context's s against the first entry's, the
context by itself, the step into it, and the step from it into the base set. `v` are the settings that the sequence runs under,
`base` with `dsBase` those of the frame before it; the base set returns under `v`. -/
def listReason (s : State) (v base : View) (dsBase : Nat) (l : List Word) (first loops ref : Nat) : Option (Nat × Nat) :=
  let n := l.length
  let ctx := fun i => ctxWords s.live (bits (l.getD i 0#32) 0 8)
  let view := fun i => v.over (ctxOverlay v (ctx i) ref)
  let back := v.over (baseSet base)
  let s0 := maskCount (bits (ctx 0).1 0 4)
  let all := List.range n
  let run := all.drop first ++ (if loops = 1 then [] else all ++ all)
  let steps := listSteps view (fun i => bits (l.getD i 0#32) 8 8) run base dsBase ++
    (if first = 0 then [] else listSteps view (fun i => bits (l.getD i 0#32) 8 8) all (view (n - 1)) (vDs (view (n - 1)))).drop 1
  let entry := fun i =>
    if 16 ≤ bits (l.getD i 0#32) 0 8 then some 0x0A
    else if maskCount (bits (ctx i).1 0 4) != s0 then some 0x08
    else match ctxReason v (ctx i) ref with
      | some r => some r
      | none =>
        let mine := steps.filter (fun p => p.ent == i)
        if mine.any (fun p => (checkSameAt (view i) p.dsFirst).isSome) then some 0x04
        else if mine.any (fun p => (checkPair p.before (view i) p.dsBefore).isSome || (checkPair (view i) back p.dsLast).isSome) then some 0x05
        else none
  match all.find? (fun i => (entry i).isSome) with
  | some i => some ((entry i).getD 0, i)
  | none =>
    if displayRouted v then
      match displayGap l with
      | some i => some (0x09, i)
      | none => none
    else none

/-- The refusal of a list check (R145): the reason in w0 [7:0] and the entry in w0 [15:8]. -/
def listRefuse (reason ent : Nat) : WRes := .refuse 4 (reason + ent % 256 * 256) 0

/-- The reference TL of REL contexts: AE's TL, else that of the base set (R161). -/
def State.tlRef (s : State) (base : View) : Nat := if vtst s.live F.EXP_CTRL_AE_EN then s.exp.aeTl else vTl base

/-- The reference TL of REL contexts now (R161): AE's; else while a sequence runs the one fixed at its start, and otherwise that of the
settings taken last. -/
def State.seqTlRef (s : State) : Nat :=
  match s.exp.seq with
  | some r => if vtst s.live F.EXP_CTRL_AE_EN then s.exp.aeTl else r.tlRef
  | none => s.tlRef s.takenView

/-- Where a frame of the list is followed by the next: the entry, the frames of it already placed, and the passes done. -/
def seqNext (l : List Word) (ent rep pass : Nat) : Nat × Nat × Nat :=
  if rep < bits (l.getD ent 0#32) 8 8 then (ent, rep + 1, pass)
  else if ent + 1 < l.length then (ent + 1, 0, pass)
  else (0, 0, pass + 1)

/-- A sequence frame with its entry and its context as they stand now (R160, R162). -/
def seqFrameOf (s : State) (fn ent pass : Nat) : SeqFrame :=
  let e := (seqList s.live).getD ent 0#32
  ⟨fn, ent, pass, e, (ctxWords s.live (bits e 0 8)).1⟩

/-- A sequence begun at frame `fn` with entry `first`: its first context stands in the set that starts it. -/
def seqRunAt (s : State) (base : View) (fn first loops : Nat) (trig : Bool) : SeqRun :=
  let p := seqNext (seqList s.live) first 0 0
  { start := fn, loops := loops, base := baseSet base, next := fnNext fn, ent := p.1, rep := p.2.1, pass := p.2.2, tlRef := s.tlRef base,
    last := if loops ≠ 0 ∧ loops ≤ p.2.2 then some fn else none, back := false, trig := trig, frames := [seqFrameOf s fn first 0] }

/-- SEQ_START (R159, R160, R170), on either path: refused, or begun as a commit. -/
def seqStart (first loops : Nat) (s : State) : WRes × State :=
  if s.checkMode != 0x3 then (.refuse 5 0x81 0, s)
  else if s.exp.seq.isSome || s.pend.isSome then (.refuse 8 0x80 0, s)
  else
    let l := seqList s.live
    if l.length ≤ first then (.refuse 4 0x0B 0, s)
    else
      let base := s.takenView
      match listReason s s.staged base s.effBefore l first loops (s.tlRef base) with
      | some (r, i) => (listRefuse r i, s)
      | none =>
        let w := ctxWords s.live (bits (l.getD first 0#32) 0 8)
        let t := (ctxOverlay s.staged w (s.tlRef base)).foldl (fun t p => t.stage p.1 p.2) s
        let t := t.commit false
        let fn := (t.reg R.TT_APPLYFN).toNat
        (.ok, { t with exp := { t.exp with seq := some (seqRunAt s base fn first loops false) },
                       sys := { t.sys with chg := some ⟨0x6, t.tt.clk, some fn⟩ } })

/-- The answer of a list check (R145). -/
def seqAns (s : State) : WRes → Ans × State
  | .ok => s.ok []
  | .refuse 4 r _ => s.fin 4 [w32 r]
  | .refuse st _ _ => s.fin st []

/-- SEQ_START (R170): the reply OK carries the FN of the first sequence frame. -/
def srvSeqStart (k : Pkt) (s : State) : Ans × State :=
  let r := seqStart (pf k 0 0 6) (pf k 1 0 16) s
  match r.1 with
  | .ok => (.done 0 (r.2.reg R.TT_APPLYFN).toNat [], r.2)
  | e => seqAns r.2 e

/-- The last sequence frame for a stop (R163): from the last committed frame on, the first that ends an entry (0), ends a pass
(1), or simply is committed (2). -/
def stopFrame (l : List Word) (when_ : Nat) : Nat → Nat → Nat → Nat → Nat
  | 0, fn, _, _ => fn
  | fuel + 1, fn, ent, rep =>
    let ends := decide (bits (l.getD ent 0#32) 8 8 ≤ rep)
    if when_ = 2 || (when_ = 0 && ends) || (when_ = 1 && ends && decide (l.length ≤ ent + 1)) then fn
    else
      let p := seqNext l ent rep 0
      stopFrame l when_ fuel (fnNext fn) p.1 p.2.1

/-- The entry and place of the last committed frame: one step of the list before the next. -/
def lastPlace (l : List Word) (r : SeqRun) : Nat × Nat :=
  if 0 < r.rep then (r.ent, r.rep - 1)
  else
    let e := match r.frames.getLast? with
      | some f => f.ent
      | none => r.ent
    (e, bits (l.getD e 0#32) 8 8)

/-- SEQ_STOP (R163), on either path. The answer's FN is that of the frame that returns to the base set; once the engine has committed
that frame nothing moves it. -/
def seqStop (when_ : Nat) (s : State) : WRes × Nat × State :=
  match s.exp.seq with
  | none => (.refuse 5 0x81 0, 0, s)
  | some r =>
    if r.trig then (.refuse 5 0x81 0, 0, s)
    else if r.back then (.ok, r.next, s)
    else
      let l := seqList s.live
      let p := lastPlace l r
      let last := stopFrame l when_ 16448 ((r.next + 2 ^ 32 - 1) % 2 ^ 32) p.1 p.2
      (.ok, fnNext last, { s with exp := { s.exp with seq := some { r with last := some last } } })

/-- SEQ_STOP (R171). The reason of the PARAM that refuses WHEN 3 is not named: a free value. Where WHEN is 3 and no sequence runs, PARAM
comes before the STATE of R163: DESIGN CHOICE, assumption 63. -/
def srvSeqStop (k : Pkt) (s : State) : Ans × State :=
  if pf k 0 0 2 == 3 then
    let (w, t) := s.fresh
    t.fin 4 [keepMask w 0xFF]
  else
    let r := seqStop (pf k 0 0 2) s
    match r.1 with
    | .ok => (.done 0 r.2.1 [], r.2.2)
    | e => seqAns r.2.2 e

/-- A context written, or the reason for which it is refused (R157, R162). -/
def ctxWrite (c : Nat) (w : Word × Word) (s : State) : WRes × State :=
  if 16 ≤ c then (.refuse 6 0 0, s)
  else
    let t := s.setRun (wkey 0x0600 (2 * c)) [keepMask w.1 0xFF07FF, keepMask w.2 0xFFFFF]
    match ctxReason s.staged (ctxWords t.live c) s.seqTlRef with
    | some r => (.refuse 4 r 0, s)
    | none =>
      match s.exp.seq with
      | none => (.ok, t)
      | some r =>
        let l := seqList s.live
        match listReason t s.staged (s.takenView.over r.base) s.effBefore l l.length r.loops s.seqTlRef with
        | some (x, i) => (listRefuse x i, s)
        | none => (.ok, t)

/-- SEQ_CONTEXT_WRITE (R168). -/
def srvSeqContextWrite (k : Pkt) (s : State) : Ans × State :=
  let r := ctxWrite (pf k 0 0 8) (pw k 1, pw k 2) s
  seqAns r.2 r.1

/-- A run of list entries written: `clear` empties the list before, `last` sets its length (R158, R169). In TRIGGERED with UNIT PASS the
list that each load leaves is checked as R241 has it. -/
def listWrite (start : Nat) (clear last : Bool) (es : List Word) (s : State) : WRes × State :=
  if s.exp.seq.isSome then (.refuse 8 0x80 0, s)
  else if 64 < start + es.length then (.refuse 3 0 0, s)
  else match (List.range es.length).find? (fun i => decide (16 ≤ bits (es.getD i 0#32) 0 8)) with
    | some i => (listRefuse 0x0A (start + i), s)
    | none =>
      let t := if clear then State.wr (s.setRun (wkey 0x0601 0) (List.replicate 64 0#32)) F.SEQ_STAT_LEN 0 else s
      let t := t.setRun (wkey 0x0601 start) (es.map (fun w => keepMask w 0xFFFFF))
      let t := if last then t.wr F.SEQ_STAT_LEN (start + es.length) else t
      if s.checkMode == 0x5 && s.tst F.BEL_CFG_UNIT then
        let first := s.rd F.SEQ_LOOPS_FIRST
        let l := seqList t.live
        if l.length ≤ first then (.refuse 4 0x0B 0, s)
        else match listReason t s.staged s.takenView s.effBefore l first 1 (s.tlRef s.takenView) with
          | some (r, i) => (listRefuse r i, s)
          | none => (.ok, t)
      else (.ok, t)

/-- SEQ_LIST_LOAD (R169). -/
def srvSeqListLoad (k : Pkt) (s : State) : Ans × State :=
  let r := listWrite (pf k 0 0 6) (pf k 0 16 1 == 1) (pf k 0 17 1 == 1) (k.payload.drop 1) s
  seqAns r.2 r.1

/-! ### The engine -/

/-- The overlay of a sequence frame's exposure (R160). -/
def seqOverlay (s : State) (ent : Nat) : Overlay :=
  ctxOverlay s.takenView (ctxWords s.live (bits ((seqList s.live).getD ent 0#32) 0 8)) s.seqTlRef

/-- The engine at the COMMIT event of frame fn + m (R160, R163): it commits the context of the next frame, or after the
last one the base set with the return to CONTINUOUS, where this is the last COMMIT event whose apply frame is that frame. -/
def State.seqCommit (s : State) (m : Nat) : State :=
  match s.exp.seq with
  | none => s
  | some r =>
    let past := match r.last with
      | some f => decide (r.next = fnNext f)
      | none => false
    let ov : Overlay := if past then r.base else seqOverlay s r.ent
    let v := s.takenView
    let after := fun m =>
      let w := s.viewFor (s.tt.fn + m)
      let rp := if m = 0 then s.tt.rpCur else rpRaw w
      (s.tt.fn + m + applyAfter (commitTime s m) (frameStart s m) (16 * vVtotal w * rp) (leadSlots v * rp)
        (leadSlots (v.over ov) * rpRaw (v.over ov))) % 2 ^ 32
    if !r.back && decide (after m = r.next) && decide (after (m + 1) ≠ r.next) then
      let t : State := { s with taken := s.taken ++ [⟨r.next, ov⟩] }
      if past then
        let t : State := { t with exp := { t.exp with seq := some { r with back := true } } }
        if r.trig then t else { t with sys := { t.sys with chg := some ⟨0x3, t.tt.clk, some r.next⟩ } }
      else
        let p := seqNext (seqList s.live) r.ent r.rep r.pass
        let last := if r.loops ≠ 0 ∧ r.last = none ∧ r.loops ≤ p.2.2 then some r.next else r.last
        { t with exp := { t.exp with seq := some { r with
            next := fnNext r.next, ent := p.1, rep := p.2.1, pass := p.2.2, last := last,
            frames := r.frames ++ [seqFrameOf s r.next r.ent r.pass] } } }
    else s

/-- A sequence is over (R181): the passes that it completed are shown, and its last frames kept for their pixels. -/
def State.seqOver (s : State) (r : SeqRun) : State :=
  State.wr { s with exp := { s.exp with seq := none, ended := r.frames } } F.SEQ_STAT_PASSES (min 65535 r.pass)

/-- At a frame start: SEQ_STAT shows its entry and the passes done (R181); after the last sequence frame nothing runs, and ENTRY keeps
the last sequence frame's entry (DESIGN CHOICE, assumption 63). -/
def State.seqFrame (s : State) : State :=
  match s.exp.seq with
  | none => s
  | some r =>
    let past := match r.last with
      | some f => decide (s.tt.fn = fnNext f)
      | none => false
    if past then s.seqOver r
    else match r.frames.find? (fun f => f.fn == s.tt.fn) with
      | some f =>
        State.wrs { s with exp := { s.exp with seq := some { r with frames := r.frames.filter (fun g => seqLe ((s.tt.fn + 2 ^ 32 - 4) % 2 ^ 32) g.fn) } } }
          [(F.SEQ_STAT_ENTRY, f.ent), (F.SEQ_STAT_PASSES, min 65535 f.pass)]
      | none => s

/-- The end of the frame being read, where no frame follows it: a pass that a Bell event ran is over with its last frame (R181, R241). -/
def State.seqIdle (s : State) : State :=
  match s.exp.seq with
  | some r => if r.last == some s.tt.fn then s.seqOver r else s
  | none => s

/-- The sequence frames that are kept, of the sequence that runs and of the one that ended last. -/
def State.seqFrames (s : State) : List SeqFrame :=
  (match s.exp.seq with
    | some r => r.frames
    | none => []) ++ s.exp.ended

/-- A sequence frame as it was committed. -/
def State.seqFrameAt (s : State) (fn : Nat) : Option SeqFrame := s.seqFrames.find? (fun f => f.fn == fn)

/-- The list entry of a frame of a sequence. -/
def State.seqEntry (s : State) (fn : Nat) : Option Word := (s.seqFrameAt fn).map (fun f => f.entry)

/-! ### The register path -/

/-- A refused write of bank EXP sets EXP_CUR.ERR. -/
def expErr (s : State) (reason : Nat) : WRes × State := (.refuse 4 reason 0, s.wr F.EXP_CUR_ERR 1)

/-- A write of a register of bank EXP: staged, under the checks of the equivalent command (R137, R144, R156, R166, R174). -/
def wrExp (a : Nat) (v : Word) (s : State) : WRes × State :=
  let try_ := fun (t : State) =>
    match stagedReason t with
    | some r => expErr s r
    | none => (.ok, t)
  if a = R.EXP_SAMPLES then
    if maskOk (bits v 0 4) then try_ (s.stage a (keepMask v 0xF)) else expErr s 0x01
  else if a = R.EXP_TL then
    if s.aeOn then expErr s 0x06
    else if bits v 0 20 < 256 then expErr s 0x03
    else if 1048560 < bits v 0 20 then expErr s 0x04
    else try_ (s.stage a (keepMask v 0xFFFFF))
  else if a = R.EXP_RATIO then try_ (s.stage a (ratioWord v))
  else if a = R.EXP_MTH_HCG ∨ a = R.EXP_MTH_LCG ∨ a = R.EXP_MTH_LOFIC then
    if threshOk v then (.ok, s.stage a (keepMask v 0xFF0FFF)) else expErr s 0x0C
  else (.ok, s.stage a v)

/-- What SEQ_CTRL records of a refusal (R183). -/
def seqErr (r : WRes) (s : State) : State :=
  match r with
  | .ok => s
  | .refuse _ w _ => s.wrs [(F.SEQ_CTRL_ERR, w % 256), (F.SEQ_CTRL_ERR_ENTRY, w / 256)]

/-- A write of SEQ_CTRL (R171, R183): START or STOP, and WHEN unless it is refused. With START and STOP both 1, START acts alone: DESIGN
CHOICE, assumption 63. -/
def wrSeqCtrl (v : Word) (s : State) : WRes × State :=
  let done := fun (r : WRes × State) => match r.1 with
    | .ok => (r.1, r.2.wr F.SEQ_CTRL_WHEN (bits v 2 2))
    | e => (e, seqErr e s)
  if bit v 0 then done (seqStart (s.rd F.SEQ_LOOPS_FIRST) (s.rd F.SEQ_LOOPS_LOOPS) s)
  else if bit v 1 then
    let r := seqStop (if bits v 2 2 = 3 then 0 else bits v 2 2) s
    done (r.1, r.2.2)
  else done (.ok, s)

/-- SEQ_CTRL_START (R183). -/
def execSeqCtrlStart (value : Word) (s : State) : Host.Outcome State Fault Refusal :=
  .next (s.keepQueue (wrSeqCtrl (value ||| 1#32) s).2)

/-- SEQ_CTRL_STOP (R183). -/
def execSeqCtrlStop (value : Word) (s : State) : Host.Outcome State Fault Refusal :=
  .next (s.keepQueue (wrSeqCtrl (putBits value 0 2 2) s).2)

end Sys2Proof.Machine
end

