-- ==== Sys2Proof/Machine/Power.lean ====
section
/-!
DEFINITION. The power die: the Report Card (R552, R553), voltage commands and the VID port (R544 to R546), phase shedding (R542,
R543), and the commands and registers of bank PWR (R554 to R560).
-/

namespace Sys2Proof.Machine

open Sys2Proof (Word Byte Pkt)

/-! ### The MTP -/

/-- The key of MTP byte `b`. -/
def mtpKey (b : Nat) : Nat := wkey widMtp (b / 4)

/-- The first word of Report Card record `r` (R552). -/
def cardKey (r : Nat) : Nat := mtpKey (96 * r)

/-- Whether 24 words are a good record: LAYOUT 0x01 and a good CRC (R552, R553). -/
def cardOk (ws : List Word) : Bool :=
  bits (ws.getD 0 0#32) 0 8 == 1 && crc32c (ws.take 23) == ws.getD 23 0#32

/-- The good records, with their places. -/
def State.cards (s : State) : List (Nat × List Word) :=
  (List.range 64).filterMap (fun r => let ws := s.run (cardKey r) 24; if cardOk ws then some (r, ws) else none)

/-- SEQ of a record. -/
def cardSeq (ws : List Word) : Nat := (ws.getD 1 0#32).toNat

/-- One record put into a list that is sorted by SEQ, newest first (R502). -/
def insertCard (c : Nat × List Word) : List (Nat × List Word) → List (Nat × List Word)
  | [] => [c]
  | d :: ds => if seqLe (cardSeq d.2) (cardSeq c.2) then c :: d :: ds else d :: insertCard c ds

/-- The good records, newest first. -/
def State.cardsByAge (s : State) : List (Nat × List Word) := s.cards.foldl (fun l c => insertCard c l) []

/-- SEQ of the newest record, 0 with none (R560). -/
def State.rcLast (s : State) : Nat :=
  match s.cardsByAge with
  | c :: _ => cardSeq c.2
  | [] => 0

/-- Where the next record goes: a place without a good record, else over the record with the lowest SEQ (R553). -/
def State.cardSlot (s : State) : Nat :=
  match (List.range 64).find? (fun r => !(cardOk (s.run (cardKey r) 24))) with
  | some r => r
  | none =>
    match s.cardsByAge.getLast? with
    | some c => c.1
    | none => 0

/-- The latest code of a housekeeping channel on either converter, 0 where none was stored. -/
def State.hkCode (s : State) (ch : Nat) : Nat :=
  match s.hk.codes.find? (fun p => p.1 % 64 == ch) with
  | some p => p.2
  | none => 0

/-- The voltage of a rail in mV as housekeeping has it (R561). -/
def State.railMv (s : State) (r : Nat) : Nat := if r < 5 then s.hkCode r / 2 else s.hkCode r

/-- The words of a record (R552). -/
def State.cardWords (s : State) (cause rail : Nat) (detail : List Word) (seq : Nat) : List Word :=
  let pair := fun i => w32 (s.railMv (2 * i) + s.railMv (2 * i + 1) * 2 ^ 16)
  let ws := [w32 (1 + cause * 2 ^ 8), w32 seq, if s.tt.started then w32 s.tt.fn else 0xFFFFFFFF#32,
    w32 s.tt.tb, w32 (s.tt.tb / 2 ^ 32), w32 (s.sys.mode + rail % 256 * 2 ^ 4 + s.pwr.poc % 65536 * 2 ^ 16),
    pair 0, pair 1, pair 2, pair 3,
    w32 (s.pwr.vin % 65536 + s.rd F.THM_MAX_TMAX * 2 ^ 16), w32 (s.rd F.PWR_STG_TEMP)] ++
    (detail ++ List.replicate 11 0#32).take 11
  ws ++ [crc32c ws]

/-- The records that wait to be written. -/
def State.cardsQueued (s : State) : Nat := (s.sys.mtpQueue.filter (fun w => w.key == 0)).length

/-- A Report Card record queued for the MTP, and the command that is answered when it is written. -/
def State.cardFor (s : State) (cause rail : Nat) (detail : List Word) (tag : Option (Nat × Nat)) : State :=
  let ws := s.cardWords cause rail detail ((s.rcLast + 1 + s.cardsQueued) % 2 ^ 32)
  { s with sys := { s.sys with mtpQueue := s.sys.mtpQueue ++ [⟨0, ws, tag⟩] } }

/-- A Report Card record queued for the MTP; the rail is 0xFF where none is concerned. -/
def State.card (s : State) (cause rail : Nat) (detail : List Word) : State := s.cardFor cause rail detail none

/-- A Report Card record written at once, from VIN (R548). -/
def State.cardNow (s : State) (cause rail : Nat) (detail : List Word) : State :=
  s.setRun (cardKey s.cardSlot) (s.cardWords cause rail detail ((s.rcLast + 1) % 2 ^ 32))

/-- One write of the MTP done: a Report Card record where its key is 0, else words at its key; the command that waits for it is
answered. -/
def State.mtpWrite (s : State) : State :=
  match s.sys.mtpQueue with
  | [] => s
  | w :: ws =>
    let t := { s with sys := { s.sys with mtpQueue := ws } }
    let t := t.setRun (if w.key = 0 then cardKey t.cardSlot else w.key) w.words
    match w.tag with
    | some (op, tag) => t.finish op tag 0 t.tt.fn []
    | none => t

/-- MTP_WRITE_DONE (R500, R502, R553): 60 µs for each word. -/
def execMtpWriteDone (s : State) : Host.Outcome State Fault Refusal :=
  .next (s.keepQueue (
    match s.sys.mtpQueue with
    | [] => s
    | w :: _ => (s.elapse (us (60 * w.words.length) + s.tt.clk)).mtpWrite))

/-- REPORT_CARD_READ (R553). -/
def srvReportCardRead (k : Pkt) (s : State) : Ans × State :=
  let n := pf k 0 8 4
  if n = 0 ∨ 10 < n then
    let (w, t) := s.fresh
    t.fin 4 [keepMask w 0xFF]
  else
    let live := s.cardsByAge.takeWhile (fun c => bits (c.2.getD 0 0#32) 8 8 != 0)
    s.ok (((live.drop (pf k 0 0 6)).take n).flatMap (fun c => c.2))

/-! ### Voltage commands -/

/-- How far a rail slews in `d` units of time, in µV, at `rate` µV per µs. -/
def slewed (rate d : Nat) : Nat := rate * d * 25 / (nsUnits25 * 1000)

/-- Where a rail stands that slews from `a` to `b`. -/
def slewNow (a b moved : Nat) : Nat := if a ≤ b then min b (a + moved) else max b (a - moved)

/-- The slew rate of VDD_LOGIC in µV per µs (R556). -/
def State.coreRate (s : State) : Nat := 250 * 2 ^ min 4 (s.rd F.PWR_CORE_SLEW)

/-- The target of VDD_LOGIC in µV. -/
def State.coreTarget (s : State) : Nat := 600000 + 2500 * s.rd F.PWR_CORE_VSET

/-- VDD_LOGIC now, in µV (R544). -/
def State.coreNow (s : State) : Nat := slewNow s.pwr.coreFrom s.coreTarget (slewed s.coreRate (s.tt.clk - s.pwr.coreAt))

/-- The target of VCMP in µV. -/
def State.vcmpTarget (s : State) : Nat := 1200000 + 10000 * s.rd F.PWR_VCMP_CODE

/-- How far apart two voltages lie. -/
def apart (a b : Nat) : Nat := if a ≤ b then b - a else a - b

/-- VCMP now, in µV: it slews at 10 mV/µs (R544), or rises from off through soft start in 1.0 ms (R545, R547), after which PGOOD holds
its bit. -/
def State.vcmpNow (s : State) : Nat :=
  let a := s.pwr.vcmpFrom
  let b := s.vcmpTarget
  let d := s.tt.clk - s.pwr.vcmpAt
  if !s.pwr.vcmpOn then 0
  else slewNow a b (if s.pwr.pgood.testBit 6 then slewed 10000 d else apart a b * d / ms 1)

/-- The rails that are power-good: VCMP at the end of its soft start, once it lies within 3 % of its setpoint (R539). -/
def State.pgoodNow (s : State) : Nat :=
  if s.pwr.vcmpOn && decide (97 * s.vcmpTarget ≤ 100 * s.vcmpNow) then s.pwr.pgood ||| 64 else s.pwr.pgood

/-- Whether VCMP slews. -/
def State.vcmpSlews (s : State) : Bool := s.pwr.cmds.any (fun c => c.rail == 6) || (s.pwr.vcmpOn && s.vcmpNow != s.vcmpTarget)

/-- A voltage command answered: its host tag with a final reply, its TID with a status for the VID port (R545, R546). -/
def State.vcmdEnd (s : State) (c : Vcmd) (reply vid : Nat) : State :=
  let t := { s with pwr := { s.pwr with
      cmds := s.pwr.cmds.filter (fun d => d != c),
      tids := match c.tid with
        | some g => s.pwr.tids.map (fun p => if p.1 == g then (g, vid) else p)
        | none => s.pwr.tids } }
  let t := if c.tid.isSome then t.wr F.PWR_VCMP_LAST_ST vid else t
  match c.tag with
  | some g => t.finish 0x91 g reply t.tt.fn []
  | none => t

/-- A new command on a rail: the one in progress is acknowledged SUPERSEDED (R544). -/
def State.vcmdNew (s : State) (c : Vcmd) : State :=
  let t := (s.pwr.cmds.filter (fun d => d.rail == c.rail)).foldl (fun t d => t.vcmdEnd d 0x0A 0xA) s
  { t with pwr := { t.pwr with cmds := t.pwr.cmds ++ [c] } }

/-- VCMP is commanded to a code: retargeted from where it stands, or started through soft start (R544, R545). -/
def State.vcmpGo (s : State) (code : Nat) (tag tid : Option Nat) : State :=
  let here := s.vcmpNow
  let t := s.vcmdNew ⟨6, tag, tid, 1200000 + 10000 * code⟩
  let t := { t with pwr := { t.pwr with pgood := s.pgoodNow, vcmpFrom := here, vcmpAt := t.tt.clk, vcmpOn := true } }
  t.wr F.PWR_VCMP_CODE code

/-- RAIL_CONFIG (R544, R545). -/
def srvRailConfig (k : Pkt) (s : State) : Ans × State :=
  let rail := pf k 0 0 3
  let en := pf k 0 8 1 == 1
  let mv := pf k 1 0 16
  if rail = 0 then
    let code := roundUp (2 * (mv - 600)) 5
    if en then s.param 0x90
    else if mv < 620 ∨ 850 < mv then s.param 0x91
    else if code < s.rd F.PWR_CORE_VMIN then s.param 0x93
    else if s.pwr.cmds.all (fun c => c.rail != 0) ∧ code = s.rd F.PWR_CORE_VSET then (.both 0 s.tt.fn [], s)
    else
      let here := s.coreNow
      let t := s.vcmdNew ⟨0, some k.tag, none, 600000 + 2500 * code⟩
      let t := { t with pwr := { t.pwr with coreFrom := here, coreAt := t.tt.clk } }
      (.accepted [], t.wr F.PWR_CORE_VSET code)
  else if rail = 6 then
    if s.tst F.PWR_VCMP_OWNER then s.param 0x92
    else if !en then
      let t := (s.pwr.cmds.filter (fun d => d.rail == 6)).foldl (fun t d => t.vcmdEnd d 0x0A 0xA) s
      (.both 0 s.tt.fn [], { t with pwr := { t.pwr with vcmpOn := false, pgood := clearBit t.pwr.pgood 6 } })
    else if mv < 1200 ∨ 3300 < mv then s.param 0x91
    else
      let code := roundUp (mv - 1200) 10
      if s.pwr.vcmpOn ∧ s.pwr.cmds.all (fun c => c.rail != 6) ∧ code = s.rd F.PWR_VCMP_CODE then (.both 0 s.tt.fn [], s)
      else (.accepted [], s.vcmpGo code (some k.tag) none)
  else s.param 0x90

/-- The command in progress on a rail. -/
def State.vcmdOf (s : State) (rail : Nat) : Option Vcmd := s.pwr.cmds.find? (fun c => c.rail == rail)

/-- How long a commanded rail takes from the start of its slew or soft start until it lies `short` µV off its target (R544, R545). -/
def State.rampTime (s : State) (rail short : Nat) : Nat :=
  let far := if rail = 0 then apart s.pwr.coreFrom s.coreTarget else apart s.pwr.vcmpFrom s.vcmpTarget
  if rail = 0 then us (ceilDiv (far - short) s.coreRate)
  else if s.pwr.pgood.testBit 6 then us (ceilDiv (far - short) 10000)
  else ceilDiv (ms 1 * (far - short)) (max 1 far)

/-- The time that a rail slews in all, in units of `clk`. -/
def State.slewTime (s : State) (rail : Nat) : Nat := s.rampTime rail 0

/-- When a rail's slew began. -/
def State.slewAt (s : State) (rail : Nat) : Nat := if rail = 0 then s.pwr.coreAt else s.pwr.vcmpAt

/-- When a rail comes within 1 % of its target (R544). -/
def State.nearTime (s : State) (rail : Nat) : Nat := s.rampTime rail ((if rail = 0 then s.coreTarget else s.vcmpTarget) / 100)

/-- VCMD_DONE (R544): the rail lies within 1 % of its target. -/
def execVcmdDone (rail : Nat) (s : State) : Host.Outcome State Fault Refusal :=
  .next (s.keepQueue (
    match s.vcmdOf rail with
    | none => s
    | some c =>
      let t := (s.elapse (s.slewAt rail + s.nearTime rail)).vcmdEnd c 0 2
      if rail = 6 then { t with pwr := { t.pwr with pgood := t.pwr.pgood ||| 64 } } else t))

/-- VCMD_TIMEOUT (R544): not within 1 % by the slew time plus 200 µs. -/
def execVcmdTimeout (rail : Nat) (s : State) : Host.Outcome State Fault Refusal :=
  .next (s.keepQueue (
    match s.vcmdOf rail with
    | none => s
    | some c =>
      ((s.elapse (us 200 + (s.slewAt rail + s.slewTime rail))).wr F.PWR_STAT_VCMD_TO 1).vcmdEnd c 0x0B 0xB))

/-- The status of a TID among the last two accepted: slewing, done, superseded or timed out; else UNKNOWN (R546). -/
def State.tidStatus (s : State) (tid : Nat) : Nat :=
  match s.pwr.tids.find? (fun p => p.1 == tid) with
  | some p => p.2
  | none => 0xF

/-- The answer to a VID frame: TID and status. -/
def State.vidAnswer (s : State) (tid st : Nat) : State := { s with pwr := { s.pwr with vidOut := tid * 16 + st } }

/-- VID_FRAME (R546): 24 bits on the VID port. -/
def execVidFrame (bits24 : Nat) (s : State) : Host.Outcome State Fault Refusal :=
  .next (s.keepQueue (
    let w := w32 (bits24 % 2 ^ 24)
    let tid := bits w 16 4
    let code := bits w 8 8
    let good := bits w 20 4 == 0xA && crc8 [w8 (bits w 16 8), w8 code] == bits w 0 8
    let done := fun (t : State) (st : Nat) => (t.wrs [(F.PWR_VCMP_LAST_TID, tid), (F.PWR_VCMP_LAST_ST, st)]).vidAnswer tid st
    if s.pwr.vin < 450 then s
    else if good && code == 0xFF then s.vidAnswer tid (s.tidStatus tid)
    else if !good || 211 ≤ code || !s.tst F.PWR_VCMP_OWNER then done s 0x4
    else if s.pwr.vcmpOn && s.pwr.cmds.all (fun c => c.rail != 6) && code == s.rd F.PWR_VCMP_CODE then
      done { s with pwr := { s.pwr with tids := ((tid, 2) :: s.pwr.tids.filter (fun p => p.1 != tid)).take 2 } } 2
    else
      let t := s.vcmpGo code none (some tid)
      done { t with pwr := { t.pwr with tids := ((tid, 1) :: t.pwr.tids.filter (fun p => p.1 != tid)).take 2 } } 1))

/-! ### Phases -/

/-- Whether Roll Call found the timing wires failed: the power die then takes QUIET and LSTEP as high (R498). -/
def State.wiresFailed (s : State) : Bool := s.sys.rollFails.testBit 5

/-- Every phase enabled (R542, R543). -/
def State.allPhases (s : State) : State := s.wr F.PWR_SHED_ACTIVE 0xF

/-- LSTEP as the core controller sees it: its rise enables every phase and ends Recess, and its fall starts the hold (R543,
R551). -/
def State.lstepEdge (s : State) (high : Bool) : State :=
  if high then State.allPhases { s with pwr := { s.pwr with recess := false, holdEnd := none }, tt := { s.tt with lstep := true } }
  else if s.tt.lstep then
    { s with tt := { s.tt with lstep := false },
             pwr := { s.pwr with holdEnd := some (us (4 * s.rd F.PWR_SHED_HOLD * 1000 / max 1 (s.rd F.PWR_CORE_FSW_KHZ)) + s.tt.clk) } }
  else s

/-- PHASE_SHED (R542): the highest enabled phase is disabled, never the last one, and none from LSTEP's rise to the end of the
hold, nor where Roll Call found the timing wires failed, which the power die then takes as high (R498). -/
def execPhaseShed (s : State) : Host.Outcome State Fault Refusal :=
  .next (s.keepQueue (
    let a := s.rd F.PWR_SHED_ACTIVE
    if !s.tst F.PWR_SHED_SHED_EN || s.tt.lstep || s.wiresFailed || s.pwr.holdEnd.isSome || a ≤ 1 then s
    else s.wr F.PWR_SHED_ACTIVE (clearBit a a.log2)))

/-- SHED_ABORT (R542): every phase is enabled. -/
def execShedAbort (s : State) : Host.Outcome State Fault Refusal := .next (s.keepQueue s.allPhases)

/-- SHED_HOLD_EXPIRY (R543): HOLD switching cycles after LSTEP fell. -/
def execShedHoldExpiry (s : State) : Host.Outcome State Fault Refusal :=
  .next (s.keepQueue (
    match s.pwr.holdEnd with
    | none => s
    | some t =>
      let u := s.elapse t
      { u with pwr := { u.pwr with holdEnd := none } }))

/-- RECESS_RESUME (R551): 64 switching cycles after the frame's last conversion, in PARKING_WATCH, and in STANDBY while STBY is
1. -/
def execRecessResume (s : State) : Host.Outcome State Fault Refusal :=
  .next (s.keepQueue (
    if !s.tt.lstep && !s.wiresFailed && (s.sys.mode == 0x7 || (s.sys.mode == 0x2 && s.tst F.PWR_RECESS_STBY)) then
      let t := s.elapse (us (64 * 1000 / max 1 (s.rd F.PWR_CORE_FSW_KHZ)) + s.tt.clk)
      State.wr { t with pwr := { t.pwr with recess := true } } F.PWR_SHED_ACTIVE 1
    else s))

/-! ### NSYNC -/

/-- NSYNC for an RP and s (R540): the value nearest to FSW_KHZ within 800 kHz to 1.6 MHz, a tie going to the lower value. f_sw =
NSYNC / T_conv, with T_conv = floor(4 / s) RP. Where no value lies in the range it is 4, the reset value: DESIGN CHOICE, assumption
63. -/
def nsyncFor (fsw rp w : Nat) : Nat :=
  -- T_conv in 1/65,536 counter cycles; f_sw in kHz = n · 83,886,080,000 / T
  let t := max 1 (w * rp)
  let legal := (List.range 32).filter (fun n => decide (0 < n) && decide (800 * t ≤ 83886080000 * n) && decide (83886080000 * n ≤ 1600 * t))
  let err := fun n => if fsw * t ≤ 83886080000 * n then 83886080000 * n - fsw * t else fsw * t - 83886080000 * n
  match legal with
  | [] => 4
  | n :: ns => ns.foldl (fun b m => if err m < err b then m else b) n

/-! ### Commands and registers -/

/-- What PWR_STAT reads as (R555). -/
def State.viewPwrStat (s : State) : Word :=
  w32 (s.pgoodNow + s.pwr.latched * 2 ^ 8 + flag s.pwr.vinHi * 2 ^ 16 + flag s.pwr.recess * 2 ^ 17 +
    (s.reg R.PWR_STAT).toNat / 2 ^ 18 * 2 ^ 18)

/-- What PWR_VCMP reads as (R557). -/
def State.viewPwrVcmp (s : State) : Word := putBits (s.reg R.PWR_VCMP) 8 1 (flag s.pwr.vcmpOn)

/-- What the registers of bank PWR read as whose values are not kept whole in the memory. -/
def viewPwr (a : Nat) (s : State) : Option Word :=
  if a = R.PWR_STAT then some s.viewPwrStat
  else if a = R.PWR_VCMP then some s.viewPwrVcmp
  else if a = R.PWR_RCLAST then some (w32 s.rcLast)
  else none

/-- POWER_STATUS (R554). -/
def srvPowerStatus (_k : Pkt) (s : State) : Ans × State :=
  s.ok [s.viewPwrStat, s.reg R.PWR_CORE, s.viewPwrVcmp, s.reg R.PWR_SHED, s.reg R.PWR_RECESS, w32 (s.pwr.vin % 65536)]

/-- A refused write of bank PWR (R554). -/
def pwrErr (s : State) (reason : Nat) : WRes × State :=
  (.refuse 4 reason 0, s.wrs [(F.PWR_STAT_ERR, 1), (F.PWR_STAT_REASON, reason)])

/-- A write of PWR_CORE (R556): SLEW, FSW_KHZ clamped, VMIN under the bank lock. -/
def wrPwrCore (v : Word) (locked : Bool) (s : State) : WRes × State :=
  let here := s.coreNow
  let t := { s with pwr := { s.pwr with coreFrom := here, coreAt := s.tt.clk } }
  let t := t.wrs [(F.PWR_CORE_SLEW, bits v 16 3), (F.PWR_CORE_FSW_KHZ, clampN 800 1600 (bits v 20 11))]
  (.ok, if locked then t else t.wr F.PWR_CORE_VMIN (bits v 8 7))

/-- A write of PWR_VCMP: OWNER (R557). -/
def wrPwrVcmp (v : Word) (s : State) : WRes × State :=
  if s.vcmpSlews then pwrErr s 0x92 else (.ok, s.wr F.PWR_VCMP_OWNER (bits v 9 1))

/-- A write of PWR_SHED (R558). -/
def wrPwrShed (v : Word) (s : State) : WRes × State :=
  if bits v 16 8 ≤ bits v 8 8 then pwrErr s 0x91
  else (.ok, s.wrs [(F.PWR_SHED_SHED_EN, bits v 4 1), (F.PWR_SHED_SHED_MA, bits v 8 8), (F.PWR_SHED_READD_MA, bits v 16 8),
    (F.PWR_SHED_HOLD, bits v 24 8)])

end Sys2Proof.Machine
end

