-- ==== Sys2Proof/Machine/Alarm.lean ====
section
/-!
DEFINITION. What every command that needs a session or raises an alarm shares: byte strings, alarms and key erasure (R633),
AUTH replies, and command trailers (R624).
-/

namespace Sys2Proof.Machine

open Sys2Proof (Word Byte Pkt)

/-! ### Byte strings -/

/-- The bytes of words, byte i being byte i mod 4 of word floor(i / 4). -/
def bytesOf (ws : List Word) : List Byte := ws.flatMap wordBytes

/-- The first `n` words of a byte string. -/
def wordsOf (bs : List Byte) (n : Nat) : List Word :=
  (List.range n).map (fun i =>
    bytesWord (bs.getD (4 * i) 0#8) (bs.getD (4 * i + 1) 0#8) (bs.getD (4 * i + 2) 0#8) (bs.getD (4 * i + 3) 0#8))

/-- The bytes of an ASCII string. -/
def ascii (t : String) : List Byte := t.toList.map (fun c => w8 c.toNat)

/-- The words of a packet without its CRC (R455). -/
def pktWordsOf (op : Nat) (k : Pkt) : List Word :=
  w32 (op * 2 ^ 24 + k.tag * 2 ^ 12 + k.gen * 2 ^ 8 + flag k.order) ::
    w32 (k.payload.length * 2 ^ 22 + k.seq % 65536) :: k.payload

/-! ### Alarms -/

/-- The floor of each alarm source (R633). -/
def alarmFloor (n : Nat) : Nat := [1, 0, 1, 2, 2, 0, 1, 2, 2].getD n 0

/-- The level at which a source acts (R633). -/
def State.alarmLevel (s : State) (n : Nat) : Nat := max (alarmFloor n) (bits (s.reg R.SEC_ALARM_LVL) (2 * n) 2)

/-- The session and any pending handshake end (R622, R633); an AUTH_HELLO or AUTH_FINISH without a final reply keeps its tag. -/
def State.endSession (s : State) : State :=
  State.wrs { s with sec := { s.sec with sess := none, old := s.sec.sess } } [(F.SEC_SESSID_ID, 0), (F.SEC_LIVE_CFG, 0)]

/-- A command of a handshake that erasure ends: AUTH, reason ERASED, counted. -/
def State.erasedReply (s : State) (op : Nat) (tag : Option Nat) : State :=
  match tag with
  | some g => (s.finish op g 9 s.tt.fn [0xB8#32]).bump F.SEC_AUTHFAIL_COUNT
  | none => s

/-- The keys are zeroised, and the session and any pending handshake end (R633). -/
def State.eraseKeys (s : State) : State :=
  let t := (s.endSession.erasedReply 0xB0 (s.sec.hand.bind (fun h => h.tag))).erasedReply 0xB1 (s.sec.finish.map (fun f => f.tag))
  let t := { t with sec := { t.sec with idKey := none, kPair := none, hand := none, finish := none, old := none } }
  t.wr F.SEC_STAT_ERASED 1

/-- An alarm source is detected (R633). -/
def State.alarm (s : State) (n : Nat) : State :=
  let lvl := s.alarmLevel n
  if lvl = 0 then s
  else
    let t := s.setReg R.SEC_ALARM (s.reg R.SEC_ALARM ||| w32 (2 ^ n))
    let t := (t.bump F.SEC_ALARMCNT_COUNT).event 0x14 [w32 (2 ^ n), w32 lvl]
    if lvl = 1 then t else t.eraseKeys.card 0x0D 0xFF [w32 (2 ^ n), w32 lvl]

/-- ALARM_DETECT (R633): a source whose detector is not in the model's state. -/
def execAlarmDetect (source : Nat) (s : State) : Host.Outcome State Fault Refusal :=
  .next (s.keepQueue (
    if 9 ≤ source || s.sys.phase == .unpowered || s.sys.phase == .reset then s
    else
      let t := if source = 6 then s.wr F.SEC_STAT_RNG_OK 0 else s
      t.alarm source))

/-! ### AUTH replies and trailers -/

/-- An AUTH reply is counted (R621, R639); the eighth within 60 s is an alarm (R633). -/
def State.authCount (s : State) : State :=
  let recent := s.sec.authAt.filter (fun t => decide (s.tt.clk ≤ ms 60000 + t))
  let t := s.bump F.SEC_AUTHFAIL_COUNT
  if 7 ≤ recent.length then State.alarm { t with sec := { t.sec with authAt := [] } } 5
  else { t with sec := { t.sec with authAt := s.tt.clk :: recent } }

/-- A command answered AUTH with its reason. -/
def State.authRefuse (s : State) (reason : Nat) : Ans × State :=
  (.done 9 s.tt.fn [w32 reason], s.authCount)

/-- The CCTR of a trailer: packet word L - 3 (R624). -/
def trailerCctr (k : Pkt) : Nat := (pw k (k.payload.length - 5)).toNat

/-- The reason for which a trailer is refused (R624): no session of a sufficient kind, a bad tag, a stale CCTR. -/
def State.trailerReason (s : State) (op : Nat) (k : Pkt) (service : Bool) : Option Nat :=
  match s.sec.sess with
  | none => some 0xBB
  | some x =>
    let l := k.payload.length
    let mac := wordsOf (Config.cmac ((x.keys.drop 128).take 32) (bytesOf ((pktWordsOf op k).take (l - 2)))) 4
    let stale := match x.cctr with
      | some c => decide (trailerCctr k ≤ c)
      | none => false
    if service && x.kind != 3 then some 0xBB
    else if mac != k.payload.drop (l - 4) then some 0xB9
    else if stale then some 0xBC
    else none

/-- The trailer of a command is accepted: its CCTR is that of the session. -/
def State.takeTrailer (s : State) (k : Pkt) : State :=
  { s with sec := { s.sec with sess := s.sec.sess.map (fun x => { x with cctr := some (trailerCctr k) }) } }

/-- A command that carries a trailer: AUTH with its reason, else what it does once the trailer is accepted. -/
def State.withTrailer (s : State) (op : Nat) (k : Pkt) (service : Bool) (act : State → Ans × State) : Ans × State :=
  match s.trailerReason op k service with
  | some r => s.authRefuse r
  | none => act (s.takeTrailer k)

/-- REPORT_CARD_CLEAR (R553). -/
def srvReportCardClear (k : Pkt) (s : State) : Ans × State :=
  s.withTrailer 0x98 k true (fun t => (.later, t.cardFor 0 0xFF [] (some (0x98, k.tag))))

end Sys2Proof.Machine
end

