-- ==== Sys2Proof/Machine/Otp.lean ====
section
/-!
DEFINITION. The OTP (R588 to R614): its cells and regions, the double-reference read, locks, programming, counters, and the
commands of bank OTP.
-/

namespace Sys2Proof.Machine

open Sys2Proof (Word Byte Pkt)

/-! ### Cells -/

/-- A check word for the words before it: their CRC-32C, 0xFFFF_FFFF in place of 0 (R591). -/
def checkWord (ws : List Word) : Word := if crc32c ws = 0#32 then 0xFFFFFFFF#32 else crc32c ws

/-- Whether a check word passes (R591). -/
def checkPasses (ws : List Word) (c : Word) : Bool :=
  c != 0#32 && (c == crc32c ws || (c == 0xFFFFFFFF#32 && crc32c ws == 0#32))

/-- The words as the device is shipped (R588): FACTORY_TRIM and SECURITY_CONFIG programmed and sealed, all else unblown. -/
def otpShipped (a : Nat) : Word :=
  if a < 63 then Config.otpFactory a
  else if a = 63 then checkWord ((List.range 63).map Config.otpFactory)
  else if a < 95 then Config.otpFactory a
  else if a = 95 then checkWord ((List.range 31).map (fun i => Config.otpFactory (64 + i)))
  else if a = 127 then 3#32
  else 0#32

/-- A word as it reads at the strict and at the loose sense reference (R592, R593). -/
def Otp.cell (o : Otp) (a : Nat) : Word × Word :=
  match o.cells.find? (fun c => c.1 == a) with
  | some c => c.2
  | none => (otpShipped a, otpShipped a)

/-- Bits of a word blown: `b` reads blown at both references, `l` at the loose one alone. -/
def Otp.blow (o : Otp) (a : Nat) (b l : Word) : Otp :=
  let c := o.cell a
  { o with cells := (a, c.1 ||| b, c.2 ||| b ||| l) :: o.cells.filter (fun d => d.1 != a) }

/-! ### Regions and reads -/

/-- A region with a check word (R588, R590): its code of R595, its first word and its check word. -/
structure Region where
  code : Nat
  lo : Nat
  chk : Nat
  deriving DecidableEq, Repr

/-- The regions with a check word. -/
def regions : List Region :=
  [⟨0, 0, 63⟩, ⟨1, 64, 95⟩, ⟨2, 96, 104⟩, ⟨3, 128, 383⟩] ++
    (List.range 8).map (fun n => ⟨8 + n, 512 + 63 * n, 574 + 63 * n⟩)

/-- The region with a check word that holds a word. -/
def regionOf (a : Nat) : Option Region := regions.find? (fun r => decide (r.lo ≤ a) && decide (a ≤ r.chk))

/-- Whether a word reads differently at the two references (R593). -/
def Otp.marginal (o : Otp) (a : Nat) : Bool := (o.cell a).1 != (o.cell a).2

/-- The words of a region before its check word, at the loose reference or at the strict one. -/
def Otp.body (o : Otp) (r : Region) (strict : Bool) : List Word :=
  (List.range (r.chk - r.lo)).map (fun i => if strict then (o.cell (r.lo + i)).1 else (o.cell (r.lo + i)).2)

/-- Whether a region's check passes at one reference. -/
def Otp.regionPasses (o : Otp) (r : Region) (strict : Bool) : Bool :=
  checkPasses (o.body r strict) (if strict then (o.cell r.chk).1 else (o.cell r.chk).2)

/-- Whether a region holds a MARGINAL word. -/
def Otp.regionMarginal (o : Otp) (r : Region) : Bool :=
  (List.range (r.chk + 1 - r.lo)).any (fun i => o.marginal (r.lo + i))

/-- Whether the MARGINAL words of a region take their strict values (R593). -/
def Otp.useStrict (o : Otp) (r : Region) : Bool :=
  o.regionMarginal r && !o.regionPasses r false && o.regionPasses r true

/-- The value that a read selects for a word (R593); words 384 to 511 read 0 (R588). -/
def Otp.value (o : Otp) (a : Nat) : Word :=
  if 384 ≤ a ∧ a < 512 then 0#32
  else match regionOf a with
    | some r => if o.useStrict r then (o.cell a).1 else (o.cell a).2
    | none => (o.cell a).2

/-- Whether a region that holds a MARGINAL word fails its check at both references. -/
def Otp.failsBoth (o : Otp) (r : Region) : Bool :=
  o.regionMarginal r && !o.regionPasses r false && !o.regionPasses r true

/-- The value selected at start (R594). -/
def State.otpSel (s : State) (a : Nat) : Word := s.otp.sel.getD a 0#32

/-- The state of a region from the values of its words (R595). -/
def regionState (sealedBit : Bool) (ws : List Word) (c : Word) : Nat :=
  if sealedBit then (if checkPasses ws c then 2 else 4)
  else if c = 0#32 then 0
  else if checkPasses ws c then 1
  else 3

/-- The state of a region as selected at start: its seal is its SEAL bit, of a COMPAT sub-region its WLOCK bit. -/
def State.otpState (s : State) (r : Region) : Nat :=
  let sealedBit := if r.code < 8 then bit (s.otpSel 127) r.code else bit (s.otpSel 1016) (r.code - 8)
  regionState sealedBit ((List.range (r.chk - r.lo)).map (fun i => s.otpSel (r.lo + i))) (s.otpSel r.chk)

/-- The state of the region with a code. -/
def State.otpCodeState (s : State) (code : Nat) : Nat :=
  match regions.find? (fun r => r.code == code) with
  | some r => s.otpState r
  | none => 0

/-- A word of a non-critical region as the device uses it (R595, R597). -/
def State.otpUsed (s : State) (code a : Nat) : Word :=
  if [1, 2].contains (s.otpCodeState code) then s.otpSel a else 0#32

/-- A thermometer counter's value (R604): the index of the highest blown bit plus 1. -/
def thermo (ws : List Word) : Nat :=
  let n := (ws.reverse.foldl (fun v w => v * 2 ^ 32 + w.toNat) 0)
  if n = 0 then 0 else n.log2 + 1

/-- Whether a thermometer counter has a gap (R604). -/
def thermoGap (ws : List Word) : Bool :=
  (ws.reverse.foldl (fun v w => v * 2 ^ 32 + w.toNat) 0) + 1 != 2 ^ thermo ws

/-- The counters' registers from their present cells (R604, R614). -/
def State.setCounters (s : State) : State :=
  let fw := (List.range 4).map (fun i => s.otp.value (112 + i))
  let ep := [keepMask (s.otp.value 116) 0xFFFF]
  (s.setReg R.OTP_FW_VERSION (w32 (thermo fw + flag (thermoGap fw) * 2 ^ 8))).setReg R.OTP_KEY_EPOCH
    (w32 (thermo ep + flag (thermoGap ep) * 2 ^ 5 + bits (s.otp.value 116) 16 3 * 2 ^ 8))

/-- Whether the strict value of a MARGINAL word was selected. -/
def Otp.strictUsed (o : Otp) (a : Nat) : Bool :=
  match regionOf a with
  | some r => o.useStrict r
  | none => false

/-- MARGINAL words found in a read (R593, R613). -/
def State.noteMarginal (s : State) (found : List Nat) : State :=
  match found.getLast? with
  | none => s
  | some a =>
    (s.bumpBy F.OTP_MARGCNT_COUNT found.length).setReg R.OTP_MARGLAST
      (w32 (a + flag (s.otp.strictUsed a) * 2 ^ 30 + 2 ^ 31))

/-- The start read of every region (R593 to R595, R599): values, region states, MARGINAL words with their events, counters, and
the locks that the boot ROM sets. -/
def State.otpStart (s : State) : State :=
  let found := (List.range 1024).filter (fun a => s.otp.marginal a && !(decide (384 ≤ a) && decide (a < 512)))
  let due := found.map (fun a =>
    (w32 (a + flag (s.otp.strictUsed a) * 2 ^ 16), (s.otp.cell a).1 ^^^ (s.otp.cell a).2))
  let t := { s with otp := { s.otp with sel := (List.range 1024).map s.otp.value, job := none, margDue := due } }
  let t := (t.noteMarginal found).setCounters
  let t := t.wrs [(F.OTP_STAT_FT, t.otpCodeState 0), (F.OTP_STAT_SC, t.otpCodeState 1), (F.OTP_STAT_RS, t.otpCodeState 2),
    (F.OTP_STAT_CC, t.otpCodeState 3)]
  let t := t.setReg R.OTP_CSTAT (w32 (((List.range 8).map (fun n => t.otpCodeState (8 + n) * 2 ^ (3 * n))).foldl (fun a b => a + b) 0))
  let t := t.setReg R.OTP_COMPAT_LOCK (keepMask (t.otpSel 1016) 0xFFFF)
  let t := t.setReg R.OTP_LOCK (w32 (3 + bits (t.otpSel 127) 2 2 * 4))
  (regions.filter (fun r => t.otpState r == 4)).foldl (fun u r => u.event 0x0E [w32 r.code]) t

/-! ### Reading -/

/-- Whether a word lies in a sub-region whose read lock is blown (R600). -/
def State.readLocked (s : State) (a : Nat) : Bool :=
  match regionOf a with
  | some r => decide (8 ≤ r.code) && bit (s.otp.value 1016) (r.code)
  | none => false

/-- Whether an on-demand read of a word answers its start value because it now decides otherwise (R598). -/
def State.otpDeviates (s : State) (a : Nat) : Bool :=
  s.otp.value a != s.otpSel a ||
    (s.otp.marginal a && match regionOf a with
      | some r => s.otp.failsBoth r
      | none => false)

/-- OTP_READ (R598, R605). -/
def srvOtpRead (k : Pkt) (s : State) : Ans × State :=
  let a := pf k 0 0 10
  let n := pf k 1 0 9
  let run := (List.range n).map (fun i => a + i)
  if n = 0 ∨ 256 < n ∨ 1024 < a + n then s.param 0x13
  else if run.any (fun x => (decide (96 ≤ x) && decide (x < 112)) || s.readLocked x) then s.fin 7 []
  else
    let found := run.filter s.otp.marginal
    let bad := run.filter s.otpDeviates
    let t := s.noteMarginal found
    let head := w32 (flag (!found.isEmpty) + flag (found.any s.otp.strictUsed) * 2)
    if bad.isEmpty then t.ok (head :: run.map s.otp.value)
    else
      let t := (t.wr F.OTP_STAT_RUNTIME_FAIL 1).faultC 15
      let t := if bad.any (fun x => decide (64 ≤ x) && decide (x < 112)) then t.alarm 8 else t
      t.fin 0x0D (head :: run.map s.otpSel)

/-! ### Programming -/

/-- The voltage of a channel as HKB last stored it, as a code. -/
def State.hkbCode (s : State) (ch : Nat) : Nat :=
  match s.hk.codes.find? (fun p => p.1 == 64 + ch) with
  | some p => p.2
  | none => 0

/-- Whether the programming supply is within its window (R601): V33, VIO and T_max. -/
def State.supplyOk (s : State) : Bool :=
  let v33 := s.hkbCode 5
  let vio := s.hkbCode 4
  let t := signed 16 (s.rd F.THM_MAX_TMAX)
  decide (3250 ≤ v33 ∧ v33 ≤ 3350 ∧ 3520 ≤ vio ∧ vio ≤ 3680 ∧ -320 ≤ t ∧ t ≤ 1360)

/-- What OTP_STAT reads as (R610). -/
def State.viewOtpStat (s : State) : Word :=
  putBits (putBits (s.reg R.OTP_STAT) 12 1 (flag s.otp.job.isSome)) 14 1 (flag s.supplyOk)

/-- What the registers of bank OTP read as whose values are not kept whole in the memory. -/
def viewOtp (a : Nat) (s : State) : Option Word := if a = R.OTP_STAT then some s.viewOtpStat else none

/-- Programming begins: words with the bits to blow. -/
def State.otpBegin (s : State) (op tag : Nat) (words : List (Nat × Word)) (reply : List Word) : Ans × State :=
  (.accepted [], { s with otp := { s.otp with job := some ⟨op, tag, words, reply⟩ } })

/-- Whether a word cannot be a target of OTP_PROGRAM (R606): ROOT_SECRET, COUNTERS, RSVD, or the lock word. -/
def notTarget (a : Nat) : Bool := (decide (96 ≤ a) && decide (a < 128)) || (decide (384 ≤ a) && decide (a < 512)) || decide (1016 ≤ a)

/-- Whether a target of OTP_PROGRAM is locked (R599, R600). -/
def State.writeLocked (s : State) (a : Nat) : Bool :=
  s.tst F.OTP_LOCK_PROG_DIS ||
  match regionOf a with
  | some r => if 8 ≤ r.code then bit (s.otp.value 1016) (r.code - 8) else bit (s.reg R.OTP_LOCK) r.code
  | none => false

/-- Whether data would clear a bit that is already blown (R602). -/
def State.conflicts (s : State) (a : Nat) (w : Word) : Bool := (s.otp.cell a).2 &&& ~~~ w != 0#32

/-- OTP_PROGRAM (R606). -/
def srvOtpProgram (k : Pkt) (s : State) : Ans × State :=
  s.withTrailer 0xA1 k true (fun t =>
    let a := pf k 0 0 10
    let ws := (k.payload.drop 1).take (k.payload.length - 6)
    let tgt := (List.range ws.length).map (fun i => a + i)
    if t.otp.job.isSome then t.fin 8 []
    else if 1024 < a + ws.length then t.param 0x13
    else if tgt.any notTarget then t.param 0xA0
    else if tgt.any t.writeLocked then t.fin 7 []
    else if (tgt.zip ws).any (fun p => t.conflicts p.1 p.2) then t.param 0xA1
    else if !t.supplyOk then t.param 0xA2
    else t.otpBegin 0xA1 k.tag (tgt.zip ws) [])

/-- OTP_FUSE_LOCK (R607). -/
def srvOtpFuseLock (k : Pkt) (s : State) : Ans × State :=
  s.withTrailer 0xA2 k true (fun t =>
    let code := pf k 0 0 4
    let rl := pf k 0 4 1
    let force := pf k 0 8 1 == 1
    let native := decide (code < 8)
    let addr := if native then 127 else 1016
    let b := if native then code else code - 8 + 8 * rl
    if t.otp.job.isSome then t.fin 8 []
    else if (native && code != 2 && code != 3) || (native && rl == 1) then t.param 0xA0
    else if t.tst F.OTP_LOCK_PROG_DIS then t.fin 7 []
    else if bit (t.otp.value addr) b then t.ok []
    else
      let fails := native && !force && match regions.find? (fun r => r.code == code) with
        | some r => !t.otp.regionPasses r true
        | none => false
      if fails then t.param 0xA3
      else if !t.supplyOk then t.param 0xA2
      else
        let u := if native then t.setReg R.OTP_LOCK (t.reg R.OTP_LOCK ||| w32 (2 ^ code)) else t
        u.otpBegin 0xA2 k.tag [(addr, w32 (2 ^ b))] [])

/-- Whether a key-hash slot can be used for firmware or for SERVICE sessions (R615); `use` is 0 or 4, the place of its bits. -/
def State.slotUsable (s : State) (n use revoke : Nat) : Bool :=
  (List.range 8).any (fun i => s.otpSel (66 + 8 * n + i) != 0#32) && !revoke.testBit n && bit (s.otpSel 90) (use + n)

/-- The bits that a thermometer counter blows to reach a value, as one number. -/
def thermoBits (v : Nat) : Nat := 2 ^ v - 1

/-- COUNTER_ADVANCE (R608, R632). -/
def srvCounterAdvance (k : Pkt) (s : State) : Ans × State :=
  s.withTrailer 0xA3 k true (fun t =>
    let c := pf k 0 0 2
    let v := (pw k 1).toNat
    if t.otp.job.isSome then t.fin 8 []
    else if t.tst F.OTP_LOCK_CNT_WL ∨ t.tst F.OTP_LOCK_PROG_DIS then t.fin 7 []
    else if c = 0 then
      if v < t.rd F.OTP_FW_VERSION_VALUE ∨ 128 < v ∨ t.saf.svn < v then t.param 0xA4
      else if v = t.rd F.OTP_FW_VERSION_VALUE then t.ok [w32 v]
      else if !t.supplyOk then t.param 0xA2
      else t.otpBegin 0xA3 k.tag ((List.range 4).map (fun i => (112 + i, w32 (thermoBits v / 2 ^ (32 * i))))) [w32 v]
    else if c = 1 then
      if v < t.rd F.OTP_KEY_EPOCH_VALUE ∨ 16 < v then t.param 0xA4
      else if v = t.rd F.OTP_KEY_EPOCH_VALUE then t.ok [w32 v]
      else if !t.supplyOk then t.param 0xA2
      else t.otpBegin 0xA3 k.tag [(116, w32 (thermoBits v))] [w32 v]
    else if c = 2 then
      let old := t.rd F.OTP_KEY_EPOCH_REVOKE
      let new := old ||| v % 8
      if 8 ≤ v ∨ new.testBit t.saf.slot ∨ !((List.range 3).any (fun n => t.slotUsable n 0 new)) then t.param 0xA4
      else if new = old then t.ok [w32 old]
      else if !t.supplyOk then t.param 0xA2
      else t.otpBegin 0xA3 k.tag [(116, w32 (new * 2 ^ 16))] [w32 new]
    else t.param 0xA4)

/-- OTP_STATUS (R609). -/
def srvOtpStatus (_k : Pkt) (s : State) : Ans × State :=
  s.ok [s.viewOtpStat, s.reg R.OTP_CSTAT, s.reg R.OTP_LOCK, s.reg R.OTP_COMPAT_LOCK, s.reg R.OTP_MARGCNT, s.reg R.OTP_MARGLAST,
    s.reg R.OTP_FW_VERSION, s.reg R.OTP_KEY_EPOCH]

/-- A write of OTP_LOCK sets sticky bits (R599, R612). -/
def wrOtpLock (v : Word) (s : State) : WRes × State :=
  (.ok, s.setReg R.OTP_LOCK (s.reg R.OTP_LOCK ||| keepMask v 0x3F))

/-- OTP_LOCK_WRITE (R599). -/
def execOtpLockWrite (value : Word) (s : State) : Host.Outcome State Fault Refusal := .next (s.keepQueue (wrOtpLock value s).2)

/-- How many bits of a word are set. -/
def popcount (w : Word) : Nat := ((List.range 32).filter (fun i => bit w i)).length

/-- The end of programming with one final reply. -/
def State.otpEnd (s : State) (j : OtpJob) (st : Nat) (pl : List Word) : State :=
  State.finish (State.setCounters { s with otp := { s.otp with job := none } }) j.op j.tag st s.tt.fn pl

/-- OTP_WORD_PROGRAMMED (R602): of the bits to blow, those in `short` still read unblown at the strict reference, and of these
those in `loose` read blown at the loose one. Outside the supply window, or with bits short, the command ends INTERNAL with the
word's address. -/
def State.otpWord (s : State) (short loose : Word) : State :=
  match s.otp.job with
  | none => s
  | some j =>
    match j.words with
    | [] => s.otpEnd j 0 j.reply
    | (a, w) :: rest =>
      let want := w &&& ~~~ (s.otp.cell a).1
      let miss := want &&& short
      let t := s.elapse (us (20 * popcount want) + s.tt.clk)
      let t := { t with otp := s.otp.blow a (want &&& ~~~ miss) (miss &&& loose) }
      if miss ≠ 0#32 ∨ !t.supplyOk then t.otpEnd j 0x0C [w32 a]
      else match rest with
        | [] => t.otpEnd j 0 j.reply
        | _ => { t with otp := { t.otp with job := some { j with words := rest } } }

/-- OTP_WORD_PROGRAMMED (R602). -/
def execOtpWordProgrammed (short loose : Word) (s : State) : Host.Outcome State Fault Refusal :=
  .next { s.otpWord short loose with pending := s.pending }

end Sys2Proof.Machine
end

