-- ==== Sys2Proof/Machine/Security.lean ====
section
/-!
DEFINITION. Keys, the liveness proof and the Prefect (R615 to R639): identity, sessions, liveness records, Pop Quiz, image checks,
and the commands of bank SEC.
-/

namespace Sys2Proof.Machine

open Sys2Proof (Word Byte Pkt)

/-! ### Identity and sessions -/

/-- UID in bytes (R615). -/
def State.uid (s : State) : List Byte := bytesOf [s.otpSel 64, s.otpSel 65]

/-- KEY_EPOCH as selected at start, in one byte (R616). -/
def State.epoch (s : State) : List Byte := [w8 (thermo [keepMask (s.otpSel 116) 0xFFFF])]

/-- Q_ID in bytes, zeros without identity (R619). -/
def State.qId (s : State) : List Byte :=
  match s.sec.idKey with
  | some p => p.2
  | none => List.replicate 64 0#8

/-- Q_ID of a root secret (R616). -/
def State.identityOf (s : State) (rs : List Byte) : List Byte × List Byte :=
  let d := Config.scalar (Config.hkdf rs s.uid (ascii "ID" ++ s.epoch) 40)
  (d, Config.pointOf d)

/-- The BOOT session (R619, R620). -/
def State.bootSession (s : State) (kPair : List Byte) : Session :=
  ⟨1, 2 ^ 31 + s.pwr.poc % 2 ^ 31, Config.hkdf kPair (wordBytes (w32 s.pwr.poc) ++ s.uid) (ascii "CKV4160 BOOT") 160, 0, none⟩

/-- A session opens: SEC_SESSID, and its streams (R620, R622). -/
def State.openSession (s : State) (x : Session) (cfg : Nat) : State :=
  State.wrs { s with sec := { s.sec with sess := some x, old := s.sec.sess } } [(F.SEC_SESSID_ID, x.id), (F.SEC_LIVE_CFG, cfg)]

/-- The Prefect's start (R616, R620): the long-term keys of a SEALED or OPEN root secret and the BOOT session, else NO_IDENTITY. -/
def State.prefectStart (s : State) : State :=
  if [1, 2].contains (s.otpCodeState 2) then
    let rs := bytesOf ((List.range 8).map (fun i => s.otpSel (96 + i)))
    let kp := Config.hkdf rs s.uid (ascii "PAIR" ++ s.epoch) 32
    let t := { s with sec := { s.sec with idKey := some (s.identityOf rs), kPair := some kp } }
    (t.wr F.SEC_STAT_NO_IDENTITY 0).openSession (s.bootSession kp) 1
  else s.wr F.SEC_STAT_NO_IDENTITY 1

/-- `n` random words of the DRBG (R617). -/
def drawWords : Nat → State → List Word × State
  | 0, s => ([], s)
  | n + 1, s =>
    let (w, t) := s.fresh
    let (ws, u) := drawWords n t
    (w :: ws, u)

/-- What the registers of bank SEC read as whose values are not kept whole in the memory (R636). -/
def State.viewSecStat (s : State) : Word :=
  let kind := match s.sec.sess with
    | some x => x.kind
    | none => 0
  let pend := match s.sec.hand with
    | some h => !h.expired
    | none => false
  putBits (putBits (s.reg R.SEC_STAT) 0 2 kind) 2 1 (flag pend)

/-- The same, by address. -/
def viewSec (a : Nat) (s : State) : Option Word := if a = R.SEC_STAT then some s.viewSecStat else none

/-! ### Handshakes -/

/-- AUTH_HELLO with OP SESSION (R621): the handshake begins and replaces a pending one. -/
def helloSession (k : Pkt) (s : State) : Ans × State :=
  let (rnd, t) := drawWords 9 s
  let eH := bytesOf ((k.payload.drop 1).take 16)
  let eD := Config.scalar (bytesOf (rnd.take 8))
  let sid := bits (rnd.getD 8 0#32) 0 31
  let pub := Config.pointOf eD
  let h := Config.sha256 (eH ++ pub ++ t.qId ++ wordBytes (w32 sid) ++ t.uid ++ t.epoch)
  let z2 := match t.sec.idKey with
    | some p => Config.ecdh p.1 eH
    | none => List.replicate 32 0#8
  let keys := Config.hkdf (Config.ecdh eD eH ++ z2) h (ascii "CKV4160 SESSION") 160
  let t := match t.sec.hand.bind (fun x => x.tag) with
    | some g => t.finish 0xB0 g 0x0A t.tt.fn []
    | none => t
  (.accepted [], { t with sec := { t.sec with hand := some ⟨pf k 0 4 1, sid, eD, h, keys, some k.tag, 0, false⟩ } })

/-- AUTH_HELLO with OP PROVISION (R618). -/
def helloProvision (k : Pkt) (s : State) : Ans × State :=
  s.withTrailer 0xB0 k true (fun t =>
    if t.otp.job.isSome then t.fin 8 []
    else if t.otpCodeState 2 ≠ 0 ∨ t.tst F.OTP_LOCK_RS_WL then t.param 0xB5
    else if t.tst F.OTP_LOCK_PROG_DIS then t.fin 7 []
    else if !t.supplyOk then t.param 0xA2
    else
      let (rs, u) := drawWords 8 t
      let words := (List.range 8).map (fun i => (96 + i, rs.getD i 0#32)) ++ [(104, checkWord rs)]
      u.otpBegin 0xB0 k.tag words (wordsOf (u.identityOf (bytesOf rs)).2 16))

/-- AUTH_HELLO (R617, R618, R621, R633). -/
def srvAuthHello (k : Pkt) (s : State) : Ans × State :=
  let opc := pf k 0 0 2
  if (opc = 0 ∧ k.payload.length ≠ 17) ∨ (opc = 1 ∧ k.payload.length ≠ 6) then s.fin 3 []
  else if s.tst F.SEC_STAT_ERASED then s.authRefuse 0xB8
  else if !s.tst F.SEC_STAT_RNG_OK then s.fin 0x0C []
  else if opc = 0 then helloSession k s
  else if opc = 1 then helloProvision k s
  else s.param 0xB4

/-- HANDSHAKE_DONE (R621): the reply OK with the device confirmation. -/
def execHandshakeDone (s : State) : Host.Outcome State Fault Refusal :=
  .next (s.keepQueue (
    match s.sec.hand with
    | none => s
    | some h =>
      match h.tag with
      | none => s
      | some g =>
        let head := [w32 h.id, w32 (s.rd F.OTP_KEY_EPOCH_VALUE + s.rd F.SEC_STAT_NO_IDENTITY * 2 ^ 8), s.otpSel 64, s.otpSel 65]
        let pl := head ++ wordsOf (Config.pointOf h.eD) 16 ++ wordsOf s.qId 16 ++ wordsOf (Config.cmac (h.keys.take 32) h.h) 4
        let t := s.finish 0xB0 g 0 s.tt.fn pl
        { t with sec := { t.sec with hand := some { h with tag := none, repliedAt := t.tt.clk } } }))

/-- HANDSHAKE_TIMEOUT (R621): 1.0 s after the AUTH_HELLO reply. -/
def execHandshakeTimeout (s : State) : Host.Outcome State Fault Refusal :=
  .next (s.keepQueue (
    match s.sec.hand with
    | none => s
    | some h =>
      if h.tag.isSome || h.expired then s
      else
        let t := s.elapse (ms 1000 + h.repliedAt)
        { t with sec := { t.sec with hand := some { h with expired := true } } }))

/-- AUTH_FINISH (R621, R623, R635). -/
def srvAuthFinish (k : Pkt) (s : State) : Ans × State :=
  let service := match s.sec.hand with
    | some h => h.role == 1
    | none => k.payload.length == 38
  if k.payload.length ≠ (if service then 38 else 6) then s.fin 3 []
  else if s.tst F.SEC_STAT_ERASED then s.authRefuse 0xB8
  else if s.sec.finish.isSome then s.fin 8 []
  else if pf k 1 0 1 = 1 ∧ !service then s.param 0xB4
  else (.accepted [], { s with sec := { s.sec with finish := some ⟨k.tag, k.payload, s.tt.clk⟩ } })

/-- Whether the SERVICE signature and the slot of its key are good (R615, R621). -/
def State.serviceOk (s : State) (h : Handshake) (ws : List Word) : Bool :=
  let q := (ws.drop 6).take 16
  let digest := wordsOf (Config.sha256 (bytesOf q)) 8
  (List.range 3).any (fun n => s.slotUsable n 4 (s.rd F.OTP_KEY_EPOCH_REVOKE) &&
    (List.range 8).map (fun i => s.otpSel (66 + 8 * n + i)) == digest) &&
  Config.ecdsaVerify (bytesOf q) (Config.sha256 h.h) (bytesOf ((ws.drop 22).take 16))

/-- A final AUTH reply of AUTH_FINISH, counted. -/
def State.finishAuth (s : State) (tag reason : Nat) : State := (s.authCount).finish 0xB1 tag 9 s.tt.fn [w32 reason]

/-- The outcome of AUTH_FINISH (R621 to R623). -/
def State.finishCheck (s : State) (f : FinishJob) : State :=
  match s.sec.hand with
  | none => s.finish 0xB1 f.tag 4 s.tt.fn [0xB3#32]
  | some h =>
    if (f.words.getD 0 0#32).toNat ≠ h.id ∨ h.tag.isSome then s.finish 0xB1 f.tag 4 s.tt.fn [0xB3#32]
    else if ms 1000 + h.repliedAt < f.at_ then s.finish 0xB1 f.tag 0x0B s.tt.fn []
    else if (f.words.drop 2).take 4 ≠ wordsOf (Config.cmac ((h.keys.drop 32).take 32) h.h) 4 then s.finishAuth f.tag 0xB9
    else if h.role = 1 ∧ !s.serviceOk h f.words then s.finishAuth f.tag 0xBA
    else
      let wrapped := if h.role = 1 ∧ bit (f.words.getD 1 0#32) 0 then
          match s.sec.kPair with
          | some kp => wordsOf (Config.keyWrap (h.keys.take 32) kp) 10
          | none => List.replicate 10 0#32
        else []
      let t := s.finish 0xB1 f.tag 0 s.tt.fn ([w32 h.id, w32 h.role] ++ wrapped)
      let t := t.openSession ⟨2 + h.role, h.id, h.keys, 0, none⟩ 0
      { t with sec := { t.sec with hand := none } }

/-- FINISH_CHECK_DONE (R621). -/
def execFinishCheckDone (s : State) : Host.Outcome State Fault Refusal :=
  .next (s.keepQueue (
    match s.sec.finish with
    | none => s
    | some f => State.finishCheck { s with sec := { s.sec with finish := none } } f))

/-! ### Liveness -/

/-- LIVENESS_CONFIG (R624, R625, R635). -/
def srvLivenessConfig (k : Pkt) (s : State) : Ans × State :=
  s.withTrailer 0xB2 k false (fun t =>
    if pf k 0 9 1 = 1 then t.endSession.ok [0#32]
    else
      let u := t.wr F.SEC_LIVE_CFG (bits (keepMask (pw k 0) 0x10F) 0 10)
      u.ok [w32 (u.rd F.SEC_LIVE_CFG)])

/-- NONCE_PUSH (R628): the TB is that of the packet's arrival. -/
def srvNoncePush (k : Pkt) (s : State) : Ans × State :=
  let tb := match s.sec.arrivals.find? (fun p => p.1 == k.tag) with
    | some p => p.2
    | none => s.tt.tb
  let t := { s with sec := { s.sec with arrivals := s.sec.arrivals.filter (fun p => p.1 != k.tag) } }
  if pf k 0 0 16 = 0 then t.param 0xB3
  else
    State.ok (State.wr { t with sec := { t.sec with nonce := (k.payload.drop 1).take 4, nonceTb := tb } }
      F.SEC_LASTNONCE_NONCE_ID (pf k 0 0 16)) []

/-- Whether LIVENESS_CONFIG selects a stream (R625). -/
def State.liveStream (s : State) (stream : Nat) : Bool :=
  let b := if stream = 1 then 0 else if stream = 2 then 1 else if stream = 3 then 2 else 3
  stream < 0x20 && (s.rd F.SEC_LIVE_CFG).testBit b

/-- What a stream frame that starts now takes of the session in force (R622, R625, R628). -/
def State.authCtx (s : State) (stream : Nat) : Option AuthCtx :=
  match s.sec.sess with
  | none => none
  | some x =>
    if s.liveStream stream then
      let id := s.rd F.SEC_LASTNONCE_NONCE_ID
      some ⟨x.id, s.rd F.SEC_LIVE_CFG / 2 ^ 8 % 2,
        if id = 0 then List.replicate 6 0#32
        else [w32 id, w32 (s.sec.nonceTb / 2 ^ 16)] ++ s.sec.nonce⟩
    else none

/-- The session with an id, if it is in force or was replaced. -/
def State.sessionOf (s : State) (id : Nat) : Option Session :=
  match s.sec.sess with
  | some x => if x.id = id then some x else s.sec.old.filter (fun y => y.id == id)
  | none => s.sec.old.filter (fun y => y.id == id)

/-- A session's LCTR raised by 1. -/
def bumpLctr (id : Nat) (x : Session) : Session := if x.id = id then { x with lctr := (x.lctr + 1) % 2 ^ 32 } else x

/-- The quiz words of a record (R626): word 48 bits and words 54 to 57. -/
def quizWords (q : Quiz) : Nat × List Word :=
  let fails := q.blocks.any (fun b => !b.pass)
  (q.blocks.length * 2 ^ 10 + flag q.host.isSome * 2 ^ 13 + flag fails * 2 ^ 14,
   (List.range 4).map (fun i =>
     match q.blocks[i]? with
     | some b => w32 (b.bx + b.by_ * 2 ^ 10 + flag b.pass * 2 ^ 20 + min 2047 b.worst * 2 ^ 21)
     | none => 0#32))

/-- A unit of a stream frame that a record of COVER ROWS covers (R627): its MAC with K_ROW over FN, stream, index and bytes. -/
def State.unitMac (s : State) (f : StreamFrame) (bytes : List Byte) : List Byte :=
  match f.auth with
  | some a =>
    if a.cover ≠ 0 then []
    else match s.sessionOf a.id with
      | some x => Config.cmac ((x.keys.drop 96).take 32)
          (wordBytes (w32 f.fn) ++ [w8 f.stream] ++ wordBytes (w32 (f.macs.length / 16)) ++ bytes)
      | none => []
  | none => []

/-- The liveness record of a stream frame (R626, R627) in its footer words 48 to 62: its header words and its footer words 0 to
47 are covered, and with COVER ROWS the unit MACs of its rows. -/
def State.record (s : State) (f : StreamFrame) (a : AuthCtx) (hdr footer : List Word) : List Word × State :=
  let q := if f.stream = 2 then (0, List.replicate 4 0#32)
    else match s.sec.quizzes.find? (fun q => q.fn == f.src) with
      | some q => quizWords q
      | none => (0, List.replicate 4 0#32)
  let erased := s.sec.sess.isNone && s.tst F.SEC_STAT_ERASED
  let lctr := match s.sessionOf a.id with
    | some x => x.lctr
    | none => 0
  let body := [w32 (1 + flag f.rep * 2 ^ 8 + a.cover * 2 ^ 9 + q.1 + flag erased * 2 ^ 15), w32 a.id, w32 lctr, w32 f.src,
    keepMask (a.nonce.getD 0 0#32) 0xFFFF, a.nonce.getD 1 0#32] ++ q.2 ++ [0#32]
  match s.sessionOf a.id with
  | some x =>
    let msg := bytesOf (hdr.take 127 ++ footer.take 48 ++ body ++ a.nonce.drop 2) ++ (if a.cover = 0 then f.macs else [])
    let tag := wordsOf (Config.cmac ((x.keys.drop 64).take 32) msg) 4
    (body ++ tag, { s with sec := { s.sec with
      sess := s.sec.sess.map (bumpLctr a.id), old := s.sec.old.map (bumpLctr a.id) } })
  | none => (body ++ List.replicate 4 0#32, s)

/-! ### Pop Quiz -/

/-- Whether a block is bond-failed (R37, R54). -/
def State.bondFailed (s : State) (bx by_ : Nat) : Bool := s.sys.bonds.contains (bx + 4, by_ + 12)

/-- Whether a block lies in an enabled window. -/
def inWindow (v : View) (bx by_ : Nat) : Bool :=
  (winRects v).any (fun w => decide (w.bx0 ≤ bx ∧ bx < w.bx0 + w.bw ∧ w.by0 ≤ by_ ∧ by_ < w.by0 + w.bh))

/-- The apply FN of POP_QUIZ (R635): the first frame whose first event comes at least 2 RP from now. -/
def State.quizFn (s : State) : Nat :=
  let ok := fun (m : Nat) =>
    let v := s.viewFor (s.tt.fn + m)
    decide (s.tt.clk + 32 * s.rpNow + leadSlots v * rpRaw v ≤ frameStart s m)
  match (List.range 8).find? (fun m => m != 0 && ok m) with
  | some m => (s.tt.fn + m) % 2 ^ 32
  | none => (s.tt.fn + 8) % 2 ^ 32

/-- POP_QUIZ (R630, R635). -/
def srvPopQuiz (k : Pkt) (s : State) : Ans × State :=
  let n := pf k 0 0 3
  let blocks := (List.range n).map (fun i => (pf k (1 + i) 0 10, pf k (1 + i) 16 10))
  if !s.tt.run then s.param 0xB2
  else if n = 0 ∨ 4 < n then s.param 0xB0
  else if k.payload.length ≠ 1 + n then s.fin 3 []
  else if s.isOpen 0xB4 then s.fin 8 []
  else if blocks.any (fun b => !inWindow s.live b.1 b.2 || s.bondFailed b.1 b.2) then s.param 0xB1
  else
    let fn := s.quizFn
    let q : Quiz := ⟨fn, some k.tag, pf k 0 8 1 == 1, blocks.map (fun b => ⟨b.1, b.2, false, true, 0⟩)⟩
    (.accepted [], { s with sec := { s.sec with sched := some q } })

/-- The blocks that an automatic quiz may take (R631): `n` in all, and the one with an index. -/
def State.quizPool (s : State) : List (Nat × Nat) :=
  let ws := winRects s.live
  (blockRows ws).flatMap (fun b =>
    let here := ws.filter (fun w => decide (w.by0 ≤ b ∧ b < w.by0 + w.bh))
    ((List.range 1024).filter (fun x => here.any (fun w => decide (w.bx0 ≤ x ∧ x < w.bx0 + w.bw)) && !s.bondFailed x b)).map
      (fun x => (x, b)))

/-- Automatic positions drawn from the DRBG (R631). -/
def drawBlocks (pool : List (Nat × Nat)) : Nat → State → List QuizBlock × State
  | 0, s => ([], s)
  | n + 1, s =>
    let (w, t) := s.fresh
    let (bs, u) := drawBlocks pool n t
    match pool[w.toNat % max 1 pool.length]? with
    | some b => (⟨b.1, b.2, false, true, 0⟩ :: bs, u)
    | none => (bs, u)

/-- The quiz of the frame that begins (R631, R635): the host's blocks, or automatic ones in every PERIOD-th frame, 4 in every frame
of ARRAY_TEST. -/
def State.quizFrame (s : State) : State :=
  let keep := s.sec.quizzes.filter (fun q => seqLe s.tt.fn (q.fn + 3))
  let host := match s.sec.sched with
    | some q => q.fn == s.tt.fn
    | none => false
  if host then { s with sec := { s.sec with quizzes := s.sec.sched.toList ++ keep, sched := none } }
  else
    let array := s.sys.mode == 0x8
    let p := s.rd F.SEC_QUIZ_PERIOD
    let n := if array then 4 else clampN 1 4 (s.rd F.SEC_QUIZ_NBLK)
    if array || (p != 0 && s.tt.fn % p == 0) then
      let (bs, t) := drawBlocks s.quizPool n s
      { t with sec := { t.sec with quizzes := ⟨s.tt.fn, none, false, bs⟩ :: keep } }
    else { s with sec := { s.sec with quizzes := keep } }

/-- A quiz with one of its blocks changed. -/
def Quiz.mapBlocks (q : Quiz) (f : QuizBlock → QuizBlock) : Quiz := { q with blocks := q.blocks.map f }

/-- The quizzes of a frame changed. -/
def State.mapQuiz (s : State) (fn : Nat) (f : Quiz → Quiz) : State :=
  { s with sec := { s.sec with quizzes := s.sec.quizzes.map (fun q => if q.fn = fn then f q else q) } }

/-- Whether a block of a frame is a quiz block (R630). -/
def State.quizBlock (s : State) (fn bx by_ : Nat) : Bool :=
  s.sec.quizzes.any (fun q => q.fn == fn && q.blocks.any (fun b => b.bx == bx && b.by_ == by_))

/-- POP_QUIZ_EVENT (R101, R630): at the read window of row 4 · by the converter die holds TXS and OFS of the frame's n-th quiz block
low. -/
def execPopQuizEvent (n : Nat) (s : State) : Host.Outcome State Fault Refusal :=
  .next (s.keepQueue (
    match (s.sec.quizzes.find? (fun q => q.fn == s.tt.fn)).bind (fun q => q.blocks[n]?) with
    | none => s
    | some b =>
      let t := match readRp s.live (4 * b.by_ + 48) with
        | some p => s.elapse (s.slotTime (16 * p))
        | none => s
      t.mapQuiz t.tt.fn (fun q => q.mapBlocks (fun c => if c = b then { c with read := true } else c))))

/-- The Prefect's check of a row and sample (R630): every code of a quiz block within QTOL of P, and none 0. `codes` begins at
x = -24. -/
def State.quizCheck (s : State) (fn row ped : Nat) (codes : List Nat) : State :=
  let tol := max 1 (s.rd F.SEC_QUIZ_QTOL)
  let check := fun (b : QuizBlock) =>
    if row < 48 ∨ (row - 48) / 4 ≠ b.by_ then b
    else
      let c := (codes.drop (24 + 4 * b.bx)).take 4
      let dev := c.map (fun d => if d ≤ ped then ped - d else d - ped)
      { b with read := true, worst := dev.foldl max b.worst,
               pass := b.pass && c.all (fun d => d != 0) && dev.all (fun d => decide (d ≤ tol)) }
  s.mapQuiz fn (fun q => q.mapBlocks check)

/-- The check of a frame is complete (R630, R635): failed blocks are counted, and POP_QUIZ has its final reply, DEGRADED where a
row was not read. -/
def State.quizClose (s : State) (fn : Nat) : State :=
  match s.sec.quizzes.find? (fun q => q.fn == fn) with
  | none => s
  | some q =>
    let t := s.bumpBy F.SEC_QUIZFAIL_COUNT (q.blocks.filter (fun b => b.read && !b.pass)).length
    match q.host with
    | none => t
    | some g =>
      let bitsOf := fun (f : QuizBlock → Bool) =>
        ((List.range 4).map (fun i => match q.blocks[i]? with
          | some b => flag (f b) * 2 ^ i
          | none => 0)).foldl (fun a b => a + b) 0
      let w0 := bitsOf (fun b => b.read && b.pass) + bitsOf (fun b => !b.read) * 16
      let worst := (List.range 4).map (fun i => match q.blocks[i]? with
        | some b => w32 b.worst
        | none => 0#32)
      t.finish 0xB4 g (if q.blocks.any (fun b => !b.read) then 0x0D else 0) fn (w32 w0 :: worst)

/-! ### Alarms and the generator -/

/-- ALARM_STATUS (R635). -/
def srvAlarmStatus (_k : Pkt) (s : State) : Ans × State :=
  s.ok [s.viewSecStat, s.reg R.SEC_ALARM, s.reg R.SEC_ALARM_LVL, s.reg R.SEC_ALARMCNT]

/-- ALARM_CLEAR (R634, R635). -/
def srvAlarmClear (k : Pkt) (s : State) : Ans × State :=
  s.withTrailer 0xB6 k true (fun t =>
    let u := t.setReg R.SEC_ALARM (clearMask (t.reg R.SEC_ALARM) (pf k 0 0 9))
    u.ok [u.reg R.SEC_ALARM])

/-- HEALTH_TEST_PASS (R617). -/
def execHealthTestPass (s : State) : Host.Outcome State Fault Refusal :=
  .next (s.keepQueue (if s.sys.phase == .unpowered || s.sys.phase == .reset then s else s.wr F.SEC_STAT_RNG_OK 1))

/-! ### Firmware images -/

/-- The words of an image's body, and its bytes. -/
def State.imageBody (s : State) (wid : Nat) : List Byte :=
  let n := (s.reg (wkey wid 3)).toNat
  (bytesOf (s.run (wkey wid 64) (ceilDiv n 4))).take n

/-- The first check of R632 that an image fails, if it fails one. A length outside its range fails that of the body. -/
def State.imageFail (s : State) (wid : Nat) : Option Nat :=
  let w := fun i => s.reg (wkey wid i)
  let slot := bits (w 1) 8 2
  let len := (w 3).toNat
  let q := s.run (wkey wid 13) 16
  if (w 0).toNat ≠ 0x31464B43 ∨ bits (w 1) 0 8 ≠ 1 then some 1
  else if slot = 3 ∨ s.slotUsable slot 0 (s.rd F.OTP_KEY_EPOCH_REVOKE) = false ∨
      wordsOf (Config.sha256 (bytesOf q)) 8 ≠ (List.range 8).map (fun i => s.otpSel (66 + 8 * slot + i)) then some 2
  else if bits (w 2) 0 8 < s.rd F.OTP_FW_VERSION_VALUE ∨ 128 < bits (w 2) 0 8 then some 3
  else if !Config.ecdsaVerify (bytesOf q) (Config.sha256 (bytesOf (s.run (wkey wid 0) 29))) (bytesOf (s.run (wkey wid 29) 16)) then some 4
  else if len = 0 ∨ 8388608 < len ∨ wordsOf (Config.sha256 (s.imageBody wid)) 8 ≠ s.run (wkey wid 5) 8 then some 5
  else none

end Sys2Proof.Machine
end

