-- ==== Sys2Proof/Machine/Converters.lean ====
section
/-!
DEFINITION. The column converters (R55 to R85): which converter takes which sample, codes and row tags, the reference check,
calibration, tracking, bad converters, and direct writes.
-/

namespace Sys2Proof.Machine

open Sys2Proof (Word Byte Pkt RowSample)

/-! ### Converters and windows -/

/-- The key of a converter's entry in CNV.CORR (R71). -/
def corrKey (n : Nat) : Nat := wkey 0x0400 n

/-- The number of converters (R55). -/
def converters : Nat := 16576

/-- The place of a sample in the order of a mask (R57). -/
def samplePlace (mask sample : Nat) : Nat := maskCount (mask % 2 ^ sample)

/-- The converter of a column, T0 0 to B1 3, that takes a sample in a window of set `w` (R57). -/
def converterOf (mask sample w : Nat) : Nat :=
  match maskCount mask with
  | 1 => [0, 2, 1, 3].getD w 0
  | 2 => 2 * w + samplePlace mask sample
  | _ => samplePlace mask sample

/-- The offset of short reads that R59 does not move, from the effective D_S (R141). -/
def shortBase (v : View) (eff : Nat) : Nat := if 0 < eff && r59Moves v (eff - 1) then eff - 1 else eff

/-- The RP at which the window begins that takes a sample of the row at place i of the reading order, read at RP p, from the start of
the row's frame (R57, R59, R141). -/
def sampleWindow (v : View) (eff i : Nat) (p : Int) (sample : Nat) : Int :=
  if sample = 3 then
    let n := p + shortBase v eff
    n + flag (r59Clash v (readSweeps v) i n)
  else p

/-- The RP at which the window begins that reads the short sample of row y + 48. -/
def shortRp (v : View) (eff row : Nat) : Int :=
  match readIndex (blockRows (winRects v)) row with
  | some i => sampleWindow v eff i ((sweepRp (readSweeps v) i).getD 0) 3
  | none => 0

/-- The RP at which the conversion of a window that begins at RP n starts (R58). -/
def conversionStart (w : Nat) (n : Int) : Int := -(-(n + w) / (w : Int)) * w

/-- The RP at which the conversion of a window that begins at RP n of a frame of `vt` RP starts, where the next frame follows back to
back: conversion starts count from each frame's first RP (R58). -/
def conversionRp (w vt : Nat) (n : Int) : Int :=
  let c := conversionStart w n
  if n < vt ∧ (vt : Int) ≤ c then vt + max 0 (conversionStart w (n - vt)) else c

/-- The set of converters that serves the window that begins at RP n (R57). -/
def windowSet (w : Nat) (n : Int) : Nat := (n % (w : Int)).toNat

/-! ### Codes -/

/-- The output code of a converter (R62): its entry, the ramp gain g, the pedestal, and the counts Nr and Ns. -/
def codeOf (entry : Word) (g ped nr ns : Nat) : Nat :=
  if nr = 256 ∨ bit entry 30 = true then 0
  else if 4095 ≤ ns then 4095
  else
    let o := signed 16 (bits entry 0 16)
    let gain := signed 12 (bits entry 16 12)
    -- v in 2^-20 counts: G weighs 2^-14, O · g weighs 2^-6
    let v : Int := ((ns : Int) - nr) * (16384 + gain) * 64 - o * g * 16384
    (clampI 1 4094 (roundI v 1048576 + ped)).toNat

/-- The words of CNV_RAMP and CNV_PED with which a window is converted whose settings are `v` and whose conversion starts `conv`
(R73, R74): those in force when the window began. A direct write that came in this frame holds for every conversion that starts at or
after its boundary; one that starts before it keeps the words before the write. (A conversion that the boundary falls into is flagged
INVALID; that it keeps the words before it is the model's choice, assumption 63.) -/
def State.rampAt (s : State) (v : View) (prev : Bool) (conv : Nat) : Word × Word :=
  let own := (v R.CNV_RAMP, v R.CNV_PED)
  match s.cnv.direct with
  | some d =>
    if d.1 < s.tt.rp0 then own
    else if conv < d.1 then
      if prev then ((s.pix.prevOv.get? R.CNV_RAMP).getD d.2.1, (s.pix.prevOv.get? R.CNV_PED).getD d.2.2) else d.2
    else (s.reg R.CNV_RAMP, s.reg R.CNV_PED)
  | none => own

/-- The settings of the frame before the one being read. -/
def State.prevView (s : State) : View := s.live.over s.pix.prevOv

/-- A row sample's frame, its settings, its effective D_S, and the time of that frame's RP 0. -/
def State.rowFrame (s : State) (prev : Bool) : Nat × View × Nat × Nat :=
  if prev then
    let v := s.prevView
    ((s.tt.fn + 2 ^ 32 - 1) % 2 ^ 32, v, s.exp.dsPrev, s.tt.rp0 - 16 * s.tt.vPrev * rpRaw v)
  else (s.tt.fn, s.live, s.effNow, s.tt.rp0)

/-- The RP of the frame being read at which a sample's window begins, as an offset from that frame's RP 0; a window of the frame
before counts from its own RP 0. -/
def State.windowTime (s : State) (r : RowSample) : Option (Int × Nat) :=
  let (_, v, eff, rp0) := s.rowFrame r.prev
  match readIndex (blockRows (winRects v)) r.row with
  | none => none
  | some i => (sweepRp (readSweeps v) i).map (fun p =>
    let n := sampleWindow v eff i p r.sample
    if r.prev && decide ((s.tt.vPrev : Int) ≤ n) then (n - s.tt.vPrev, s.slotTime (16 * (n - s.tt.vPrev)))
    else (n, onCycle ((rp0 : Int) + 16 * n * (rpRaw v : Int)).toNat))

/-- When the conversion of a sample starts whose window begins at RP n, at `at_` (R58). -/
def State.convTime (s : State) (r : RowSample) (v : View) (n : Int) (at_ : Nat) : Nat :=
  if r.prev && decide (at_ < s.tt.rp0) then
    let c := conversionRp (vW v) s.tt.vPrev n
    if (s.tt.vPrev : Int) ≤ c then s.slotTime (16 * (c - s.tt.vPrev)) else at_ + 16 * (c - n).toNat * rpRaw v
  else at_ + 16 * (conversionRp (vW v) s.tt.vcur n - n).toNat * s.rpNow

/-- The codes of a row sample, in ascending x from -24 (R57, R62). -/
def State.rowCodes (s : State) (mask sample : Nat) (n : Int) (ped : Nat) (ramp : Word) (flips : List (Nat × Nat)) : List Nat :=
  let c := converterOf mask sample (windowSet (windowsOf (maskCount mask)) n)
  let g := 2 ^ bits ramp (2 * sample) 2
  ((List.range flips.length).zip flips).map (fun p => codeOf (s.reg (corrKey (4 * p.1 + c))) g ped p.2.1 p.2.2)

/-- Whether the reference check acts (R77). -/
def State.refCheckOn (s : State) : Bool := s.tst F.CNV_CTRL_REF_CHECK_EN || !(s.sys.mode == 8 || s.sys.mode == 0xA)

/-- Whether a reference code of a row lies beyond TOL (R64, R65). -/
def refFails (row ped tol : Nat) (codes : List Nat) : Bool :=
  (List.range 16).any (fun q =>
    let d := codes.getD (if q < 8 then q else 4128 + q) 0
    let e := ped + 240 * (2 * ((q + row) % 8) + 1)
    decide (tol < (if d ≤ e then e - d else d - e)))

/-- A read window of a row of the frame being read, begun at RP n, captures samples (R56): each converter assigned to one fills the next
of its three banks. The levels are the array's own; what they convert to comes with CONVERSION_CYCLE. -/
def State.fillBanks (s : State) (row : Nat) (n : Int) (samples : List Nat) : State :=
  let mask := vMask s.live
  (samples.filter (fun x => mask.testBit x)).foldl (fun (t : State) x =>
    let c := converterOf mask x (windowSet (windowsOf (maskCount mask)) n)
    let b := t.cnv.turn.getD c 0
    { t with cnv := { t.cnv with
      turn := t.cnv.turn.set c ((b + 1) % 3),
      banks := t.cnv.banks.filter (fun h => !(h.conv == c && h.bank == b)) ++ [⟨c, b, s.tt.fn, row, x⟩] } }) s

/-- A sample is converted: its bank is free again (R56). -/
def State.freeBank (s : State) (fn row sample : Nat) : State :=
  { s with cnv := { s.cnv with banks := s.cnv.banks.filter (fun h => !(h.fn == fn && h.row == row && h.sample == sample)) } }

/-- One row and sample on the sample bus (R61 to R65, R69, R72, R74, R355): its codes and its tag. A row whose tag fails its check is
kept with no codes. -/
def State.convertRow (s : State) (r : RowSample) : State :=
  let (fn, v, _, _) := s.rowFrame r.prev
  match s.windowTime r with
  | none => s
  | some (n, at_) =>
    let inNext := r.prev && decide (s.tt.rp0 ≤ at_)
    let conv := s.convTime r v n at_
    let (ramp, pedW) := s.rampAt (if inNext then s.live else v) (r.prev && !inNext) conv
    let ped := bits pedW 0 8
    let mask := vMask v
    let codes := s.rowCodes mask r.sample n ped ramp r.flips
    let c := converterOf mask r.sample (windowSet (windowsOf (maskCount mask)) n)
    let bad := (List.range 4144).any (fun j => bit (s.reg (corrKey (4 * j + c))) 30)
    let refBad := (List.range 16).any (fun q => bit (s.reg (corrKey (4 * (if q < 8 then q else 4128 + q) + c))) 30)
    let fail := s.refCheckOn && (refBad || refFails r.row ped (s.rd F.CNV_REFCHK_TOL) codes)
    let invalid := s.cnv.invRows.contains (fn, r.row) || (s.clk.plls.getD 1 ⟨2, 0, false, 0, false⟩).state == 1
    let tag := w32 (r.row + r.sample * 2 ^ 13 + flag invalid * 2 ^ 15 + flag fail * 2 ^ 16 +
      flag (r.flips.any (fun f => f.1 == 256)) * 2 ^ 17 + flag bad * 2 ^ 18 + flag (codes.contains 4095) * 2 ^ 19 +
      bits ramp (2 * r.sample) 2 * 2 ^ 20 + fn % 256 * 2 ^ 24)
    let runLen := if fail then s.cnv.refRun.getD r.sample 0 + 1 else 0
    let t := s.freeBank fn r.row r.sample
    let t := { t with cnv := { t.cnv with refRun := t.cnv.refRun.set r.sample runLen, refFailed := t.cnv.refFailed || fail } }
    let t := if fail then t.bump F.CNV_REFFAIL_COUNT else t
    let t := if fail && decide (max 1 (t.rd F.CNV_REFCHK_FAIL_ROWS) ≤ runLen) then
        let u := t.faultC 2
        if u.saf.chainCard then u else State.card { u with saf := { u.saf with chainCard := true } } 0x0E 0xFF []
      else t
    if r.tagGood then
      State.addRow (t.quizCheck fn r.row ped codes) fn r.row r.sample tag c (ped, bits ramp (2 * r.sample) 2) codes
    else
      let t := t.bump F.STA_TAGERR_COUNT
      let t := t.addRow fn r.row r.sample (w32 (r.row + r.sample * 2 ^ 13 + 2 ^ 15 + fn % 256 * 2 ^ 24)) c
        (ped, bits ramp (2 * r.sample) 2) []
      if r.prev then
        { t with out := { t.out with tallyPrev := { t.out.tallyPrev with tagErr := t.out.tallyPrev.tagErr + 1 } } }
      else { t with out := { t.out with tally := { t.out.tally with tagErr := t.out.tally.tagErr + 1 } } }

/-- When the conversion cycle that brings row samples ends: 4.0 µs after its start (R58, R61). -/
def State.cycleEnd (s : State) (rows : List RowSample) : Nat :=
  rows.foldl (fun t r =>
    match s.windowTime r with
    | none => t
    | some (n, at_) =>
      let (_, v, _, _) := s.rowFrame r.prev
      max t (s.convTime r v n at_ + us 4)) 0

/-! ### Bad converters -/

/-- The converters marked bad in the table in force, ascending. -/
def State.badList (s : State) : List Nat :=
  (s.mem.filter (fun p => decide (corrKey 0 ≤ p.1) && decide (p.1 < corrKey converters) && bit p.2 30)).map (fun p => p.1 - corrKey 0)

/-- Whether two of a rising list of converters lie in columns less than 3 apart. -/
def closePair : List Nat → Bool
  | a :: b :: l => decide (b / 4 < a / 4 + 3) || closePair (b :: l)
  | _ => false

/-- CNV_BAD as the table in force has it (R69, R83). -/
def State.countBad (s : State) : State :=
  let l := s.badList
  let inner := l.filter (fun n => decide (32 ≤ n) && decide (n < 16544))
  s.setReg R.CNV_BAD (w32 (l.length + flag (decide (8 < inner.length) || closePair l) * 2 ^ 31))

/-- The converters last marked bad recorded (R84). Of several that are marked at once the one with the highest number is taken as the
last: DESIGN CHOICE, assumption 63. -/
def State.noteBad (s : State) (marked : List Nat) : State :=
  match marked.getLast? with
  | some n => s.setReg R.CNV_BADLAST (w32 (n / 4 + n % 4 * 2 ^ 16 + 2 ^ 31))
  | none => s

/-! ### Calibration -/

/-- The entry that a calibration finds from the sums of `n` conversions at VLO and at VHI (R66). Where the mean at VHI does not exceed
the one at VLO the law states no result: the converter is bad with O = G = 0; and G and O beyond the widths of their fields are cut to
them, in an entry that is bad anyway. DESIGN CHOICE, assumption 63. -/
def calEntry (n : Nat) (p : Int × Int) : Word :=
  let d := p.2 - p.1
  if d ≤ 0 then w32 (2 ^ 30)
  else
    let g := roundI ((2880 * (n : Int) - d) * 16384) d.toNat
    let o := roundI (p.1 * (16384 + g) * 64 - 480 * 64 * 16384 * (n : Int)) (n * 16384)
    w32 (unsigned 16 o + unsigned 12 g * 2 ^ 16 + flag (decide (2047 < g.natAbs) || decide (8188 < o.natAbs)) * 2 ^ 30)

/-- A table found by a calibration put in force: the converters are as bad as it finds them (R69), in the entries that wait for the next
frame too. -/
def State.setTable (s : State) (ws : List Word) : State :=
  let t := s.setRun (corrKey 0) ws
  let marked := ((List.range ws.length).zip ws).filterMap (fun p => if bit p.2 30 then some p.1 else none)
  State.countBad (State.noteBad { t with cnv := { t.cnv with
    next := t.cnv.next.map (fun p => (p.1, putBits p.2 30 1 (bits (ws.getD (p.1 - corrKey 0) 0#32) 30 1))),
    trackMiss := [], quizMiss := [] } } marked)

/-- A write of CNV_CAL (R67, R82). -/
def wrCnvCal (v : Word) (s : State) : WRes × State :=
  let t := s.wr F.CNV_CAL_AVG_LOG2 (clampN 5 12 (bits v 8 4))
  let t := if bit v 2 then t.wr F.CNV_CAL_DONE 0 else t
  if bit v 0 ∧ t.sys.mode = 8 ∧ !t.cnv.calBusy then
    (.ok, State.wr { t with cnv := { t.cnv with calBusy := true, calAt := t.tt.clk } } F.CNV_CAL_ERR 0)
  else (.ok, t)

/-- CNV_CAL_START (R67). -/
def execCnvCalStart (value : Word) (s : State) : Host.Outcome State Fault Refusal := .next (s.keepQueue (wrCnvCal value s).2)

/-- Whether the frame being read is in its blanking (R98): every row of the read set has begun. With no frame there is no row to
disturb. -/
def State.inBlanking (s : State) : Bool := !s.tt.run || decide (16 * (sweepEnd (readSweeps s.live) + 1) ≤ (s.pos : Int))

/-- A complete shadow table copied into the table in one step, and DONE set (R67). -/
def State.calCopy (s : State) : State :=
  match s.cnv.shadow with
  | some ws => State.wr (State.setTable { s with cnv := { s.cnv with shadow := none } } ws) F.CNV_CAL_DONE 1
  | none => s

/-- CALIBRATION_COMPLETE (R67): the shadow table is complete; it is copied in the first frame blanking. AVG_LOG2 is taken as it stands
now, also where it was written while the calibration ran: DESIGN CHOICE, assumption 63. -/
def execCalibrationComplete (sums : List (Int × Int)) (s : State) : Host.Outcome State Fault Refusal :=
  .next (s.keepQueue (
    if !s.cnv.calBusy then s
    else
      let n := 2 ^ s.rd F.CNV_CAL_AVG_LOG2
      let t := s.elapse (us (8 * n) + s.cnv.calAt)
      let t : State := { t with cnv := { t.cnv with calBusy := false, shadow := some (sums.map (calEntry n)) } }
      if t.inBlanking then t.calCopy else t))

/-- CALIBRATION mode is left while a calibration runs (R67): what it wrote so far is discarded. -/
def State.calAbort (s : State) : State :=
  if s.cnv.calBusy then State.wr { s with cnv := { s.cnv with calBusy := false } } F.CNV_CAL_ERR 1 else s

/-- The quick calibration (R66). -/
def State.quickCalDone (s : State) (sums : List (Int × Int)) : State := s.setTable (sums.map (calEntry 32))

/-! ### Tracking -/

/-- The RP at which tracking begins in a frame (R68): the first conversion start after every conversion of its last row has ended, that
of its short sample among them. -/
def trackStart (v : View) (eff : Nat) : Nat :=
  let last := sweepEnd (readSweeps v)
  let done := fun (n : Int) => (conversionStart (vW v) n + vW v).toNat
  match sweepRow (readSweeps v) last with
  | some i => if vShort v then max (done last) (done (sampleWindow v eff i last 3)) else done last
  | none => done last

/-- The move of O in 1/64 count and whether the mean lies more than 32 counts from 480 (R68, R69). The mean that is compared is that of
the counts corrected by G and O, without the pedestal: DESIGN CHOICE, assumption 63. -/
def trackMove (entry : Word) (sum : Int) : Int × Bool :=
  let o := signed 16 (bits entry 0 16)
  let g := signed 12 (bits entry 16 12)
  -- the error of the mean in 2^-14 of 1/64 count
  let e := sum * (16384 + g) * 32 - (o + 30720) * 16384
  (clampI (-64) 64 (roundI e (16 * 16384)), decide (2048 * 16384 < e.natAbs))

/-- One converter tracked: its new entry, and its consecutive misses. An entry that was written for the next frame (R71) keeps the O
and G written. -/
def State.trackOne (s : State) (n : Nat) (sum : Int) : (Nat × Word) × (Nat × Nat) :=
  let live := s.reg (corrKey n)
  let w := (s.cnv.next.get? (corrKey n)).getD live
  let m := trackMove live sum
  let misses := if m.2 then (match s.cnv.trackMiss.find? (fun p => p.1 == n) with
    | some p => p.2 + 1
    | none => 1) else 0
  let w' := if bits w 0 28 = bits live 0 28 then putBits w 0 16 (unsigned 16 (signed 16 (bits w 0 16) + m.1)) else w
  ((corrKey n, if 4 ≤ misses then putBits w' 30 1 1 else w'), (n, misses))

/-- Every converter's entry after its move, for the next frame, with the misses that go on; newly bad converters are noted (R68, R69). -/
def State.trackAll (s : State) (sums : List Int) : State :=
  let all := ((List.range sums.length).zip sums).map (fun p => s.trackOne p.1 p.2)
  let changed := (all.map (fun p => p.1)).filter (fun p => s.reg p.1 != p.2)
  let marked := changed.filterMap (fun p => if bit p.2 30 && !bit (s.reg p.1) 30 then some (p.1 - corrKey 0) else none)
  State.noteBad { s with cnv := { s.cnv with
    next := changed.foldl (fun o p => o.put p.1 p.2) s.cnv.next,
    trackMiss := (all.map (fun p => p.2)).filter (fun p => p.2 != 0) } } marked

/-- OFFSET_TRACKING (R68, R69): every converter converts VLO twice in the frame's blanking. A frame that skips its tracking neither
counts among the 4 consecutive frames of R69 nor breaks them: DESIGN CHOICE, assumption 63. -/
def execOffsetTracking (sums : List Int) (s : State) : Host.Outcome State Fault Refusal :=
  .next (s.keepQueue (
    if !s.tt.run || !streamingMode s.sys.mode || !s.tst F.CNV_CTRL_TRACK_EN || s.cnv.tracked then s
    else
      let start := trackStart s.live s.effNow
      let t := { s with cnv := { s.cnv with tracked := true } }
      if s.tt.vcur < start + 2 * vW s.live then t.bump F.CNV_TRKSKIP_COUNT
      else
        (t.toSlot (start + 2 * vW s.live) 0).trackAll sums))

/-- The quizzes of a frame against R69: the converters of a block that failed twice in a row are bad from the next frame on. -/
def State.quizConverters (s : State) (fn : Nat) : State :=
  match s.sec.quizzes.find? (fun q => q.fn == fn) with
  | none => s
  | some q =>
    let nums := fun (b : QuizBlock) => (List.range 16).map (fun i => 4 * (24 + 4 * b.bx) + i)
    (q.blocks.filter (fun b => b.read)).foldl (fun t b =>
      (nums b).foldl (fun u n =>
        let misses := if b.pass then 0 else (match u.cnv.quizMiss.find? (fun p => p.1 == n) with
          | some p => p.2 + 1
          | none => 1)
        let l := u.cnv.quizMiss.filter (fun p => p.1 != n)
        let u := { u with cnv := { u.cnv with quizMiss := if misses = 0 then l else (n, misses) :: l } }
        if misses < 2 || bit (u.reg (corrKey n)) 30 then u
        else
          let w := match u.cnv.next.get? (corrKey n) with
            | some w => w
            | none => u.reg (corrKey n)
          State.noteBad { u with cnv := { u.cnv with next := u.cnv.next.put (corrKey n) (putBits w 30 1 1) } } [n]) t) s

/-- What a frame start changes of the converters (R66 to R71, R74, R660): entries that waited for the frame, a shadow table that no
blanking has copied yet, the rows flagged INVALID before the frame that ended, and the converter faults of that frame. -/
def State.cnvFrame (s : State) : State :=
  let s := s.calCopy
  let t := s.cnv.next.foldl (fun u p => u.setReg p.1 p.2) s
  let kept := fun (p : Nat × Nat) => p.1 == t.tt.fn || fnNext p.1 == t.tt.fn
  let t := { t with cnv := { t.cnv with next := [], tracked := false, invRows := t.cnv.invRows.filter kept } }
  let t := t.countBad
  let t := if t.tst F.CNV_BAD_FAULT then t.faultC 3 else t.faultEnd 3
  let t := if t.cnv.refFailed then t else t.faultEnd 2
  { t with cnv := { t.cnv with refFailed := false } }

/-! ### The table and direct writes -/

/-- A TABLE_WRITE of CNV.CORR (R71): only in CALIBRATION; the entries apply from the next frame, and BAD stays. -/
def tblCorr (start : Nat) (ws : List Word) (s : State) : WRes × State :=
  if s.checkMode ≠ 8 then (.refuse 5 0 0, s)
  else if s.cnv.calBusy then (.refuse 8 0 0, s)
  else
    let put := fun (o : Overlay) (p : Nat × Word) =>
      let k := corrKey (start + p.1)
      o.put k (putBits (keepMask p.2 0x0FFFFFFF) 30 1 (bits ((o.get? k).getD (s.reg k)) 30 1))
    (.ok, { s with cnv := { s.cnv with next := ((List.range ws.length).zip ws).foldl put s.cnv.next } })

/-- The words of CNV.CORR that a TABLE_READ returns: SHADOW while a full calibration runs (R71). -/
def readCorr (start n : Nat) (s : State) : List Word :=
  (s.run (corrKey start) n).map (fun w => putBits w 31 1 (flag s.cnv.calBusy))

/-- The rows that a direct write at RP boundary n flags (R74): those whose window began before it and whose conversion ends after
it, and the next 2 whose windows begin at or after it. -/
def State.directRows (s : State) (n : Nat) : List (Nat × Nat) :=
  let w := vW s.live
  let rows := readRows (blockRows (winRects s.live))
  let rowAt := fun (m : Nat) => (sweepRow (readSweeps s.live) m).map (fun i => rows.getD i 0)
  let late := fun (m : Nat) => decide ((16 * n * s.tt.rpCur : Int) < 16 * conversionStart w m * s.tt.rpCur + us 4)
  let before := ((List.range n).drop (n - 3 * w)).filterMap (fun m => if late m then rowAt m else none)
  let after := (((List.range (s.tt.vcur - n)).filterMap (fun i => rowAt (n + i))).take 2).map (fun r => (s.tt.fn, r))
  before.map (fun r => (s.tt.fn, r)) ++ (after ++ [(fnNext s.tt.fn, 0), (fnNext s.tt.fn, 1)]).take 2

/-- A write of CNV_RAMP or CNV_PED (R74, R76): staged, or with DIRECT in force from slot 0 of the next RP. With no frame running a
direct write acts at once and flags no row: DESIGN CHOICE, assumption 63. -/
def wrCnvRamp (a : Nat) (v : Word) (s : State) : WRes × State :=
  if !s.tst F.CNV_CTRL_DIRECT then (.ok, s.stage a (keepMask v 0xFF))
  else if !s.tt.run then (.ok, s.setReg a (keepMask v 0xFF))
  else
    let n := s.pos / 16 + 1
    let at_ := s.tt.rp0 + 16 * n * s.tt.rpCur
    let same := match s.cnv.direct with
      | some d => d.1 == at_
      | none => false
    if same then (.ok, s.setReg a (keepMask v 0xFF))
    else
      let rows := s.directRows n
      let t := { s with cnv := { s.cnv with
        direct := some (at_, s.reg R.CNV_RAMP, s.reg R.CNV_PED), invRows := s.cnv.invRows ++ rows } }
      (.ok, (t.bumpBy F.CNV_INVCNT_COUNT rows.length).setReg a (keepMask v 0xFF))

end Sys2Proof.Machine
end

