-- ==== Sys2Proof/Machine/Pixels.lean ====
section
/-!
DEFINITION. Pipeline A up to the merge (R146, R147, R225, R232, R233, R258 to R264, R190): the pixels of a frame from the rows on the
logic die, their merged value M, motion, and the fill of the Seating Plan; then the region of R260 and the histories of temporal
noise reduction (R270, R271).
-/

namespace Sys2Proof.Machine

open Sys2Proof (Word)

/-- The nearest whole number to a fraction, a tie away from zero. -/
def roundRat (q : Rat) : Int := roundI q.num q.den

/-- A fraction limited to 0..1. -/
def clamp01 (q : Rat) : Rat := if q < 0 then 0 else if 1 < q then 1 else q

/-! ### Codes -/

/-- Whether the code of an active pixel is sent on the sample bus (R225). -/
def sentAt (ws : List WinRect) (x y : Nat) : Bool :=
  ws.any (fun w => w.selects (y / 4) && decide (w.bx0 ≤ x / 4) && decide (x / 4 < w.bx0 + w.bw))

/-- The row and sample of a frame on the logic die. -/
def State.rowOf (s : State) (fn y sample : Nat) : Option RowCodes :=
  s.pix.rows.find? (fun r => r.fn == fn && r.row == y + 48 && r.sample == sample)

/-- Whether a row's codes may be used: it is on the die, and neither INVALID nor without codes (R74, R355). -/
def usable : Option RowCodes → Bool
  | some r => !bit r.tag 15 && !r.codes.isEmpty
  | none => false

/-- The code of a sample of an active pixel as sent, 0 where there is none. -/
def codeAt (ws : List WinRect) (codes : Array Nat) (x y : Nat) : Nat := if sentAt ws x y then codes.getD (x + 24) 0 else 0

/-- Whether the converter that took a pixel's sample is marked bad (R69). -/
def State.convBad (s : State) (r : Option RowCodes) (x : Nat) : Bool :=
  match r with
  | some c => bit (s.reg (corrKey (4 * (x + 24) + c.conv))) 30
  | none => false

/-- The member rows of a row of the (binned) mosaic in a sample; none unless all of them are on the logic die and may be used: a binned
row is sent once all of them have been converted, and is INVALID where one of them is (R233). -/
def State.binRows (s : State) (v : View) (fn y sample : Nat) : Option (List RowCodes) :=
  let rs := (members v y).map (fun z => s.rowOf fn z sample)
  if rs.all usable then some (rs.filterMap id) else none

/-- The OR of bits [19:15] of the tags of array rows, in some samples (R233, R354). -/
def State.tagOr (s : State) (fn : Nat) (ys samples : List Nat) : Nat :=
  ys.foldl (fun a y => samples.foldl (fun a i =>
    match s.rowOf fn y i with
    | some r => a ||| bits r.tag 15 5
    | none => a) a) 0

/-- The codes of a sample along a row of the (binned) mosaic: filter colour, code, and whether its converter is bad. -/
def State.rowCells (s : State) (v : View) (ws : List WinRect) (fn y sample : Nat) : List (Nat × Nat × Bool) :=
  let rs := ((s.binRows v fn y sample).getD []).map (fun r => (r.row - 48, r, r.codes.toArray))
  (List.range (4096 / binDiv v)).map (fun x =>
    let xs := members v x
    (colourAt x y, binCode (rs.flatMap (fun r => xs.map (fun xx => codeAt ws r.2.2 xx r.1))),
      rs.any (fun r => xs.any (fun xx => sentAt ws xx r.1 && s.convBad (some r.2.1) xx))))

/-- The nearest valid code of each place's own colour before it, along a row. -/
def lastValid : List (Nat × Nat × Bool) → List (Option Nat) → List (Option Nat)
  | [], _ => []
  | (c, d, _) :: l, acc => acc.getD c none :: lastValid l (if d ≠ 0 ∧ d ≠ 4095 then acc.set c (some d) else acc)

/-- Twice the codes of a row after column fill (R262). -/
def fillRow (cells : List (Nat × Nat × Bool)) : List Nat :=
  let left := lastValid cells [none, none, none, none]
  let right := (lastValid cells.reverse [none, none, none, none]).reverse
  (cells.zip (left.zip right)).map (fun p =>
    if p.1.2.1 = 0 ∧ p.1.2.2 = true then
      match p.2.1, p.2.2 with
      | some a, some b => a + b
      | some a, none => 2 * a
      | none, some b => 2 * b
      | none, none => 0
    else 2 * p.1.2.1)

/-! ### The merge -/

/-- q of a sample: e⁻ per count at gain 1 (R146). -/
def qOf (sample : Nat) : Rat := if sample = 0 then 130208 / 100000 else if sample = 1 then 651042 / 100000 else 125 / 4

/-- The linearisation curve of a sample (R263). -/
def linearise (v : View) (sample : Nat) (c : Rat) : Rat :=
  if vtst v F.PA_CTRL_LIN_EN then
    let i := (clampI 0 31 (c / 128).floor).toNat
    let k := fun (j : Nat) => (bits (v (wkey 0x0A00 (33 * sample + j))) 0 16 : Nat)
    let a : Rat := k i
    let b : Rat := k (i + 1)
    (a + (b - a) * (c - 128 * i) / 128) / 8
  else c

/-- A sample of a pixel: twice its code, its code above black, that value linearised, and its ramp gain. -/
structure SamplePx where
  sample : Nat
  d2 : Nat
  c : Rat
  lin : Rat
  g : Nat

/-- Whether a sample is valid (R146). -/
def SamplePx.valid (p : SamplePx) : Bool := p.d2 != 0 && p.d2 != 8190

/-- T and W of a sample handing over (R175). -/
def handover (v : View) (sample : Nat) : Nat × Nat :=
  let w := v (R.EXP_MTH_HCG + sample)
  (bits w 0 12, bits w 16 8)

/-- The weight of a sample against the next one. -/
def SamplePx.weight (v : View) (p : SamplePx) : Rat :=
  let (t, w) := handover v p.sample
  if w = 0 then (if p.c < t then 1 else 0) else clamp01 ((t - p.c) / w)

/-- What the merge makes of a pixel. -/
structure Merged where
  m : Nat
  missing : Bool
  motion : Bool
  low : Bool

/-- The handover to the short sample (R146, R147): e, and whether the pixel moves. -/
def toShort (v : View) (rs vs e : Rat) (short : SamplePx) (black : Rat) (w : Rat) : Rat × Bool :=
  if w < 1 then
    let ns := short.lin * (125 / 4) / short.g
    let k : Rat := max 1 (fld v F.EXP_MOTION_K)
    let d := vs - e
    let moving :=
      if ns + 784 < 0 then Config.motionOpen short.d2 black
      else decide (k / 16 * (k / 16) * (rs * rs * (ns + 784)) < d * d)
    if moving then
      ((match fld v F.EXP_MOTION_PREF with
        | 0 => e
        | 1 => vs
        | _ => max vs e), true)
    else (w * vs + (1 - w) * e, false)
  else (w * vs + (1 - w) * e, false)

/-- The merge of one pixel's samples under the placed counts of its block: R146 and R147. -/
def mergePixel (v : View) (rb rs black : Rat) (ps : List SamplePx) : Merged :=
  let val := fun (p : SamplePx) => p.lin * qOf p.sample / p.g * (if p.sample = 3 then rs else 1)
  let longs := (ps.filter (fun p => p.sample != 3 && p.valid)).reverse
  let short := ps.find? (fun p => p.sample == 3 && p.valid)
  let last := ((ps.filter (fun p => p.sample != 3)).getLast?)
  let start : Option (Rat × Bool × Bool × List SamplePx) :=
    match longs, short with
    | [], none => none
    | [], some sp => some (val sp, false, false, [])
    | p :: l, none => some (val p, false, false, l)
    | p :: l, some sp =>
      let r := toShort v rs (val p) (val sp) sp black (p.weight v)
      some (r.1, r.2, r.2 && decide (val sp < val p), l)
  match start with
  | none => ⟨0, true, false, false⟩
  | some (e, motion, low, l) =>
    let e := l.foldl (fun e p => p.weight v * val p + (1 - p.weight v) * e) e
    let e := match short, last with
      | some _, some p =>
        if vtst v F.EXP_MOTION_SATFLOOR && p.d2 == 8190 then
          max e ((4094 - (8190 / 2 - p.c)) * qOf p.sample / p.g)
        else e
      | _, _ => e
    ⟨(clampI 0 (2 ^ 40 - 1) (roundRat (16 * e * rb))).toNat, false, motion, low⟩

/-! ### Pixels of a frame -/

/-- A pixel of the (binned) mosaic of a frame: its place, its filter, whether it is excluded by the static list or its bond group,
M with its flags, whether L reads 4,095, its fill (excluded, SAT, or in 1/16 count, R190) and whether the short sample gave it. -/
structure Px where
  x : Nat
  y : Nat
  colour : Nat
  ex : Bool
  mg : Merged
  satL : Bool
  fill : Option (Option Int)
  est : Bool

/-- A pixel on the static defect list (R267); a listed pixel marks its whole bin. -/
def listed (v : View) (xs ys : List Nat) : Bool :=
  (List.range (fld v F.PA_DEFECT_LEN)).any (fun i =>
    let w := v (wkey 0x0A01 i)
    xs.contains (bits w 0 12) && ys.contains (bits w 12 12))

/-- The settings of a frame that the logic die still holds rows of. -/
def State.viewOf (s : State) (fn : Nat) : View := if fn = s.tt.fn then s.live else s.prevView

/-- The applied index of a block in a frame, 0 before its record (R195). -/
def State.appliedK (s : State) (fn bx by_ : Nat) : Nat :=
  match s.sp.applied.find? (fun r => r.fn == fn && r.by_ == by_) with
  | some r => r.vals.getD bx 0 % 16
  | none => 0

/-- L of a mask: the least sensitive long sample (R190). -/
def lowL (mask : Nat) : Nat := if mask.testBit 2 then 2 else if mask.testBit 1 then 1 else 0

/-- The fill f of a pixel (R190): none where it is excluded, `some none` for SAT; and whether the short sample gave it. -/
def fillOf (mask : Nat) (rs : Rat) (tagL : Word) (ps : List SamplePx) : Option (Option Int) × Bool :=
  match ps.find? (fun p => p.sample == lowL mask) with
  | none => (none, false)
  | some p =>
    if p.valid then (some (some (roundRat (16 * p.lin))), false)
    else if p.d2 = 8190 then
      match ps.find? (fun q => q.sample == 3 && q.valid) with
      | some q => (some (some (roundRat (16 * (q.lin * qOf 3 / q.g * rs * p.g / qOf p.sample)))), true)
      | none => (some none, false)
    else if bit tagL 17 && !bit tagL 18 && !bit tagL 15 then (some none, false)
    else (none, false)

/-- Pixels of row `y` of the (binned) mosaic of a frame: those of the columns `cols`, each with the codes that stage 1 gives it, which are
those of the column `src` names (R260, R262). -/
def State.rowPxOf (s : State) (fn y : Nat) (cols : List Nat) (src : Nat → Nat) : List Px :=
  let v := s.viewOf fn
  let ws := winRects v
  let mask := vMask v
  let ys := members v y
  let y0 := ys.headD 0
  let samples := (List.range 4).filter (fun i => mask.testBit i)
  let cells := (List.range 4).map (fun i => if mask.testBit i then (fillRow (s.rowCells v ws fn y i)).toArray else #[])
  let blacks := (List.range 4).map (fun i => rowBlack v ((s.binRows v fn y i).getD []))
  let gains := (List.range 4).map (fun i => (s.rowOf fn y0 i).elim 1 (fun r => 2 ^ bits r.tag 20 2))
  let tagL := w32 (s.tagOr fn ys [lowL mask] * 2 ^ 15)
  let tl := vTl v
  cols.map (fun x =>
    let xs := members v x
    let x0 := xs.headD 0
    let k := s.appliedK fn (x0 / 4) (y0 / 4)
    let tb := placedLong tl k
    let rb : Rat := (tl : Rat) / tb
    let rs : Rat := (tb : Rat) / placedShort tl k (vQ v)
    let ps := samples.map (fun i =>
      let d2 := (cells.getD i #[]).getD (src x) 0
      let c : Rat := (d2 : Rat) / 2 - blacks.getD i 0
      (⟨i, d2, c, linearise v i c, gains.getD i 1⟩ : SamplePx))
    let f := fillOf mask rs tagL ps
    let out := listed v xs ys || xs.any (fun a => ys.any (fun b => s.bondFailed (a / 4) (b / 4) || s.quizBlock fn (a / 4) (b / 4)))
    ⟨x, y, colourAt x y, out, mergePixel v rb rs (blacks.getD 3 0) ps, ps.any (fun p => p.sample == lowL mask && p.d2 == 8190), f.1, f.2⟩)

/-- Whether a pixel of the (binned) mosaic is sent (R225, R235). -/
def binSent (v : View) (x y : Nat) : Bool := sentAt (winRects v) ((members v x).headD 0) ((members v y).headD 0)

/-- The pixels of row `y` of the (binned) mosaic of a frame that were sent. -/
def State.rowPx (s : State) (fn y : Nat) : List Px :=
  let v := s.viewOf fn
  s.rowPxOf fn y ((List.range (4096 / binDiv v)).filter (fun x => binSent v x y)) id

/-- The rows of the (binned) mosaic that a frame's read set gives, in read order. -/
def mosaicRows (v : View) : List Nat :=
  let ys := (readRows (blockRows (winRects v))).filter (fun r => decide (48 ≤ r))
  if binDiv v = 1 then ys.map (fun r => r - 48)
  else
    let f := binFoot v
    let out := f / binDiv v
    (ys.map (fun r => r - 48)).filterMap (fun y => if y % f < out then some (y / f * out + y % f) else none)

/-- Every pixel of a frame that was sent (R337). -/
def State.framePx (s : State) (fn : Nat) : List Px := (mosaicRows (s.viewOf fn)).flatMap (s.rowPx fn)

/-- The pixels that enter the statistics (R337). -/
def Px.included (p : Px) : Bool := !p.mg.missing && !p.ex

/-! ### When a frame has been converted -/

/-- The last sample that a mask takes. -/
def lastSample (mask : Nat) : Nat := if mask.testBit 3 then 3 else lowL mask

/-- Whether the last row that a frame reads is on the logic die in every sample. -/
def State.framePxDone (s : State) (fn : Nat) : Bool :=
  let v := s.viewOf fn
  match (readRows (blockRows (winRects v))).getLast? with
  | some r => s.pix.rows.any (fun c => c.fn == fn && c.row == r && c.sample == lastSample (vMask v))
  | none => false

/-! ### The region -/

/-- The windows whose smallest rectangle is the region of R260; none where Pipeline A stands idle. -/
def paWindows (v : View) : List WinRect := (winRects v).filter (fun w => w.disp || w.code)

/-- The same-colour neighbours of a place (R265). -/
def neighbours (x y : Nat) : List (Int × Int) :=
  let ring := fun (a b : Int) => [(a, 0), (-a, 0), (0, a), (0, -a), (b, b), (b, -b), (-b, b), (-b, -b)]
  let o : List (Int × Int) :=
    match Config.mosaic with
    | 2 => if colourAt x y = 0 ∨ colourAt x y = 2 then ring 4 2 else ring 2 2
    | 3 => ring 1 1
    | _ => ring 2 2
  o.map (fun d => ((x : Int) + d.1, (y : Int) + d.2))

/-! ### Histories of temporal noise reduction -/

/-- The region of R260: its block columns from and to, and its block rows. -/
def paRegion (v : View) : (Nat × Nat) × List Nat :=
  let l := paWindows v
  ((l.foldl (fun a w => min a w.bx0) 1024, l.foldl (fun a w => max a (w.bx0 + w.bw)) 0), blockRows l)

/-- Whether the SKIP of a window within the region changes (R270): one that is enabled before and after and lies within it. -/
def skipChanges (old new : View) : Bool :=
  let l := paWindows old
  let y0 := l.foldl (fun a w => min a w.by0) 1024
  let y1 := l.foldl (fun a w => max a (w.by0 + w.bh)) 0
  let c := (paRegion old).1
  (winRects old).any (fun w => decide (c.1 ≤ w.bx0 ∧ w.bx0 + w.bw ≤ c.2 ∧ y0 ≤ w.by0 ∧ w.by0 + w.bh ≤ y1) &&
    (winRects new).any (fun u => u.idx == w.idx && u.skip != w.skip))

/-- The width of the region in binned pixels. -/
def paWidth (v : View) : Nat := 4 * ((paRegion v).1.2 - (paRegion v).1.1) / binDiv v

/-- Whether a frame is lit (R275). -/
def State.litFrame (s : State) (fn : Nat) : Bool := s.tt.lit.contains fn

/-- Which history a frame reads: that of lit frames only on -IX by strobe (R271). -/
def State.history (s : State) (v : View) (fn : Nat) : Nat :=
  if Config.mosaic = 2 ∧ fld v F.PA_CTRL_IR_MODE = 2 ∧ s.litFrame fn = true then 1 else 0

/-- j of a frame's history (R268). -/
def State.tnrJ (s : State) (v : View) (fn : Nat) : Nat := s.pix.tnrJ.getD (s.history v fn) 0

/-- Whether a TNR reset takes place at a frame (R270). -/
def tnrReset (first : Bool) (old new : View) : Bool :=
  first || bit (new R.PA_TNR) 31 || (!vtst old F.PA_CTRL_TNR_EN && vtst new F.PA_CTRL_TNR_EN) ||
  paRegion old != paRegion new || skipChanges old new || binDiv old != binDiv new || fld old F.PA_CTRL_IR_MODE != fld new F.PA_CTRL_IR_MODE

/-- A TNR reset (R270): j is 0 and no history is left. -/
def State.tnrClear (s : State) : State := { s with pix := { s.pix with tnrJ := [0, 0], hist := [[], []] } }

/-- The pedestal and the ramp gain of a sample under a view (R261). -/
def blcKeyOf (v : View) (sample : Nat) : Nat × Nat := (bits (v R.CNV_PED) 0 8, bits (v R.CNV_RAMP) (2 * sample) 2)

/-- What a frame start changes of Pipeline A (R261, R270, R281): the frame before was filtered into its history, a reset acts, and
PA_STAT shows the new frame. `before` is that frame and its settings, if one was read; with `anew` the frame resets TNR by itself. -/
def State.paFrame (s : State) (before : Option (Nat × View)) (anew : Bool) : State :=
  let v := s.live
  let s := match before with
    | some (fn, old) =>
      if vtst old F.PA_CTRL_TNR_EN && s.thm.level != 2 && !(paWindows old).isEmpty then
        { s with pix := { s.pix with tnrJ := s.pix.tnrJ.modify (s.history old fn) (fun j => min 3 (j + 1)) } }
      else s
    | none => s
  let reset := match before with
    | some (_, old) => tnrReset anew old v
    | none => true
  let fresh := match before with
    | some (_, old) => paRegion old != paRegion v || binDiv old != binDiv v
    | none => true
  let keys := (List.range 4).map (fun i => if (vMask v).testBit i then s.pix.blcKey.getD i none else some (blcKeyOf v i))
  let s := if reset then s.tnrClear else s
  let s : State := { s with pix := { s.pix with useGrid := !fresh, blcKey := keys } }
  let s := s.wrs [(F.PA_TNR_RESET, 0), (F.PA_STAT_SW, 4 * ceilDiv (paWidth v) 64), (F.PA_STAT_LIT, flag (s.litFrame s.tt.fn)),
    (F.PA_STAT_BLC_HOLD, flag s.pix.held), (F.PA_STAT_SETTLE, 3 - s.tnrJ v s.tt.fn)]
  { s with pix := { s.pix with held := false } }

end Sys2Proof.Machine
end

