-- ==== Sys2Proof/Machine/Stats.lean ====
section
/-!
DEFINITION. Statistics sets (R337 to R348): the zone grid, histograms and row profile of a frame, closing and keeping sets, the push,
and the commands and registers of bank STA.
-/

namespace Sys2Proof.Machine

open Sys2Proof (Word Pkt)

/-! ### A set -/

/-- The log code of the mean of numbers whose sum is `n` over `d` (R340, R341); 0 for none. -/
def logMean (n d : Nat) : Nat := if d = 0 then 0 else Nat.log2 (2 * (n + d) ^ 2048 / d ^ 2048) / 2

/-- The sum of a list. -/
def total (l : List Nat) : Nat := l.foldl (fun a b => a + b) 0

/-- The zone of a pixel (R341). -/
def Px.zone (v : View) (p : Px) : Nat := 64 * ((members v p.y).headD 0 / 64) + (members v p.x).headD 0 / 64

/-- SHARP of a zone's pixels (R341). -/
def sharpOf (ps : List Px) : Nat :=
  let step := if Config.mosaic = 3 then 1 else 2
  total (ps.filterMap (fun p =>
    if p.colour = 1 then
      (ps.find? (fun q => q.y == p.y && q.x == p.x + step)).map (fun q =>
        let a := logCode q.mg.m
        let b := logCode p.mg.m
        if a < b then b - a else a - b)
    else none))

/-- Blocks of a list of pixels with two or more low disagreements (R151). -/
def lowBlocks (v : View) (ps : List Px) : List (Nat × Nat) :=
  let bl := (ps.filter (fun p => p.mg.low)).map (fun p => ((members v p.x).headD 0 / 4, (members v p.y).headD 0 / 4))
  bl.eraseDups.filter (fun b => decide (2 ≤ bl.count b))

/-- The record of a zone from its pixels, those excluded among them (R341). -/
def State.zoneRecord (s : State) (fn : Nat) (v : View) (z : Nat) (all : List Px) : List Word :=
  let ps := all.filter Px.included
  let n := ps.length
  if n = 0 then List.replicate 8 0#32
  else
    let mean := fun (c : Nat) =>
      let l := ps.filter (fun p => p.colour == c)
      logMean (total (l.map (fun p => p.mg.m))) l.length
    let mono := Config.mosaic == 3
    let ksum := total ((List.range 256).map (fun i => s.appliedK fn (16 * (z % 64) + i % 16) (16 * (z / 64) + i / 16)))
    [w32 ((if mono then 0 else mean 0) + mean 1 * 2 ^ 16),
     w32 ((if mono then 0 else mean 2) + (if Config.mosaic = 2 then mean 3 else 0) * 2 ^ 16),
     w32 (roundUp (total (ps.map (fun p => logCode p.mg.m))) n + logCode ((ps.map (fun p => p.mg.m)).foldl max 0) * 2 ^ 16),
     w32 ((ps.filter (fun p => p.satL)).length + n * 2 ^ 16),
     w32 (min (2 ^ 32 - 1) (sharpOf ps)),
     w32 ((ps.filter (fun p => p.mg.motion)).length + (ps.filter (fun p => p.mg.low)).length * 2 ^ 16),
     w32 (ksum + (lowBlocks v all).length * 2 ^ 16), 0#32]

/-- STA.GRID of a frame (R341). -/
def State.gridOf (s : State) (fn : Nat) (px : List Px) : List Word :=
  let v := s.viewOf fn
  (List.range 4096).flatMap (fun z => s.zoneRecord fn v z (px.filter (fun p => p.zone v == z)))

/-- STA.HIST of a frame (R342). -/
def State.histOf (s : State) (fn : Nat) (px : List Px) : List Word :=
  let v := s.viewOf fn
  let x0 := fld v F.STA_ROI_ZX0
  let y0 := fld v F.STA_ROI_ZY0
  let inRoi := fun (z : Nat) => decide (x0 ≤ z % 64) && decide (z % 64 < x0 + fld v F.STA_ROI_ZW) && decide (y0 ≤ z / 64) &&
    decide (z / 64 < y0 + fld v F.STA_ROI_ZH)
  let bins := (px.filter (fun p => p.included && inRoi (p.zone v))).map (fun p => min (logCode p.mg.m / 256) 255)
  (List.range 256).map (fun b => w32 (min (2 ^ 32 - 1) (bins.count b)))

/-- The bin of a code in a sample histogram, under black B (R343). -/
def shistBin (d b : Nat) : Option Nat :=
  if d = 0 then none
  else if d = 4095 then some 63
  else some (min 62 ((d - roundUp b 16) / 64))

/-- STA.SHIST of a frame, from the codes as they were sent (R343). -/
def State.shistOf (s : State) (fn : Nat) : List Word :=
  let v := s.viewOf fn
  let ws := winRects v
  (List.range 4).flatMap (fun sample =>
    if !(vMask v).testBit sample then List.replicate 64 0#32
    else
      let bins := (mosaicRows v).flatMap (fun y =>
        let y0 := (members v y).headD 0
        let b := match s.rowOf fn y0 sample with
          | some r => r.b
          | none => 0
        ((List.range (4096 / binDiv v)).map (fun x =>
          binCode ((members v y).flatMap (fun yy => (members v x).map (fun xx =>
            match s.rowOf fn yy sample with
            | some r => if sentAt ws xx yy then r.codes.getD (xx + 24) 0 else 0
            | none => 0))))).filterMap (fun d => shistBin d b))
      (List.range 64).map (fun i => w32 (bins.count i)))

/-- STA.ROWPROF of a frame (R344). -/
def State.profOf (s : State) (fn : Nat) (px : List Px) : List Word :=
  let v := s.viewOf fn
  let bs := blockRows (winRects v)
  let band := fun (p : Px) => (readIndex bs ((members v p.y).headD 0 + 48)).map (fun i => (i - 48) / 16)
  let g := px.filter (fun p => p.included && p.colour == 1)
  (List.range 256).map (fun i =>
    let l := g.filter (fun p => band p == some i)
    w32 (roundUp (total (l.map (fun p => logCode p.mg.m))) l.length + l.length / 4 * 2 ^ 16))

/-- The set of a frame. -/
def State.statSet (s : State) (fn : Nat) : StatSet :=
  let px := s.framePx fn
  ⟨fn, s.gridOf fn px, s.histOf fn px, s.shistOf fn, s.profOf fn px⟩

/-! ### Parts and the push -/

/-- A part of a set (R348): 0 grid, 1 histogram, 2 sample histograms, 3 row profile. -/
def StatSet.part (t : StatSet) : Nat → List Word
  | 0 => t.grid
  | 1 => t.hist
  | 2 => t.shist
  | _ => t.prof

/-- Packets of a part, 1,024 words each, from word `start` on. -/
def State.pushWords (s : State) (fn part : Nat) : Nat → Nat → List Word → State
  | 0, _, _ => s
  | n + 1, start, ws =>
    if ws.isEmpty then s
    else State.pushWords (s.streamPacket 0x20 8 fn (w32 part :: w32 start :: ws.take 1024)) fn part n (start + 1024) (ws.drop 1024)

/-- A part pushed, or counted where the statistics stream is shed or the lanes carry no streams (R346, R389). -/
def State.pushPart (s : State) (fn part : Nat) (ws : List Word) : State :=
  if s.streamShed 0x20 || !s.canSend then s.bump F.STA_PUSHDROP_COUNT else s.pushWords fn part 33 0 ws

/-- The parts of a closed set that STA_CFG selects pushed in PART order. -/
def State.pushSet (s : State) (t : StatSet) : State :=
  let on := [s.tst F.STA_CFG_PUSH_GRID, s.tst F.STA_CFG_PUSH_HIST, s.tst F.STA_CFG_PUSH_HIST, s.tst F.STA_CFG_PUSH_ROWPROF]
  (List.range 4).foldl (fun u p => if on.getD p false then u.pushPart t.fn p (t.part p) else u) s

/-! ### Closing -/

/-- The first row of a frame opens its set (R338), in the modes in which sets are made (R339). -/
def State.openSet (s : State) (fn : Nat) : State :=
  if s.pix.opened.contains fn || !streamingMode s.sys.mode then s
  else { s with pix := { s.pix with opened := s.pix.opened ++ [fn] } }

/-- A set closed: it is the newest of the last four (R338, R339), and its rows leave the logic die. -/
def State.closeSet (s : State) (fn : Nat) : State :=
  let t := s.statSet fn
  let u := { s with pix := { s.pix with
    closed := (t :: s.pix.closed).take 4, opened := s.pix.opened.filter (fun f => f != fn),
    cut := s.pix.cut.filter (fun f => f != fn), rows := s.pix.rows.filter (fun r => r.fn != fn) } }
  State.pushSet (u.setReg R.STA_LASTFN (w32 fn)) t

/-- The frame whose set closes next: its cut has come and its last row is merged (R338). -/
def State.closing (s : State) : Option Nat := s.pix.opened.find? (fun fn => s.pix.cut.contains fn && s.framePxDone fn)

/-! ### Reading -/

/-- What STA_STAT reads as (R359). -/
def State.viewStat (s : State) : Word :=
  w32 (s.pix.closed.length + s.pix.bclosed.length * 2 ^ 3 + flag (!s.pix.opened.isEmpty) * 2 ^ 6)

/-- The words of a part of the set of an age, with its FN or CFN. -/
def State.statPart (s : State) (age part : Nat) : Option (Nat × List Word) :=
  if part = 4 then s.pix.bclosed[age]? else (s.pix.closed[age]?).map (fun t => (t.fn, t.part part))

/-- The words of a part (R341 to R345). -/
def partWords (part : Nat) : Nat := [32768, 256, 256, 256, 512].getD part 0

/-- Whether a histogram rectangle is refused (R347). -/
def roiBad (w : Word) : Bool :=
  bits w 12 7 == 0 || bits w 19 7 == 0 || decide (64 < bits w 0 6 + bits w 12 7) || decide (64 < bits w 6 6 + bits w 19 7)

/-- STATS_CONFIG (R347). -/
def srvStatsConfig (k : Pkt) (s : State) : Ans × State := s.underLevel <|
  if roiBad (pw k 1) then s.param 0x68
  else
    let t := (s.stage R.STA_CFG (keepMask (pw k 0) 0xF)).stage R.STA_ROI (keepMask (pw k 1) 0x03FFFFFF)
    match t.rateReason with
    | some r => s.param r
    | none => t.ok []

/-- A write of STA_CFG or STA_ROI. -/
def wrSta (a : Nat) (v : Word) (s : State) : WRes × State :=
  if a = R.STA_ROI then (if roiBad v then (.refuse 4 0x68 0, s) else (.ok, s.stage a (keepMask v 0x03FFFFFF)))
  else
    let t := s.stage a (keepMask v 0xF)
    match t.rateReason with
    | some r => (.refuse 4 r 0, s)
    | none => (.ok, t)

/-- STATS_READ (R348). -/
def srvStatsRead (k : Pkt) (s : State) : Ans × State :=
  let part := pf k 0 4 3
  let start := (pw k 1).toNat
  let n := (pw k 2).toNat
  if 5 ≤ part then s.param 0x69
  else if n = 0 ∨ 255 < n ∨ partWords part < start + n then s.param 0x6A
  else match s.statPart (pf k 0 0 2) part with
    | none => s.fin 6 []
    | some (fn, ws) => s.ok (w32 fn :: (ws.drop start).take n)

/-- A TABLE_READ of a statistics window: of the newest closed set (R348), if there is one. -/
def readStat (part start n : Nat) (s : State) : Option (List Word) := (s.statPart 0 part).map (fun p => (p.2.drop start).take n)

end Sys2Proof.Machine
end

