-- ==== Sys2Proof/Machine/Seating.lean ====
section
/-!
DEFINITION. The Seating Plan (R184 to R218, R705): contexts and their check, the issue, the applied-index record, the block statistic, the
update law with its raise, maps, faults, commands and windows.
-/

namespace Sys2Proof.Machine

open Sys2Proof (Word Pkt)

/-! ### Contexts -/

/-- The first of the two words of a block's context (R210). Word 1 holds the check bits as their difference from those that the data
bits call for, so that a context of zeros is consistent. -/
def ctxKey (bx by_ : Nat) : Nat := wkey 0x0700 (2 * (1024 * by_ + bx))

/-- The 40 data bits of a context and the difference of its check bits. -/
def State.ctxBits (s : State) (key : Nat) : Nat × Nat :=
  ((s.reg key).toNat + bits (s.reg (key + 1)) 0 8 * 2 ^ 32, bits (s.reg (key + 1)) 8 8)

/-- A context written with valid check bits. -/
def State.setCtx (s : State) (key data : Nat) : State := s.setRun key [w32 data, w32 (data / 2 ^ 32 % 256)]

/-- The number of ones among the eight check bits. -/
def weight8 (c : Nat) : Nat := ((List.range 8).filter (fun i => c.testBit i)).length

/-- The sets of check bits that a data bit can enter: an odd number of them, three or more, so that no two errors look like one. -/
def ctxSets : List Nat := (List.range 256).filter (fun c => weight8 c % 2 == 1 && decide (3 ≤ weight8 c))

/-- `n` different entries of a list, picked freely. -/
def ctxPicks : Nat → List Nat → List Nat
  | 0, _ => []
  | n + 1, l =>
    let c := l.getD (Config.ctxPick n % l.length) 0
    c :: ctxPicks n (l.erase c)

/-- The check bits that each of the 40 data bits enters (R184): of the codes that correct every single and detect every double error, one
whose columns are of odd weight. -/
def ctxColumns : List Nat := ctxPicks 40 ctxSets

/-- The eight check bits of 40 data bits (R184). -/
def ctxCheck (data : Nat) : Nat :=
  (List.range 40).foldl (fun c i => if data.testBit i then c ^^^ ctxColumns.getD i 0 else c) 0

/-- The data bits that a context stands for: as they are, corrected, or none where the error is uncorrectable (R184). -/
def ctxDecode (data diff : Nat) : Option Nat :=
  if diff = 0 then some data
  else if (List.range 8).any (fun i => diff == 2 ^ i) then some data
  else ((List.range 40).find? (fun i => ctxColumns.getD i 0 == diff)).map (fun i => data ^^^ 2 ^ i)

/-- A context accessed (R203): its data bits, none on an uncorrectable error, with the counts and the context rewritten. -/
def State.readCtx (s : State) (bx by_ : Nat) : Option Nat × State :=
  let key := ctxKey bx by_
  let (data, diff) := s.ctxBits key
  if diff = 0 then (some data, s)
  else
    let mark := fun (t : State) (unc : Bool) =>
      t.setReg R.SP_ECCLAST (w32 (bx + by_ * 2 ^ 16 + flag unc * 2 ^ 30 + 2 ^ 31))
    match ctxDecode data diff with
    | some d => (some d, mark ((s.setCtx key d).bump F.SP_ECC_CORR) false)
    | none =>
      let t := (s.setCtx key 0).bump F.SP_ECC_UNCORR
      (none, mark { t with
        sp := { t.sp with uncorr := t.sp.uncorr + 1 },
        out := { t.out with tally := { t.out.tally with uncorr := t.out.tally.uncorr + 1 } } } true)

/-- The stored index of a context for a frame (R185). -/
def slotOf (data fn : Nat) : Nat := data / 2 ^ (4 * (fn % 2)) % 16

/-- A field of a context's data bits replaced. -/
def putField (data lo len v : Nat) : Nat :=
  data - data / 2 ^ lo % 2 ^ len * 2 ^ lo + v % 2 ^ len * 2 ^ lo

/-- TLREF of the slot for a frame (R187): that of the latest frame of its parity. -/
def State.tlrefOf (s : State) (fn tl : Nat) : Nat :=
  match s.sp.tlref.find? (fun p => p.1 == fn) with
  | some p => p.2
  | none =>
    match s.sp.tlref.find? (fun p => p.1 % 2 == fn % 2) with
    | some p => p.2
    | none => tl

/-- TLREF of the slot for a frame set; the newest comes first. -/
def State.setTlref (s : State) (fn tl : Nat) : State :=
  { s with sp := { s.sp with tlref := (((fn, tl) :: s.sp.tlref.filter (fun p => p.1 != fn)).take 6) } }

/-! ### The LED cap -/

/-- Whether the rule of R150 is active. -/
def ledActive (v : View) : Bool := vtst v F.EXP_FLICKER_LED_EN || fld v F.EXP_CTRL_PROFILE == 0

/-- LED_TLMIN in 10 µs units, at least 11.00 ms in DAYLIGHT (R150). -/
def ledTlMin (v : View) : Nat :=
  if fld v F.EXP_CTRL_PROFILE = 0 then max 1100 (fld v F.EXP_FLICKER_LED_TLMIN) else fld v F.EXP_FLICKER_LED_TLMIN

/-- KCAP of a frame's settings (R151): 15 where no cap holds. -/
def kcapOf (v : View) : Nat :=
  if !ledActive v || ledTlMin v == 0 then 15 else min 15 (floor2log (vTl v * rpRaw v) (ledTlMin v * 12800 * 2 ^ 20))

/-- KCAP of a frame: in a sequence the LED rule applies only to frames with DISP (R161). -/
def State.kcapFor (s : State) (fn : Nat) (v : View) : Nat :=
  match s.seqEntry fn with
  | some w => if bit w 16 then kcapOf v else 15
  | none => kcapOf v

/-! ### The issue -/

/-- The mode in force for a frame. -/
def State.modeFor (s : State) (fn : Nat) : Nat :=
  match s.sys.chg with
  | some c =>
    match c.land with
    | some n => if seqLe n fn then c.target else s.sys.mode
    | none => s.sys.mode
  | none => s.sys.mode

/-- Whether the engine runs in a mode (R200). -/
def spRuns (mode : Nat) : Bool := [0x1, 0x3, 0x4, 0x5, 0x6, 0xB].contains mode

/-- Whether a frame's sequence context has SPMODE GLOBAL (R157). -/
def State.spGlobal (s : State) (fn : Nat) : Bool :=
  match s.seqFrameAt fn with
  | some f => bit f.ctx 9
  | none => false

/-- The mask byte of a block under a view (R196). -/
def maskByte (v : View) (bx by_ : Nat) : Nat := bits (v (wkey 0x0701 ((1024 * by_ + bx) / 4))) (8 * (bx % 4)) 8

/-- Whether the LED cap is on for a block in frame `fn` under LED_SCOPE 1, with LEDHOLD as its context has it (R151): a flag acts from the
second frame after its own, so what the law made of the frame just before does not count yet. -/
def State.ledCapped (s : State) (fn bx by_ hold : Nat) : Bool :=
  match s.sp.ledWas.find? (fun p => p.1 == (fn + 2 ^ 32 - 1) % 2 ^ 32 && p.2.1 == 1024 * by_ + bx) with
  | some p => p.2.2
  | none => hold != 0

/-- The index issued to a block for a frame (R194), as a map byte: K, CAPPED, FALLBACK and FORCED (R201). -/
def State.issueOf (s : State) (fn : Nat) (v : View) (ctx : Option Nat) (bx by_ : Nat) : Nat :=
  let m := maskByte v bx by_
  match ctx with
  | none => 2 ^ 5
  | some d =>
    if s.bondFailed bx by_ then 2 ^ 5
    else if (s.reg R.SAF_ACTIVE).toNat.testBit 11 then 0
    else if !vtst v F.SP_CTRL_EN || s.spGlobal fn || !spRuns (s.modeFor fn) then 2 ^ 6
    else if fld v F.SP_CTRL_ACTION = 2 then fld v F.SP_CTRL_FORCE_K + 2 ^ 6
    else if m % 4 = 2 then 2 ^ 6
    else if m % 4 = 3 then m / 16 + 2 ^ 6
    else
      let a := if vtst v F.SP_CTRL_AE_COMP then round2log (vTl v) (s.tlrefOf fn (vTl v)) else 0
      let k := (clampI 0 (fld v F.SP_LAW_KMAX : Nat) ((slotOf d fn : Nat) + a)).toNat
      let capped := !vtst v F.EXP_FLICKER_LED_SCOPE || s.ledCapped fn bx by_ (d / 2 ^ 8 % 256)
      let kc := if capped then s.kcapFor fn v else 15
      min k kc + flag (decide (kc < k)) * 2 ^ 4

/-- The indices of a block row issued for a frame (R189, R194). -/
def State.issueRow (s : State) (fn by_ : Nat) : State :=
  let v := s.viewFor fn
  let r := (List.range 1024).foldl (fun (a : List Nat × State) bx =>
    let c := a.2.readCtx bx by_
    (c.2.issueOf fn v c.1 bx by_ :: a.1, c.2)) ([], s)
  let t := r.2
  { t with sp := { t.sp with
      issued := ⟨fn, by_, r.1.reverse⟩ :: t.sp.issued.filter (fun b => !(b.fn == fn && b.by_ == by_)) } }

/-- The applied-index record of a block row (R195): each block's index and whether its parity is good. -/
def State.recordRow (s : State) (fn by_ : Nat) (record : List (Nat × Bool)) : State :=
  let sent := match s.sp.issued.find? (fun b => b.fn == fn && b.by_ == by_) with
    | some b => b.vals
    | none => []
  let l := (List.range 1024).map (fun bx =>
    let i := sent.getD bx 0
    let r := record.getD bx (i % 16, true)
    if !r.2 then (i ||| 2 ^ 5, 1, 0)
    else if r.1 % 16 ≠ i % 16 then ((i - i % 16 + r.1 % 16) ||| 2 ^ 5, 0, 1)
    else (i, 0, 0))
  let perr := total (l.map (fun p => p.2.1))
  let mis := total (l.map (fun p => p.2.2))
  let t := (s.bumpBy F.SP_ECHO_PERR perr).bumpBy F.SP_ECHO_MISMATCH mis
  { t with
    sp := { t.sp with
      applied := ⟨fn, by_, l.map (fun p => p.1)⟩ :: t.sp.applied.filter (fun b => !(b.fn == fn && b.by_ == by_)),
      issued := t.sp.issued.filter (fun b => !(b.fn == fn && b.by_ == by_)), echo := t.sp.echo || decide (0 < perr + mis) },
    out := { t.out with tally := { t.out.tally with mismatch := t.out.tally.mismatch + mis } } }

/-! ### The statistic and the law -/

/-- The pixels of a block: of the (binned) mosaic, those whose binFoot reaches into it. -/
def blockPx (v : View) (px : List Px) (bx by_ : Nat) : List Px :=
  px.filter (fun p => (members v p.x).any (fun x => x / 4 == bx) && (members v p.y).any (fun y => y / 4 == by_))

/-- Whether a fill ranks above another: SAT above every number (R190). -/
def fillAbove (a b : Option Int) : Bool :=
  match a, b with
  | none, some _ => true
  | some x, some y => decide (y < x)
  | _, _ => false

/-- A fill put into its place, the largest first, later ones behind equal ones. -/
def fillInsert (a : Option Int × Bool) : List (Option Int × Bool) → List (Option Int × Bool)
  | [] => [a]
  | b :: l => if fillAbove a.1 b.1 then a :: b :: l else b :: fillInsert a l

/-- The block statistic c_top with EST (R190), none where the block has none. -/
def blockStat (rank : Nat) (px : List Px) : Option (Option Int × Bool) :=
  let l := (px.filter (fun p => !p.ex)).filterMap (fun p => p.fill.map (fun f => (f, p.est)))
  (l.foldl (fun acc a => fillInsert a acc) [])[rank]?

/-- What the law makes of a block (R191, R198): the stored index for frame N+2 before the raise, and the context's data bits with the
rest of its fields written. -/
def lawBlock (v : View) (data : Nat) (kN : Nat) (h : Int) (stat : Option (Option Int × Bool)) (held flagged : Bool) : Nat × Nat :=
  let led := data / 2 ^ 8 % 256
  let led' := if flagged then max 1 (fld v F.EXP_FLICKER_LED_HOLD) else led - 1
  let data := putField data 8 8 led'
  let keep := ((clampI 0 15 h).toNat, data)
  match (if held then none else stat) with
  | none => keep
  | some (c, est) =>
    let top := 16 * max 1 (fld v F.SP_LAW_TOP)
    let band := max 4 (fld v F.SP_BAND_BAND)
    let t : Int := (max 1 (fld v F.SP_LAW_TEMPORAL) : Nat)
    let k : Int := (kN : Nat)
    let dn := data / 2 ^ 16 % 4
    let r : Int × Nat :=
      match c with
      | none => (min (max (k + t) h) (h + t), 0)
      | some c =>
        let n := (max c 16).toNat
        let d : Int × Nat :=
          if (top : Int) < c then ((ceil2log n top : Nat), 0)
          else if c < 0 ∨ c.toNat ^ 8 * 2 ^ band < top ^ 8 then
            (if fld v F.SP_LAW_DNDELAY ≤ dn then (-(floor2log top n : Nat), 0) else (0, dn + 1))
          else (0, 0)
        (clampI (h - t) (h + t) (k + d.1), d.2)
    let kc := (clampI 0 (fld v F.SP_LAW_KMAX : Nat) r.1).toNat
    let topField := match c with
      | none => 4095
      | some c => (clampI 0 4094 (roundI c 16)).toNat
    (kc, putField (putField (putField data 16 2 r.2) 18 12 topField) 30 1 (flag est))

/-- Λ (R188). -/
def lambda (v : View) : Nat :=
  min (ceilDiv 15 (max 1 (fld v F.SP_LAW_SPATIAL))) ((vVtotal v - 24) / 4)

/-- Whether Λ is cut short (R188). -/
def laShort (v : View) : Bool :=
  decide (((vVtotal v : Int) - 24) / 4 < (ceilDiv 15 (max 1 (fld v F.SP_LAW_SPATIAL)) : Nat))

/-- Whether a block follows the law and the raise under its settings (R196, R199). -/
def follows (v : View) (bx by_ : Nat) : Bool :=
  maskByte v bx by_ % 4 == 0 && fld v F.SP_CTRL_ACTION != 1 && fld v F.SP_CTRL_ACTION != 2

/-- The raise of a block over the law's values (R192). -/
def raised (v : View) (law : List (List Nat)) (bx by_ : Nat) : Nat :=
  let own := (law.getD by_ []).getD bx 0
  if !follows v bx by_ then own
  else
    let lam := lambda v
    let sp := max 1 (fld v F.SP_LAW_SPATIAL)
    (List.range (2 * lam + 1)).foldl (fun a i =>
      (List.range (2 * lam + 1)).foldl (fun a j =>
        -- block (bx + i - Λ, by + j - Λ)
        let di := if i < lam then lam - i else i - lam
        let dj := if j < lam then lam - j else j - lam
        let x := bx + i - lam
        let y := by_ + j - lam
        if lam ≤ bx + i ∧ lam ≤ by_ + j ∧ x < 1024 ∧ y < 1024 ∧ di + dj ≤ lam ∧ follows v x y = true then
          max a ((law.getD y []).getD x 0 - sp * (di + dj))
        else a) a) own

/-- How many blocks a bin's binFoot spans in each direction (R193, R236). -/
def groupBlocks (v : View) : Nat := max 1 (binFoot v / 4)

/-- The largest raised index of the FOLLOW blocks of a block's group (R193). -/
def grouped (v : View) (rs : List (List Nat)) (bx by_ : Nat) : Nat :=
  let g := groupBlocks v
  let own := (rs.getD by_ []).getD bx 0
  if g = 1 ∨ follows v bx by_ = false then own
  else
    (List.range g).foldl (fun a j => (List.range g).foldl (fun a i =>
      let x := bx / g * g + i
      let y := by_ / g * g + j
      if follows v x y then max a ((rs.getD y []).getD x 0) else a) a) own

/-- The pixels of a frame that reach into a block row. -/
def State.blockRowPx (s : State) (fn by_ : Nat) : List Px :=
  let v := s.viewOf fn
  if (blockRows (winRects v)).contains by_ then
    ((mosaicRows v).filter (fun y => (members v y).any (fun z => z / 4 == by_))).flatMap (s.rowPx fn)
  else []

/-- The law over the next block row of a frame, for frame N+2 (R190, R191, R198, R199): its values, before the raise, join those of the
rows above it, and the contexts' other fields are written. -/
def State.lawRow (s : State) (fn : Nat) : State :=
  let by_ := s.sp.law.length
  let v := s.viewOf fn
  let next := fnNext fn
  let shift := round2log (vTl v) (s.tlrefOf next (vTl v))
  let px := s.blockRowPx fn by_
  let lows := lowBlocks v px
  let q := (List.range 1024).foldl (fun (a : List Nat × State) bx =>
    let c := a.2.readCtx bx by_
    let data := c.1.getD 0
    let stat := if px.isEmpty then none else blockStat (fld v F.SP_LAW_RANK) (blockPx v px bx by_)
    let held := (maskByte v bx by_ % 4 == 1 && fld v F.SP_CTRL_ACTION != 2) || fld v F.SP_CTRL_ACTION == 1
    let l := lawBlock v data (c.2.appliedK fn bx by_) ((slotOf data next : Nat) + shift) stat held (lows.contains (bx, by_))
    let on := fun (d : Nat) => d / 2 ^ 8 % 256 != 0
    let t := if l.2 = data then c.2 else c.2.setCtx (ctxKey bx by_) l.2
    let t : State := if on data == on l.2 then t else
      { t with sp := { t.sp with ledWas := (fn, 1024 * by_ + bx, on data) :: t.sp.ledWas } }
    (l.1 :: a.1, t)) ([], s)
  { q.2 with sp := { q.2.sp with law := q.2.sp.law ++ [q.1.reverse] } }

/-- The next block row of a frame finalised for frame N+2 (R189, R192, R193): raised, grouped, and stored. -/
def State.finaliseRow (s : State) (fn : Nat) : State :=
  let by_ := s.sp.fin
  let v := s.viewOf fn
  let g := groupBlocks v
  let rs := (List.range (by_ / g * g + g)).map (fun y =>
    if y / g = by_ / g then (List.range 1024).map (fun bx => raised v s.sp.law bx y) else [])
  let t := (List.range 1024).foldl (fun u bx =>
    let data := (u.ctxBits (ctxKey bx by_)).1
    let d := putField data (4 * (fn % 2)) 4 (grouped v rs bx by_)
    if d = data then u else u.setCtx (ctxKey bx by_) d) s
  { t with sp := { t.sp with fin := by_ + 1 } }

/-- The block rows above the one that a frame's rows have not yet completed, when the last sample of row `y` has come. -/
def lawUpto (v : View) (y : Nat) : Nat := (y + 1) / max 4 (binFoot v) * max 4 (binFoot v) / 4

/-- The law when the last sample of row `y` of a frame has come (R189): it runs over the block rows that are complete, and those that lie
Λ block rows above are finalised; with the frame's last row it runs to the end. -/
def State.spLaw (s : State) (fn y : Nat) : State :=
  if !spRuns s.sys.mode then s
  else
    let v := s.viewOf fn
    let t := if s.sp.lawFn == some fn then s
      else State.setTlref { s with sp := { s.sp with lawFn := some fn, law := [], fin := 0 } } ((fn + 2) % 2 ^ 32) (vTl v)
    let upto := if t.framePxDone fn then 1024 else lawUpto v y
    let t := iter (fun u => u.lawRow fn) (upto - t.sp.law.length) t
    let g := groupBlocks v
    let fin := if upto = 1024 then 1024 else (upto - lambda v) / g * g
    iter (fun u => u.finaliseRow fn) (fin - t.sp.fin) t

/-! ### Maps -/

/-- The map byte of a block in a map (R201): blocks of rows not read carry FORCED. -/
def mapByte (rows : List BlockRow) (bx by_ : Nat) : Nat :=
  match rows.find? (fun b => b.by_ == by_) with
  | some b => b.vals.getD bx 0
  | none => 2 ^ 6

/-- RAISED and KTOP of block rows (R215). -/
def ksumOf (rows : List BlockRow) : Nat × Nat :=
  let ks := rows.flatMap (fun b => b.vals.map (fun x => x % 16))
  ((ks.filter (fun k => k != 0)).length, ks.foldl max 0)

/-- The applied rows of a frame. -/
def State.appliedRows (s : State) (fn : Nat) : List BlockRow := s.sp.applied.filter (fun b => b.fn == fn)

/-- The map of a frame completed as its set closes (R201); SAT comes from the block statistic. Called before the set's rows go. -/
def State.completeMap (s : State) (fn : Nat) : State :=
  let v := s.viewOf fn
  let px := s.framePx fn
  let bs := blockRows (winRects v)
  let rows := s.appliedRows fn
  if !bs.all (fun b => rows.any (fun r => r.by_ == b)) then s
  else
    let full := (rows.filter (fun r => bs.contains r.by_)).map (fun r =>
      let rowPx := px.filter (fun p => (members v p.y).any (fun y => y / 4 == r.by_))
      { r with vals := ((List.range 1024).zip r.vals).map (fun p =>
          match blockStat (fld v F.SP_LAW_RANK) (blockPx v rowPx p.1 r.by_) with
          | some (none, _) => p.2 ||| 2 ^ 7
          | _ => p.2) })
    let k := ksumOf full
    State.setReg (State.setReg { s with sp := { s.sp with
        maps := ((fn, full) :: s.sp.maps).take 4 } } R.SP_MAPFN (w32 fn))
      R.SP_KSUM (w32 (k.1 + k.2 * 2 ^ 24))

/-! ### Frames -/

/-- The scrubber's visits of a frame (R203). -/
def State.scrub (s : State) : State :=
  let lo := s.sp.scrub
  let hit := s.mem.filterMap (fun p =>
    if wkey 0x0700 (2 * lo) ≤ p.1 ∧ p.1 < wkey 0x0700 (2 * (lo + 16384)) ∧ p.1 % 2 = 1 ∧ 256 ≤ p.2.toNat then
      some ((p.1 - wkey 0x0700 0) / 2) else none)
  let t := hit.foldl (fun u i => (u.readCtx (i % 1024) (i / 1024)).2) s
  { t with sp := { t.sp with scrub := (lo + 16384) % 1048576 } }

/-- The end of a frame for the Seating Plan (R204): its fault is judged, and the counts begin again. -/
def State.spFrameEnd (s : State) : State :=
  let run := if s.sp.echo then s.sp.echoRun + 1 else 0
  let bad := decide (max 1 (s.rd F.SP_FAULT_UNCORR_TH) < s.sp.uncorr) || decide (max 1 (s.rd F.SP_FAULT_ECHO_TH) ≤ run)
  let t := { s with sp := { s.sp with echoRun := run, echo := false, uncorr := 0 } }
  let t := t.wr F.SP_FAULT_FAULT (flag bad)
  if bad then t.faultC 11 else t.faultEnd 11

/-- A frame start for the Seating Plan: TLREF of both slots at the first frame after a start (R186), one scrub in every mode (R203), and
what belongs to frames long past dropped. -/
def State.spFrame (s : State) (first : Bool) : State :=
  let t := (if first then (s.setTlref 1 (vTl s.live)).setTlref 0 (vTl s.live) else s).scrub
  let recent := fun (fn : Nat) => seqLe ((t.tt.fn + 2 ^ 32 - 2) % 2 ^ 32) fn
  { t with sp := { t.sp with issued := t.sp.issued.filter (fun b => recent b.fn), applied := t.sp.applied.filter (fun b => recent b.fn),
                             ledWas := t.sp.ledWas.filter (fun p => recent p.1) } }

/-- Whether an overlay changes the mask in force (R197). -/
def State.maskChanges (s : State) (o : Overlay) : Bool :=
  o.any (fun p => decide (wkey 0x0701 0 ≤ p.1) && decide (p.1 < wkey 0x0701 262144) && s.reg p.1 != p.2)

/-! ### Registers -/

/-- What SP_STAT reads as (R214). -/
def State.viewSpStat (s : State) : Word :=
  let v := s.live
  let act := fld v F.SP_CTRL_ACTION
  w32 (flag (s.sys.phase == .run && spRuns s.sys.mode) + flag (act == 1 || act == 2) * 2 + flag (laShort v) * 4 + lambda v * 8 +
    s.rd F.SP_STAT_MASKGEN * 256)

/-- A write of a register of bank SP (R211 to R218). -/
def wrSp (a : Nat) (v : Word) (s : State) : WRes × State :=
  if a = R.SP_LAW then (.ok, s.stage a (putBits (keepMask v 0x0FFFFFFF) 16 12 (min 3839 (bits v 16 12))))
  else if a = R.SP_CTRL then (.ok, s.stage a (keepMask v 0xFF))
  else if a = R.SP_BAND then (.ok, s.stage a (keepMask v 0x3F))
  else if a = R.SP_ECC ∨ a = R.SP_ECHO then (.ok, if bit v 31 then s.setReg a 0#32 else s)
  else if a = R.SP_FAULT then (.ok, s.setReg a (putBits (s.reg a) 0 16 (bits v 0 16)))
  else (.ok, s)

/-! ### Commands -/

/-- SP_ENABLE (R205). -/
def srvSpEnable (k : Pkt) (s : State) : Ans × State := (s.stageF F.SP_CTRL_EN (pf k 0 0 1)).ok []

/-- SP_LAW_CONFIG (R206). -/
def srvSpLawConfig (k : Pkt) (s : State) : Ans × State :=
  let w := pw k 0
  if bits w 16 12 = 0 ∨ 3839 < bits w 16 12 then s.param 0x48
  else if pf k 1 0 6 < 4 then s.param 0x49
  else if bits w 0 4 = 0 ∨ bits w 4 4 = 0 then s.param 0x4A
  else
    let t := (s.stage R.SP_LAW (keepMask w 0x0FFFFFFF)).stage R.SP_BAND (keepMask (pw k 1) 0x3F)
    (t.stageF F.SP_CTRL_AE_COMP (pf k 2 0 1)).ok []

/-- The staged words of a block row of the mask with the blocks from bx0 on, `w` of them, at a byte. -/
def maskRow (v : View) (by_ bx0 w byte : Nat) : List Word :=
  (List.range 256).map (fun i =>
    (List.range 4).foldl (fun a j =>
      let bx := 4 * i + j
      if bx0 ≤ bx ∧ bx < bx0 + w then putBits a (8 * j) 8 byte else a) (v (wkey 0x0701 (256 * by_ + i))))

/-- SP_MASK_LOAD (R207). -/
def srvSpMaskLoad (k : Pkt) (s : State) : Ans × State :=
  let bx := pf k 0 0 10
  let by_ := pf k 0 16 10
  let w := pf k 1 0 11
  let h := pf k 1 16 11
  let clear := pf k 2 8 1 == 1
  let none_ := w == 0 && h == 0 && clear
  if !none_ && (decide (w = 0) || decide (h = 0) || decide (1024 < bx + w) || decide (1024 < by_ + h)) then s.param 0x4B
  else
    let t := if clear then s.stageRun (wkey 0x0701 0) (List.replicate 262144 0#32) else s
    let byte := pf k 2 0 8 % 4 + pf k 2 4 4 * 16
    State.ok ((List.range (if none_ then 0 else h)).foldl (fun u j =>
      u.stageRun (wkey 0x0701 (256 * (by_ + j))) (maskRow t.staged (by_ + j) bx w byte)) t) []

/-- SP_OVERRIDE (R208). -/
def srvSpOverride (k : Pkt) (s : State) : Ans × State :=
  if pf k 0 0 2 = 3 then s.param 0x4C
  else (s.stageFs [(F.SP_CTRL_ACTION, pf k 0 0 2), (F.SP_CTRL_FORCE_K, pf k 0 4 4)]).ok []

/-- SP_MAP_READ (R209). -/
def srvSpMapRead (k : Pkt) (s : State) : Ans × State :=
  let whole := pf k 0 8 1 == 1
  let start := 1024 * pf k 1 16 10 + pf k 1 0 10
  let n := pf k 2 0 11
  let most := if whole then 1020 else 2040
  if n = 0 ∨ most < n ∨ 1048576 < start + n then s.param 0x4D
  else match s.sp.maps[pf k 0 0 2]? with
    | none => s.fin 6 []
    | some (fn, rows) =>
      let at_ := fun (i : Nat) => if i < n then mapByte rows ((start + i) % 1024) ((start + i) / 1024) else 0
      let words := if whole then (List.range (ceilDiv n 4)).map (fun i =>
          w32 (total ((List.range 4).map (fun j => at_ (4 * i + j) * 2 ^ (8 * j)))))
        else (List.range (ceilDiv n 8)).map (fun i => w32 (total ((List.range 8).map (fun j => at_ (8 * i + j) % 16 * 2 ^ (4 * j)))))
      s.ok (w32 fn :: words)

/-! ### Windows -/

/-- A word of SP.CTX as it reads: the data bits corrected, and the check bits (R210). An uncorrectable context reads as it stands. -/
def State.ctxWord (s : State) (i : Nat) : Word :=
  let key := wkey 0x0700 (i / 2 * 2)
  let (data, diff) := s.ctxBits key
  let (d, chk) := match ctxDecode data diff with
    | some d => (d, ctxCheck d)
    | none => (data, ctxCheck data ^^^ diff)
  if i % 2 = 0 then w32 d else w32 (d / 2 ^ 32 % 256 + chk * 2 ^ 8)

/-- A TABLE_READ of SP.CTX: every access checks its code and rewrites what it corrects (R203, R210). -/
def readCtxTable (start n : Nat) (s : State) : List Word × State :=
  (List.range n).foldl (fun (a : List Word × State) j =>
    let i := (start + j) / 2
    (a.1 ++ [a.2.ctxWord (start + j)], (a.2.readCtx (i % 1024) (i / 1024)).2)) ([], s)

/-- A TABLE_WRITE of SP.CTX: only in ARRAY_TEST; data and check bits as given (R210). -/
def tblCtx (start : Nat) (ws : List Word) (s : State) : WRes × State :=
  if s.checkMode ≠ 0xA then (.refuse 5 0 0, s)
  else
    (.ok, ((List.range ws.length).zip ws).foldl (fun u p =>
      let i := start + p.1
      let key := wkey 0x0700 (i / 2 * 2)
      let (data, diff) := u.ctxBits key
      let chk := ctxCheck data ^^^ diff
      let (d, c) := if i % 2 = 0 then (data / 2 ^ 32 * 2 ^ 32 + p.2.toNat, chk)
        else (data % 2 ^ 32 + bits p.2 0 8 * 2 ^ 32, bits p.2 8 8)
      u.setRun key [w32 d, w32 (d / 2 ^ 32 % 256 + (ctxCheck d ^^^ c) * 2 ^ 8)]) s)

/-- A TABLE_WRITE of SP.MASK: the staged mask (R210). -/
def tblMask (start : Nat) (ws : List Word) (s : State) : WRes × State :=
  (.ok, s.stageRun (wkey 0x0701 start) (ws.map (fun w => keepMask w 0xF3F3F3F3)))

/-- A TABLE_READ of SP.MAP: the last complete map (R210). -/
def readMap (start n : Nat) (s : State) : Option (List Word) :=
  match s.sp.maps with
  | [] => none
  | m :: _ => some ((List.range n).map (fun i =>
      w32 (total ((List.range 4).map (fun j =>
        let b := 4 * (start + i) + j
        mapByte m.2 (b % 1024) (b / 1024) * 2 ^ (8 * j))))))

end Sys2Proof.Machine
end

