-- ==== Sys2Proof/Machine/Ae.lean ====
section
/-!
DEFINITION. Auto-exposure and automatic white balance (R149 to R156, R161, R272, R496, R497): the metered mean, the law with its limits,
and what the firmware and the boot ROM commit.
-/

namespace Sys2Proof.Machine

open Sys2Proof (Word Pkt)

/-! ### The metered mean -/

/-- The y that a log code stands for (R340), to 32 binary places. -/
def decodeLog (l : Nat) : Rat :=
  ((rootRound 1024 (2 ^ (l % 1024 + 32768)) 1 * 2 ^ (l / 1024) : Nat) : Rat) / (2 ^ 32 : Nat) - 1

/-- The shares of the colours in the mosaic, in eighths: R, G, B, I (R154). -/
def mosaicShares : List Nat :=
  match Config.mosaic with
  | 2 => [1, 4, 1, 2]
  | 3 => [0, 8, 0, 0]
  | _ => [2, 4, 2, 0]

/-- The sum of fractions. -/
def sumRat (l : List Rat) : Rat := l.foldl (fun a b => a + b) 0

/-- Zone mean: the mean of its colour means by their shares (R154). In a zone that lacks pixels, a colour with mean code 0 is taken to
have none. -/
def zoneMean (full : Nat) (rec_ : List Word) : Option Rat :=
  let n := bits (rec_.getD 3 0#32) 16 16
  let w0 := rec_.getD 0 0#32
  let w1 := rec_.getD 1 0#32
  let codes := [bits w0 0 16, bits w0 16 16, bits w1 0 16, bits w1 16 16]
  let used := (codes.zip mosaicShares).filter (fun p => decide (0 < p.1 ∨ n = full) && decide (0 < p.2))
  if n = 0 then none
  else
    let k := total (used.map (fun p => p.2))
    if k = 0 then some 0 else some (sumRat (used.map (fun p => decodeLog p.1 * (p.2 : Rat))) / (k : Rat))

/-- The weight of a zone (R154). -/
def zoneWeight (v : View) (z : Nat) : Nat :=
  match fld v F.EXP_AE_CFG_METER with
  | 1 => if 16 ≤ z % 64 ∧ z % 64 < 48 ∧ 16 ≤ z / 64 ∧ z / 64 < 48 then 4 else 1
  | 2 => bits (v (wkey 0x0500 (z / 8))) (4 * (z % 8)) 4
  | _ => 1

/-- The weighted mean of the zones that have a mean; none where no weight remains. -/
def meanOf (ps : List (Nat × Rat)) : Option Rat :=
  let n := total (ps.map (fun p => p.1))
  if n = 0 then none else some (sumRat (ps.map (fun p => p.2 * (p.1 : Rat))) / (n : Rat))

/-- The metered mean of a set in 1/16 e⁻ (R154); none where no zone has a pixel. -/
def meteredMean (v : View) (grid : List Word) : Option Rat :=
  let zones := (List.range 4096).filterMap (fun z => (zoneMean (4096 / binDiv v ^ 2) ((grid.drop (8 * z)).take 8)).map (fun m => (z, m)))
  match meanOf (zones.map (fun p => (zoneWeight v p.1, p.2))) with
  | some m => some m
  | none => meanOf (zones.map (fun p => (1, p.2)))

/-! ### The law -/

/-- 2^(256 · err) of a frame (R153), as an exact fraction; a mean of 0 is as far below the target as can be told. -/
def errPow (v : View) (mean : Rat) : Rat :=
  let x := mean / 16 * (2 ^ fld v F.CNV_RAMP_GAIN_HCG : Nat) * (fld v F.PA_DGAIN_GAIN : Nat) / 256
  if x ≤ 0 then (2 ^ 16384 : Nat) else (2 ^ fld v F.EXP_AE_TARGET_TARGET : Nat) / x ^ 256

/-- 2^(32 · n) for n eighths of an EV. -/
def evPow (eighths : Nat) : Rat := (2 ^ (32 * eighths) : Nat)

/-- A value times the 256th root of a fraction, to the nearest whole number. -/
def timesRoot (x : Nat) (r : Rat) : Nat := rootRound 256 (x ^ 256 * r.num.toNat) r.den

/-- What is left of a step after a value went from `a` to `b`. -/
def leftOf (r : Rat) (a b : Nat) : Rat := r * ((a : Rat) / b) ^ 256

/-- The largest value below 2^bits of a test that holds up to some limit, 0 if none. -/
def largest (ok : Nat → Bool) : Nat → Nat → Nat
  | 0, r => r
  | n + 1, r => largest ok n (if ok (r + 2 ^ n) then r + 2 ^ n else r)

/-- The limits of TL for AE with the Q that it sets: lower, upper, and whether the LED minimum lies above the longest TL (R142 to R144,
R150, R153). In a sequence every REL context and every step of the list is to keep its limits, and the LED minimum counts only where
some entry has DISP (R161). -/
def State.aeBounds (s : State) (q : Nat) : Nat × Nat × Bool :=
  let full := s.staged
  let with_ := fun (tl : Nat) => full.over [(R.EXP_TL, w32 tl), (R.EXP_RATIO, putBits (full R.EXP_RATIO) 0 4 q)]
  let l := seqList s.live
  let ok := fun (tl : Nat) => decide (tl < 256) ||
    (decide (tl ≤ fld full F.EXP_AE_TLMAX_TLMAX) &&
      (if s.tt.run then (checkStep s.before (with_ tl) s.effBefore).isNone else (checkSame (with_ tl)).isNone) &&
      (match s.exp.seq with
        | some r => (listReason s (with_ tl) (full.over r.base) s.effBefore l l.length r.loops tl).isNone
        | none => true))
  let hi := max 256 (largest ok 20 0)
  let shown := s.exp.seq.isNone || l.any (fun e => bit e 16)
  let led := if ledActive full && shown then ceilDiv (ledTlMin full * 12800 * 2 ^ 20) (rpRaw full) else 0
  let lo := max 256 led
  (min lo hi, hi, decide (hi < lo))

/-- TL placed within its limits and under the mains rule (R149, R152), with CONFLICT. -/
def placeTl (v : View) (target lo hi : Nat) : Nat × Bool :=
  let tl := clampN lo hi target
  if !vtst v F.EXP_FLICKER_MAINS_EN then (tl, false)
  else
    -- P in slots as a fraction: the half period in ns times 1.28 GHz over RP / 16
    let pn : Nat := (if vtst v F.EXP_FLICKER_MAINS_HZ then 25000000 else 30000000) * 128 * 2 ^ 20
    let pd : Nat := 3 * 100 * rpRaw v
    let nlo := max 1 (ceilDiv (lo * pd) pn)
    let nhi := hi * pd / pn
    if nlo ≤ nhi then
      if tl * pd < pn then (tl, false)
      else
        let n := clampN nlo nhi (roundDown (tl * pd) pn)
        (clampN lo hi (roundUp (n * pn) pd), false)
    else if lo * pd < pn then (min tl (ceilDiv pn pd - 1), false)
    else (tl, true)

/-- Doubling steps of GAIN_HCG up: the code and what is left. -/
def gainUp (gmax : Nat) : Nat → Nat → Rat → Nat × Rat
  | 0, g, r => (g, r)
  | n + 1, g, r => if evPow 8 ≤ r ∧ g < gmax then gainUp gmax n (g + 1) (r / evPow 8) else (g, r)

/-- Halving steps of GAIN_HCG down. -/
def gainDown : Nat → Nat → Rat → Nat × Rat
  | 0, g, r => (g, r)
  | n + 1, g, r => if r * evPow 8 ≤ 1 ∧ 0 < g then gainDown n (g - 1) (r * evPow 8) else (g, r)

/-- What AE sets. -/
structure AeSet where
  tl : Nat
  gain : Nat
  dgain : Nat
  conflict : Bool
  deriving DecidableEq, Repr

/-- A step from a frame's exposure, in the order of R153; what an element does not take passes to the next. -/
def aeDistribute (v full : View) (lo hi : Nat) (conflict : Bool) (r : Rat) : AeSet :=
  let tl0 := max 1 (vTl v)
  let g0 := fld v F.CNV_RAMP_GAIN_HCG
  let d0 := max 1 (fld v F.PA_DGAIN_GAIN)
  if 1 < r then
    let d1 := if d0 < 256 then min 256 (timesRoot d0 r) else d0
    let r1 := if d0 < 256 then (if d1 < 256 then 1 else leftOf r d0 256) else r
    let p := placeTl full (timesRoot tl0 r1) lo hi
    let q := gainUp (fld full F.EXP_AE_TLMAX_GMAX) 8 g0 (leftOf r1 tl0 p.1)
    ⟨p.1, q.1, clampN 16 16384 (timesRoot d1 q.2), p.2 || conflict⟩
  else
    let d1 := if 256 < d0 then max 256 (timesRoot d0 r) else d0
    let r1 := if 256 < d0 then (if 256 < d1 then 1 else leftOf r d0 256) else r
    let q := gainDown 8 g0 r1
    let p := placeTl full (timesRoot tl0 q.2) lo hi
    ⟨p.1, q.1, clampN 16 16384 (timesRoot d1 (leftOf q.2 tl0 p.1)), p.2 || conflict⟩

/-- The step of the law (R153): none within the dead band, else 2^(256 · step) limited to `cap` eighths. -/
def aeStep (v : View) (mean : Rat) (cap : Nat) : Option Rat :=
  let r := errPow v mean
  let h := fld v F.EXP_AE_CFG_HYST
  if r ≤ (2 ^ (8 * h) : Nat) ∧ 1 ≤ r * (2 ^ (8 * h) : Nat) then none
  else some (if evPow cap < r then evPow cap else if r * evPow cap < 1 then 1 / evPow cap else r)

/-- Whether the metered error lies within ±1 EV. -/
def withinEv (v : View) (mean : Rat) : Bool :=
  let r := errPow v mean
  decide (r ≤ evPow 8) && decide (1 ≤ r * evPow 8)

/-- Q under RATIO_AUTO, from the short sample's histogram (R153). -/
def aeQ (v : View) (shist : List Word) : Nat :=
  let l := ((shist.drop 192).take 64).map (fun w => w.toNat)
  let n := total l
  let q := vQ v
  if n < 1000 * total (l.drop 54) then min (q + 1) (fld v F.EXP_RATIO_QMAX)
  else if 10000 * total (l.drop 27) < n then max (q - 1) (fld v F.EXP_RATIO_QMIN)
  else q

/-- Whether AE meters a frame (R161). -/
def State.metersFrame (s : State) (fn : Nat) : Bool :=
  match s.seqEntry fn with
  | some w => bit w 19
  | none => true

/-- The settings of a frame that a set describes; older frames than the last two have gone. -/
def State.setView (s : State) (fn : Nat) : View := s.viewOf fn

/-- Whether the boot ROM serves AE: before take-over, and in LIMP (R497). -/
def State.romAe (s : State) : Bool := (s.sys.fw == .rom && s.sys.phase == .run) || s.sys.fw == .limp

/-- AE's values staged and, where one changes, committed (R155). -/
def State.aeCommit (s : State) (l : List (Fld × Nat)) : State :=
  let v := s.pendView
  let changes := l.filter (fun p => fld v p.1 != p.2)
  let t := s.stageFs l
  if changes.isEmpty then t else t.commit (s.sys.fw != .running)

/-- AE on a closed set (R153, R497). -/
def State.runAe (s : State) (set : StatSet) : State :=
  let v := s.setView set.fn
  let rom := s.romAe
  let s := { s with exp := { s.exp with aeDone := some set.fn } }
  let waits := match s.sys.romStepFn with
    | some f => rom && !seqLe f set.fn
    | none => false
  if !(rom || s.sys.fw == .running) || !vtst v F.EXP_CTRL_AE_EN || !s.metersFrame set.fn || waits then s
  else match meteredMean v set.grid with
    | none => s
    | some mean =>
      let close := s.sys.romAeClose || withinEv v mean
      let s := if rom then { s with sys := { s.sys with romAeClose := close } } else s
      let cap := if rom && !close then 64 else max 1 (fld v F.EXP_AE_CFG_SPEED)
      match aeStep v mean cap with
      | none => s
      | some r =>
        let full := s.staged
        let auto := vtst v F.EXP_CTRL_RATIO_AUTO && !rom
        let q := if auto then aeQ v set.shist else vQ full
        let b := s.aeBounds q
        let a := aeDistribute v full b.1 b.2.1 b.2.2 r
        let t := s.wr F.EXP_FLICKER_CONFLICT (flag a.conflict)
        let t := { t with exp := { t.exp with aeTl := a.tl } }
        let t := t.aeCommit ([(F.EXP_TL_SLOTS, a.tl), (F.CNV_RAMP_GAIN_HCG, a.gain), (F.PA_DGAIN_GAIN, a.dgain)] ++
          (if auto then [(F.EXP_RATIO_Q, q)] else []))
        if rom then { t with sys := { t.sys with romStepFn := some (t.reg R.TT_APPLYFN).toNat } } else t

/-- AE_RUN (R153, R497): AE on the newest closed set, once for each. -/
def execAeRun (s : State) : Host.Outcome State Fault Refusal :=
  .next (s.keepQueue (
    match s.pix.closed with
    | [] => s
    | set :: _ => if s.exp.aeDone == some set.fn then s else s.runAe set))

/-- AWB_RUN (R272): the firmware sets the channel gains while AWB_EN is 1, once for each closed set. Its law is not given: the gains
are free values. -/
def execAwbRun (s : State) : Host.Outcome State Fault Refusal :=
  .next (s.keepQueue (
    match s.pix.closed with
    | [] => s
    | set :: _ =>
      if s.sys.fw != .running || !s.tst F.PA_CTRL_AWB_EN || s.exp.awbDone == some set.fn then s
      else
        let (a, t) := State.fresh { s with exp := { s.exp with awbDone := some set.fn } }
        let (b, t) := t.fresh
        t.aeCommit [(F.PA_WB0_GR, bits a 0 16), (F.PA_WB0_GG, bits a 16 16), (F.PA_WB1_GB, bits b 0 16), (F.PA_WB1_GI, bits b 16 16)]))

/-! ### The first displayable frame -/

/-- Whether a frame's display A footer has been sent. -/
def State.footerSent (s : State) (fn : Nat) : Bool :=
  s.out.sent.any (fun p => p.stream == 1 && p.ptype == 6 && p.words.getD 1 0#32 == w32 fn)

/-- The first displayable frame (R496): its footer is on the link, and its own set meters within ±1 EV or its exposure is held at a
limit. `origin` is the start of the time of T_DISP. -/
def State.checkDisplayable (s : State) (fn : Nat) : State :=
  match s.sys.firstDisp, s.pix.closed.find? (fun t => t.fn == fn) with
  | none, some set =>
    let v := s.setView fn
    let good := match meteredMean v set.grid with
      | some mean =>
        withinEv v mean ||
        (match aeStep v mean (max 1 (fld v F.EXP_AE_CFG_SPEED)) with
          | some r =>
            let b := s.aeBounds (vQ s.staged)
            let a := aeDistribute v v b.1 b.2.1 b.2.2 r
            decide (a.tl = vTl v ∧ a.gain = fld v F.CNV_RAMP_GAIN_HCG ∧ a.dgain = fld v F.PA_DGAIN_GAIN)
          | none => true)
      | none => false
    if good && s.footerSent fn then
      { s with sys := { s.sys with firstDisp := some fn, tDisp := min 65535 ((s.tt.clk - s.sys.origin) / us 10) } }
    else s
  | _, _ => s

end Sys2Proof.Machine
end

