-- ==== Sys2Proof/Machine/Link.lean ====
section
/-!
DEFINITION. Lertu Link (R405 to R451): training, lane changes, replay, the equalisers, the back-channel receiver, tests and
loopbacks.
-/

namespace Sys2Proof.Machine

open Sys2Proof (Word Byte Pkt)

/-- The configured logical lanes (R443). -/
def State.lanes (s : State) : Nat := s.rd F.LNK_CFG_LANES

/-- Training begins (R427 step 1): every configured lane sends TS; the receiver's centres are 0 and its window is not
applied until the first eye measurement (R424). -/
def State.enterTrain (s0 : State) : State :=
  let s := s0.abortAll 3
  { s with lnk := { s.lnk with
      state := 1, bcLock := false, active := 0, index := 0, laneRem := 0, tx := [], kept := [], rest := [], change := none, ready := false, noLstate := false,
      hostSilent := false, trainAt := s.tt.clk, idleRun := 0, centres := [0, 0, 0, 0], centred := false,
      goodSince := [none, none, none, none], lstateAt := s.tt.clk } }

/-- The coefficients of a lane (R445). -/
def ffeReg (lane : Nat) : Nat := R.LNK_FFE0 + lane

/-- A lane's coefficients put in force (R412). -/
def State.setFfe (s : State) (lane cm1 cp1 : Nat) : State :=
  s.setReg (ffeReg lane) (putBits (putBits (s.reg (ffeReg lane)) 0 4 cm1) 4 5 cp1)

/-- The four coefficient registers with their main taps (R445). -/
def State.ffeWords (s : State) : List Word :=
  (List.range 4).map (fun i =>
    let w := s.reg (ffeReg i)
    putBits w 9 6 (48 - bits w 0 4 - bits w 4 5))

/-- Coefficient changes in force on lanes that are not active (R412); the reply of FFE_REQUEST once none waits (R441). -/
def State.settleFfe (s : State) : State :=
  let now := s.lnk.ffeNext.filter (fun p => !s.lnk.active.testBit p.1)
  let t := now.foldl (fun t p => t.setFfe p.1 p.2.1 p.2.2)
    { s with lnk := { s.lnk with ffeNext := s.lnk.ffeNext.filter (fun p => s.lnk.active.testBit p.1) } }
  if t.lnk.ffeNext.isEmpty then t.finishOp 0x83 0 t.tt.fn t.ffeWords else t

/-! ### What the lanes send -/

/-- A lane sends a block (R414). -/
def State.laneSend (s : State) (lane : Nat) (b : LaneBlock) : State :=
  { s with lnk := { s.lnk with lanes := s.lnk.lanes.modify lane (fun l => l.send b) } }

/-- The lanes of a mask send each its own block. -/
def State.lanesSend (s : State) (mask : Nat) (b : Nat → LaneBlock) : State :=
  ((List.range 4).filter (fun i => mask.testBit i)).foldl (fun t i => t.laneSend i (b i)) s

/-- The training block of a lane now (R416). -/
def State.tsOf (s : State) (lane : Nat) : LaneBlock :=
  let c := s.reg (ffeReg lane)
  tsBlock lane s.lanes (s.rd F.LNK_CFG_RATE) (bits c 0 4) (bits c 4 5) s.lnk.index

/-- The next block of the logical stream (R415 to R417): of the packet being sent, else of what waits, else IDLE. -/
def State.nextBlock (s : State) : LaneBlock × State :=
  match s.lnk.rest with
  | b :: bs => (b, { s with lnk := { s.lnk with rest := bs } })
  | [] =>
    match s.lnk.tx with
    | .pkt lseq stream ws :: tx =>
      (pktBlock stream lseq ws, { s with lnk := { s.lnk with tx := tx, rest := dataBlocks ws } })
    | .rsync lseq :: tx => (rsyncBlock lseq, { s with lnk := { s.lnk with tx := tx } })
    | [] => (idleBlock, s)

/-- The logical stream striped over the lanes of a mask in ascending order, one block each (R416). -/
def State.stripe (s : State) (mask : Nat) : State :=
  ((List.range 4).filter (fun i => mask.testBit i)).foldl (fun (t : State) i => let p := t.nextBlock; p.2.laneSend i p.1) s

/-- The configured lanes that carry no logical stream. -/
def State.idleLanes (s : State) (busy : Nat) : Nat := s.lanes &&& (15 - busy % 16)

/-- Every lane sends its next block but a marker (R415, R416, R430, R431): in training TS; in ACTIVE LCHG where it waits, else the logical
stream, and TS on the configured lanes that are not active. -/
def State.laneStep (s : State) : State :=
  let t := match s.lnk.state with
    | 1 => s.lanesSend s.lanes s.tsOf
    | 2 => match s.lnk.change with
      | some c =>
        State.lanesSend ({ s with lnk := { s.lnk with change := none } }.lanesSend c.2.2 (fun _ => lchgBlock c.1 c.2.1)) (s.idleLanes c.2.2) s.tsOf
      | none => (s.stripe s.lnk.active).lanesSend (s.idleLanes s.lnk.active) s.tsOf
    | _ => s
  { t with lnk := { t.lnk with index := t.lnk.index + 1 } }

/-- The LSEQ of the next packet header on the logical stream (R416). -/
def State.nextLseq (s : State) : Nat :=
  match s.lnk.tx with
  | .pkt lseq _ _ :: _ => lseq
  | .rsync lseq :: _ => lseq
  | [] => s.lnk.lseq

/-- A deskew marker with its MCOUNT on the lanes of a mask (R415, R416). -/
def State.marker (s : State) (mask mcount : Nat) : State :=
  let t := s.lanesSend mask (fun i => dskBlock i s.lnk.active (s.rd F.LNK_CFG_RATE) mcount s.nextLseq)
  { t with lnk := { t.lnk with index := t.lnk.index + 1, mcount := mcount, blocks := t.lnk.blocks ++ [LinkBlock.dsk mcount] } }

/-- The link enters ACTIVE on the lanes of a mask (R427 steps 4 and 5): one deskew marker on every lane, LSEQ and MCOUNT from
0, the final reply of a setting that was changed, and then what waits. -/
def State.enterActive (s : State) (mask : Nat) : State :=
  let t := { s with lnk := { s.lnk with
      state := 2, active := mask, lseq := 0, replay := [], tx := [], kept := [], rest := [], change := none, prevCfg := none, goodSince := [none, none, none, none] } }
  let t := (t.marker s.lanes 0).reshed
  let t := (t.finishOp 0x81 0 t.tt.fn []).finishOp 0x82 0 t.tt.fn []
  t.flush

/-! ### LSTATE, replay and lane changes -/

/-- Whether LSEQ `a` is `b` or before it, modulo 65,536. -/
def lseqLe (a b : Nat) : Bool := (b + 65536 - a % 65536) % 65536 < 32768

/-- The packets that an LSTATE acknowledges are released (R428). -/
def State.ackTo (s : State) (ack : Nat) : State :=
  let open_ := fun (i : TxItem) => match i with
    | .pkt lseq _ _ => !lseqLe lseq ack
    | .rsync _ => false
  { s with lnk := { s.lnk with replay := s.lnk.replay.filter (fun p => !lseqLe p.lseq ack), kept := s.lnk.kept.filter open_ } }

/-- Held packets after ACK are sent again (R429), those of shed streams left out (R430). -/
def State.replayFrom (s : State) (ack : Nat) : State :=
  let want := (ack + 1) % 65536
  let again := (s.lnk.replay.filter (fun p => !s.streamShed p.stream)).map (fun p => p.lseq)
  let head := match s.lnk.replay with
    | p :: _ => p.lseq
    | [] => s.lnk.lseq
  let lost := (head + 65536 - want) % 65536
  let t := s.bump F.LNK_REPLAYS_COUNT
  let t := if lost = 0 then t
    else State.bumpBy { t with lnk := { t.lnk with blocks := t.lnk.blocks ++ [LinkBlock.rsync head] } } F.LNK_UNRECOV_COUNT lost
  let goes := s.lnk.kept.filter (fun i => match i with
    | .pkt _ stream _ => !s.streamShed stream
    | .rsync _ => false)
  { t with lnk := { t.lnk with resent := t.lnk.resent ++ again, tx := (if lost = 0 then [] else [TxItem.rsync head]) ++ goes } }

/-- The active lanes change (R430, R431): LCHG, after which a packet that replay sends again is not completed; the shedding for the
new usable rate, and the event LANE_DEGRADE (R432). -/
def State.setLanes (s : State) (mask lseq : Nat) : State :=
  let t := { s with lnk := { s.lnk with
      active := mask, blocks := s.lnk.blocks ++ [LinkBlock.lchg mask lseq], change := some (mask, lseq, s.lnk.active ||| mask),
      rest := if s.lnk.active &&& mask = s.lnk.active then s.lnk.rest else [] } }
  let t := (t.bump F.LNK_DEGRADES_COUNT).reshed
  t.settleFfe

/-- LANE_DEGRADE (R432). -/
def State.laneEvent (s : State) (old mask : Nat) (up : Bool) : State :=
  s.event 0x08 [w32 (old + mask * 16 + flag up * 256), s.reg R.OUT_SHED]

/-- The lowest lane of a mask, as a mask. -/
def lowestLane (m : Nat) : Nat :=
  if m.testBit 0 then 1 else if m.testBit 1 then 2 else if m.testBit 2 then 4 else if m.testBit 3 then 8 else 0

/-- Since when each configured lane that is not active has been GOOD in every good LSTATE (R431). -/
def State.trackGood (s : State) : State :=
  { s with lnk := { s.lnk with goodSince := (List.range 4).map (fun i =>
      if s.lnk.good.testBit i && s.lanes.testBit i && !s.lnk.active.testBit i then
        match s.lnk.goodSince.getD i none with
        | some t => some t
        | none => some s.tt.clk
      else none) } }

/-- A good LSTATE (R425 to R430). -/
def State.goodLstate (s : State) (g : Nat) (ready replay : Bool) (ack : Nat) : State :=
  let t := { s with lnk := { s.lnk with good := g, hostSilent := false, lstateAt := s.tt.clk } }
  match t.lnk.state with
  | 1 =>
    if ready && (g &&& t.lanes) != 0 then { t with lnk := { t.lnk with ready := true } } else t
  | 2 =>
    let t := t.ackTo ack
    let keep := t.lnk.active &&& g
    let mask := if keep = 0 then lowestLane t.lnk.active else keep
    if mask != t.lnk.active then
      ((((t.setLanes mask ((ack + 1) % 65536)).replayFrom ack).laneEvent t.lnk.active mask false).trackGood)
    else if replay then (t.replayFrom ack).trackGood
    else t.trackGood
  | _ => t

/-- LSTATE (R421, R422, R425): discarded where its CRC-8 fails. -/
def execLstate (b ack crc : Nat) (s : State) : Host.Outcome State Fault Refusal :=
  .next (s.keepQueue (
    if s.sys.phase == .unpowered || s.sys.phase == .reset then s
    else if crc8 [w8 b, w8 (ack / 256), w8 ack] != crc then s.bump F.LNK_LSTCRC_COUNT
    else s.goodLstate (b % 16) (b.testBit 4) (b.testBit 5) (ack % 65536)))

/-- LANE_READD (R431): a configured lane GOOD for READD_S seconds joins the active lanes at the next DSK index, at
which LCHG is sent. The blocks up to it are left out: DESIGN CHOICE, assumption 66. -/
def execLaneReadd (lane : Nat) (s : State) : Host.Outcome State Fault Refusal :=
  .next (s.keepQueue (
    match s.lnk.goodSince.getD lane none with
    | none => s
    | some since =>
      if s.lnk.state != 2 || s.lnk.hostSilent then s
      else
        let t := s.elapse (ms (1000 * max 1 (s.rd F.LNK_TIMER_READD_S)) + since)
        let mask := t.lnk.active ||| 2 ^ lane
        let u : State := { t with lnk := { t.lnk with index := t.lnk.index / 16384 * 16384 + 16383 } }
        ((u.setLanes mask t.lnk.lseq).laneStep.laneEvent t.lnk.active mask true).trackGood))

/-- HOST_SILENT (R425): the present lanes are kept, and no replay or lane action is taken until the next good LSTATE. -/
def execHostSilent (s : State) : Host.Outcome State Fault Refusal :=
  .next (s.keepQueue (
    if s.lnk.state == 0 || s.lnk.hostSilent then s
    else
      let t := s.elapse (ms (max 1 (s.rd F.LNK_TIMER_SILENT_MS)) + s.lnk.lstateAt)
      { t with lnk := { t.lnk with hostSilent := true } }))

/-! ### Training -/

/-- LINK_ACTIVE (R427 step 4): after the first good LSTATE with READY the link enters ACTIVE on the lanes in GOOD and LANES. -/
def linkActive (s : State) : State :=
  if s.lnk.state == 1 && s.lnk.ready then
    (s.settleFfe).enterActive (s.lnk.good &&& s.lanes)
  else s

/-- TRAIN_TIMEOUT (R427 step 5, R440): back to the previous setting where one was changed, else ACTIVE on every lane in LANES. -/
def execTrainTimeout (s : State) : Host.Outcome State Fault Refusal :=
  .next (s.keepQueue (
    if s.lnk.state != 1 || s.lnk.ready then s
    else
      let t := s.elapse (ms (max 1 (s.rd F.LNK_TIMER_TRAIN_TO)) + s.lnk.trainAt)
      match t.lnk.prevCfg with
      | some w =>
        let t := State.enterTrain { t.setReg R.LNK_CFG w with lnk := { t.lnk with prevCfg := none } }
        (t.finishOp 0x81 0x0B t.tt.fn []).finishOp 0x82 0x0B t.tt.fn []
      | none =>
        let t := (t.settleFfe).enterActive t.lanes
        { t with lnk := { t.lnk with noLstate := true } }))

/-! ### The back-channel receiver -/

/-- The bits of bytes, least significant first. -/
def byteBits (bs : List Byte) : List Bool := bs.flatMap (fun b => (List.range 8).map (fun i => b.toNat.testBit i))

/-- The next bit of PRBS-15, x^15 + x^14 + 1, from the last 15 bits (the newest in bit 0), and the register after it. -/
def prbs15 (r : Nat) : Bool × Nat :=
  let b := r.testBit 14 != r.testBit 13
  (b, (r * 2 + flag b) % 32768)

/-- The next byte of PRBS-15, its first bit least significant, and the register after it. -/
def prbsByte (r : Nat) : Nat × Nat :=
  (List.range 8).foldl (fun p i => let q := prbs15 p.2; (p.1 + flag q.1 * 2 ^ i, q.2)) (0, r)

/-- How many bytes differ from PRBS-15 after a register, and the register after them. -/
def prbsMiss : List Byte → Nat → Nat × Nat
  | [], r => (0, r)
  | b :: bs, r =>
    let p := prbsByte r
    let q := prbsMiss bs p.2
    (q.1 + flag (p.1 != b.toNat), q.2)

/-- The last 15 bits of bytes as a register. -/
def prbsSeed (bs : List Byte) : Nat := (byteBits bs).foldl (fun r b => (r * 2 + flag b) % 32768) 0

/-- An IDLE set against PRBS-15 (R422): counted once two consecutive sets have agreed. -/
def State.checkIdle (s : State) (bs : List Byte) : State :=
  match s.lnk.idlePrbs with
  | none => { s with lnk := { s.lnk with idlePrbs := some (prbsSeed bs), idleSets := 1 } }
  | some r =>
    let q := prbsMiss bs r
    if s.lnk.idleSets < 2 then
      if q.1 = 0 then { s with lnk := { s.lnk with idlePrbs := some q.2, idleSets := 2 } }
      else { s with lnk := { s.lnk with idlePrbs := some (prbsSeed bs) } }
    else
      let t := State.bumpBy { s with lnk := { s.lnk with idlePrbs := some q.2 } } F.LNK_IDLEERR_COUNT q.1
      if (t.lnk.test.map (fun x => x.targets.testBit 4)).getD false then
        { t with lnk := { t.lnk with checkers := t.lnk.checkers.modify 4 (fun c =>
            ⟨c.bits + 8 * bs.length, min (2 ^ 31 - 1) (c.errs + q.1), true⟩) } }
      else t

/-- BC_IDLE (R422, R427 step 2): the set is checked, and 64 in a row without a code violation give BC_LOCK. -/
def execBcIdle (chars : List Byte) (violation : Bool) (s : State) : Host.Outcome State Fault Refusal :=
  .next (s.keepQueue (
    if s.sys.phase == .unpowered || s.sys.phase == .reset then s
    else if violation then
      State.bump { s with lnk := { s.lnk with idleRun := 0 } } F.LNK_BCCODE_COUNT
    else
      let t := s.checkIdle chars
      let n := t.lnk.idleRun + 1
      { t with lnk := { t.lnk with idleRun := n, bcLock := t.lnk.bcLock || decide (64 ≤ n) } }))

/-- The fields of the four taps. -/
def tapFields : List Fld := [F.LNK_BCEQ_H1, F.LNK_BCEQ_H2, F.LNK_BCEQ_H3, F.LNK_BCEQ_H4]

/-- The four taps (R446). -/
def State.taps (s : State) : List Int := tapFields.map (sfld s.live)

/-- The taps set. -/
def State.setTaps (s : State) (l : List Int) : State :=
  (tapFields.zip l).foldl (fun t p => t.wr p.1 (unsigned 7 p.2)) s

/-- One LMS step of a tap, never further than the window from its centre (R423, R424). -/
def tapStep (centred : Bool) (win : Nat) (centre tap step : Int) : Int :=
  let n := tap + step.sign
  if n < -64 || 63 < n then tap
  else if centred && decide (win < (n - centre).natAbs) then tap
  else n

/-- BC_ADAPT_WINDOW (R423): one window of 1,024 UI with its transitions and the signs that LMS gives the CTLE and the taps. -/
def execBcAdaptWindow (transitions : Nat) (violation : Bool) (steps : List Int) (s : State) : Host.Outcome State Fault Refusal :=
  .next (s.keepQueue (
    if s.lnk.state == 0 && !s.sys.park.idle then s
    else
      let en := s.tst F.LNK_BCCLAMP_ADAPT_EN || s.sys.mode != 0x9
      let go := en && decide (256 ≤ transitions) && !violation && !s.sys.park.idle
      let t := s.wrs [(F.LNK_EYE_DENS, min 255 (transitions * 100 / 1024)), (F.LNK_EYE_FROZEN, flag (!go))]
      if go then
        let win := max 1 (t.rd F.LNK_BCCLAMP_WIN)
        let ctle := clampI 0 15 (t.rd F.LNK_BCEQ_CTLE + (steps.getD 0 0).sign)
        let taps := (List.range 4).map (fun i =>
          tapStep t.lnk.centred win (t.lnk.centres.getD i 0) (t.taps.getD i 0) (steps.getD (i + 1) 0))
        (t.wr F.LNK_BCEQ_CTLE ctle.toNat).setTaps taps
      else t))

/-- EYE_MONITOR (R424): the centres take the taps where the opening suffices, else the taps go back to their centres. -/
def execEyeMonitor (height width : Nat) (s : State) : Host.Outcome State Fault Refusal :=
  .next (s.keepQueue (
    if s.lnk.state == 0 then s
    else
      let t := s.wrs [(F.LNK_EYE_HEIGHT, min 255 height), (F.LNK_EYE_WIDTH, min 255 width)]
      if t.rd F.LNK_BCCLAMP_EYE_MIN ≤ height then { t with lnk := { t.lnk with centres := t.taps, centred := true } }
      else { t.setTaps t.lnk.centres with lnk := { t.lnk with centred := true } }))

/-! ### Commands -/

/-- What LNK_STAT reads as (R444). -/
def State.viewLnkStat (s : State) : Word :=
  w32 ((s.reg R.LNK_STAT).toNat / 2 ^ 14 * 2 ^ 14 + s.lnk.state + flag s.lnk.bcLock * 8 + s.lnk.active * 16 +
    s.lnk.good * 256 + flag s.lnk.noLstate * 4096 + flag s.lnk.hostSilent * 8192)

/-- LINK_STATUS (R439). -/
def srvLinkStatus (_k : Pkt) (s : State) : Ans × State :=
  s.ok ([s.viewLnkStat, s.reg R.LNK_CFG] ++ s.ffeWords ++ [s.reg R.LNK_BCEQ, s.reg R.LNK_EYE, w32 s.lnk.lseq])

/-- Whether an 8-bit MAP names every physical lane once (R440). -/
def mapPerm (m : Nat) : Bool :=
  let l := (List.range 4).map (fun i => m / 4 ^ i % 4)
  (List.range 4).all (fun i => l.contains i)

/-- A new lane configuration (R440): refused with a reason, or put in force with training begun. -/
def linkSet (cfg : Word) (s : State) : WRes × State :=
  if bits cfg 0 2 == 3 then (.refuse 4 0x80 0, s)
  else if bits cfg 4 4 == 0 || !mapPerm (bits cfg 16 8) then (.refuse 4 0x80 0, s)
  else if s.lnk.prevCfg.isSome || s.lnk.test.isSome || s.lnk.loop.isSome then (.refuse 8 0 0, s)
  else if !s.bandwidthOk s.staged (bits cfg 0 2) (bits cfg 4 4) then (.refuse 4 0x73 0, s)
  else
    let t := { s.setReg R.LNK_CFG (keepMask cfg 0xFF0FF3) with lnk := { s.lnk with prevCfg := some (s.reg R.LNK_CFG) } }
    (.ok, t.enterTrain)

/-- The answer of LINK_RATE and LANE_MAP: ACCEPTED once training has begun (R440). -/
def linkSetAns (r : WRes × State) : Ans × State :=
  match r.1 with
  | .ok => (.accepted [], r.2)
  | e => WRes.ans r.2 e

/-- LINK_RATE (R440). -/
def srvLinkRate (k : Pkt) (s : State) : Ans × State :=
  linkSetAns (linkSet (putBits (s.reg R.LNK_CFG) 0 2 (pf k 0 0 2)) s)

/-- LANE_MAP (R440). -/
def srvLaneMap (k : Pkt) (s : State) : Ans × State :=
  linkSetAns (linkSet (putBits (keepMask (pw k 0) 0xFF0FF0) 0 2 (s.rd F.LNK_CFG_RATE)) s)

/-- A lane's coefficients as last asked for. -/
def State.ffeAsked (s : State) (lane : Nat) : Nat × Nat :=
  match s.lnk.ffeNext.find? (fun p => p.1 == lane) with
  | some p => p.2
  | none => (bits (s.reg (ffeReg lane)) 0 4, bits (s.reg (ffeReg lane)) 4 5)

/-- Whether coefficients keep the bounds of R412. -/
def ffeOk (cm1 cp1 : Nat) : Bool := decide (cm1 ≤ 8 ∧ cp1 ≤ 16 ∧ cm1 + cp1 ≤ 20)

/-- One STEP action on a value: 1 up, 2 down, else hold; none below 0. -/
def ffeMove (a v : Nat) : Option Nat := if a = 1 then some (v + 1) else if a = 2 then (if v = 0 then none else some (v - 1)) else some v

/-- A lane's coefficients after the STEP actions, and whether a bound was met (R441). -/
def ffeStep (a b : Nat) (c : Nat × Nat) : (Nat × Nat) × Bool :=
  let (m, l1) := match ffeMove a c.1 with
    | some v => if ffeOk v c.2 then (v, false) else (c.1, true)
    | none => (c.1, true)
  let (p, l2) := match ffeMove b c.2 with
    | some v => if ffeOk m v then (v, false) else (c.2, true)
    | none => (c.2, true)
  ((m, p), l1 || l2)

/-- The presets of R412. -/
def ffePreset (n : Nat) : Nat × Nat :=
  [(0, 0), (0, 4), (0, 8), (0, 12), (2, 6), (2, 10), (4, 12), (4, 16)].getD n (0, 0)

/-- New coefficients asked for on a lane: at its next deskew marker where it is active, else at once (R412). -/
def State.askFfe (s : State) (lane : Nat) (c : Nat × Nat) : State :=
  { s with lnk := { s.lnk with ffeNext := s.lnk.ffeNext.filter (fun p => p.1 != lane) ++ [(lane, c.1, c.2)] } }

/-- The coefficients that FFE_REQUEST asks of one lane, and LIMIT where it steps (R441). -/
def ffeLane (k : Pkt) (s : State) (lane : Nat) : State :=
  if !(pf k 0 0 4).testBit lane then s
  else match pf k 0 4 2 with
    | 0 =>
      let r := ffeStep (pf k 1 0 2) (pf k 1 2 2) (s.ffeAsked lane)
      (s.askFfe lane r.1).wr ⟨ffeReg lane, 15, 1⟩ (flag r.2)
    | 1 => s.askFfe lane (ffePreset (pf k 0 8 3))
    | _ => s.askFfe lane (pf k 1 8 4, pf k 1 16 5)

/-- FFE_REQUEST (R441). -/
def srvFfeRequest (k : Pkt) (s : State) : Ans × State :=
  if pf k 0 4 2 == 3 then s.param 0x81
  else if pf k 0 4 2 == 2 && !ffeOk (pf k 1 8 4) (pf k 1 16 5) then s.param 0x81
  else
    let t := (List.range 4).foldl (ffeLane k) s
    if t.lnk.ffeNext.all (fun p => !t.lnk.active.testBit p.1) then
      let u := t.settleFfe
      u.ok u.ffeWords
    else (.later, t)

/-- FFE_APPLY (R412): the lane's next deskew marker puts its coefficients in force. The blocks up to it are left out: DESIGN CHOICE,
assumption 66. -/
def execFfeApply (lane : Nat) (s : State) : Host.Outcome State Fault Refusal :=
  .next (s.keepQueue (
    match s.lnk.ffeNext.find? (fun p => p.1 == lane) with
    | none => s
    | some p =>
      let t : State := { s with lnk := { s.lnk with index := s.lnk.index / 16384 * 16384 + 16383 } }
      let t := (t.setFfe lane p.2.1 p.2.2).marker t.lanes (s.lnk.mcount + 1)
      State.settleFfe { t with lnk := { t.lnk with ffeNext := t.lnk.ffeNext.filter (fun q => q.1 != lane) } }))

/-- The checkers of a test's targets start from nothing (R435). -/
def State.clearCheckers (s : State) (targets : Nat) : State :=
  { s with lnk := { s.lnk with checkers := (List.range 10).map (fun i =>
      if targets.testBit i then ⟨0, 0, false⟩ else s.lnk.checkers.getD i ⟨0, 0, false⟩) } }

/-- A PRBS test begun (R435, R442), or refused. -/
def testStart (tag : Option Nat) (targets pattern : Nat) (inject : Bool) (dur : Nat) (s : State) : WRes × State :=
  if targets == 0 then (.refuse 4 0x82 0, s)
  else if dur == 0 then (.refuse 4 0x83 0, s)
  else if 5 ≤ pattern then (.refuse 4 0x84 0, s)
  else if s.lnk.test.isSome then (.refuse 8 0 0, s)
  else
    let t := s.clearCheckers targets
    (.ok, { t with lnk := { t.lnk with state := 3, test := some ⟨tag, targets, pattern, inject, t.tt.clk, ms dur + t.tt.clk⟩ } })

/-- PRBS_CONFIG (R442). -/
def srvPrbsConfig (k : Pkt) (s : State) : Ans × State :=
  linkSetAns (testStart (some k.tag) (pf k 0 0 10) (pf k 0 10 3) ((pf k 0 13 1) != 0) (pf k 1 0 16) s)

/-- PRBS_READ (R442). -/
def srvPrbsRead (k : Pkt) (s : State) : Ans × State :=
  if 10 ≤ pf k 0 0 4 then s.param 0x82
  else
    let c := s.lnk.checkers.getD (pf k 0 0 4) ⟨0, 0, false⟩
    s.ok [w32 c.bits, w32 (c.bits / 2 ^ 32), w32 (c.errs + flag c.lock * 2 ^ 31)]

/-- What the checkers of a test's targets have counted at its end. The back channel's checker counts with every IDLE set; the
others' counts are not stated, so they are free, and a checker without lock counts no errors (R435). -/
def State.closeChecker (s : State) (lanesLooped : Bool) (targets i : Nat) : State :=
  if !targets.testBit i || i == 4 || (decide (i < 4) && !lanesLooped) then s
  else
    let (a, s1) := s.fresh
    let (b, s2) := s1.fresh
    let (c, s3) := s2.fresh
    let lock := c.toNat.testBit 31
    let x : Checker := ⟨a.toNat + b.toNat * 2 ^ 32, if lock then c.toNat % 2 ^ 31 else 0, lock⟩
    { s3 with lnk := { s3.lnk with checkers := s3.lnk.checkers.set i x } }

/-- A final reply that goes before those held back during a test (R435). -/
def State.finishFirst (s : State) (op : Nat) (tag : Option Nat) : State :=
  match tag with
  | none => s
  | some g =>
    match s.fe.opn.find? (fun o => o.op == op && o.tag == g) with
    | none => s
    | some o =>
      { s with fe := { s.fe with
          opn := s.fe.opn.filter (fun p => !(p.op == op && p.tag == g)),
          waiting := .reply op g o.gen 0 (s.tt.fn % 2 ^ 22) [] :: s.fe.waiting } }

/-- The PRBS test ends (R435). -/
def endTest (s : State) : State :=
  match s.lnk.test with
  | none => s
  | some x =>
    let t := (List.range 10).foldl (fun t i => t.closeChecker s.lnk.loop.isSome x.targets i) s
    State.finishFirst { t with lnk := { t.lnk with test := none } } 0x84 x.tag

/-- The internal loopback ends (R435). -/
def endLoop (s : State) : State :=
  match s.lnk.loop with
  | none => s
  | some x => State.finishFirst (State.wr { s with lnk := { s.lnk with loop := none } } F.LNK_LOOP_MODE 0) 0x86 x.tag

/-- The lanes retrain once no test runs (R435). -/
def retrainAfter (s : State) : State :=
  if s.lnk.state == 3 && s.lnk.test.isNone && s.lnk.loop.isNone then s.enterTrain else s

/-- TEST_END (R435): the test or loopback whose DURATION ends first ends, and the lanes retrain. -/
def execTestEnd (s : State) : Host.Outcome State Fault Refusal :=
  .next (s.keepQueue (
    match s.lnk.test, s.lnk.loop with
    | some x, some y =>
      if x.endAt ≤ y.endAt then retrainAfter (endTest (s.elapse x.endAt)) else retrainAfter (endLoop (s.elapse y.endAt))
    | some x, none => retrainAfter (endTest (s.elapse x.endAt))
    | none, some y => retrainAfter (endLoop (s.elapse y.endAt))
    | none, none => s))

/-- LOOPBACK in its modes (R436, R442). -/
def loopSet (tag : Option Nat) (mode dur : Nat) (s : State) : WRes × State :=
  match mode with
  | 0 =>
    let t := retrainAfter (endLoop s)
    (.ok, State.wr { t with lnk := { t.lnk with echo := false } } F.LNK_LOOP_MODE 0)
  | 1 =>
    if dur == 0 then (.refuse 4 0x83 0, s)
    else if s.lnk.loop.isSome then (.refuse 8 0 0, s)
    else
      (.ok, State.wr { s with lnk := { s.lnk with
        state := 3,
        loop := some ⟨tag, 0xF, 0, false, s.tt.clk, ms dur + s.tt.clk⟩ } } F.LNK_LOOP_MODE 1)
  | 2 => (.ok, State.wr { s with lnk := { s.lnk with echo := true } } F.LNK_LOOP_MODE 2)
  | _ => (.refuse 4 0x84 0, s)

/-- LOOPBACK (R442): MODE 1 is answered ACCEPTED, MODE 0 and MODE 2 with OK. -/
def srvLoopback (k : Pkt) (s : State) : Ans × State :=
  let r := loopSet (some k.tag) (pf k 0 0 2) (pf k 1 0 16) s
  if pf k 0 0 2 == 1 then linkSetAns r else WRes.ans r.2 r.1

/-! ### The passing of blocks -/

/-- Every coefficient that waits for a marker put in force at it (R412). -/
def State.markerFfe (s : State) : State :=
  State.settleFfe (s.lnk.ffeNext.foldl (fun (t : State) p => t.setFfe p.1 p.2.1 p.2.2) { s with lnk := { s.lnk with ffeNext := [] } })

/-- The next block of every lane: at index 16,383 of each interval of 16,384 a deskew marker (R415). -/
def State.laneBlock (s : State) : State :=
  if s.lnk.state = 2 ∧ s.lnk.index % 16384 = 16383 then (s.marker s.lanes (s.lnk.mcount + 1)).markerFfe else s.laneStep

/-- The time of a block on a lane, 130 bits at the lane rate (R409, R413), in 1/625 of a unit of `clk`. -/
def State.blockTime (s : State) : Nat := nsUnits25 * 260 * 2 ^ (s.rd F.LNK_CFG_RATE % 4)

/-- What a time `d` without a command brings to the lanes: the blocks that it holds. In electrical idle and in a test there are none. What
time a command takes brings none: DESIGN CHOICE, assumption 66. -/
def State.lanesSlot (s : State) (d : Nat) : State :=
  if (s.lnk.state = 1 ∨ s.lnk.state = 2) ∧ s.sys.park.idle = false then
    let acc := s.lnk.laneRem + 625 * d
    iter State.laneBlock (acc / s.blockTime) { s with lnk := { s.lnk with laneRem := acc % s.blockTime } }
  else s

/-! ### The register path -/

/-- A refused write of bank LNK sets ERR with the reason and leaves the register as it was (R442). -/
def lnkErr (r : WRes × State) : WRes × State :=
  match r.1 with
  | .ok => r
  | .refuse _ reason _ => (r.1, r.2.wrs [(F.LNK_STAT_ERR, 1), (F.LNK_STAT_REASON, reason)])

/-- A write of LNK_CFG acts as LINK_RATE or LANE_MAP (R443). -/
def wrLnkCfg (v : Word) (s : State) : WRes × State :=
  lnkErr (if [0x2, 0x9, 0xC].contains s.checkMode then linkSet (keepMask v 0xFF0FF3) s else (.refuse 5 0 0, s))

/-- A write of LNK_FFEn asks for its coefficients (R445). -/
def wrLnkFfe (lane : Nat) (v : Word) (s : State) : WRes × State :=
  if ffeOk (bits v 0 4) (bits v 4 5) then (.ok, (s.askFfe lane (bits v 0 4, bits v 4 5)).settleFfe)
  else lnkErr (.refuse 4 0x81 0, s)

/-- A write of LNK_TEST: with START it runs a test as PRBS_CONFIG does (R451). -/
def wrLnkTest (v : Word) (s : State) : WRes × State :=
  let put := fun (t : State) => t.setReg R.LNK_TEST (keepMask v 0xFFFF3FFF)
  if !bit v 14 then (.ok, put s)
  else lnkErr (
    if s.checkMode != 0x9 then (.refuse 5 0 0, s)
    else
      let r := testStart none (bits v 0 10) (bits v 10 3) (bit v 13) (bits v 16 16) s
      match r.1 with
      | .ok => (.ok, put r.2)
      | e => (e, s))

/-- A write of LNK_LOOP acts as LOOPBACK with LNK_TEST.DURATION (R451). -/
def wrLnkLoop (v : Word) (s : State) : WRes × State :=
  lnkErr (if s.checkMode != 0x9 then (.refuse 5 0 0, s) else loopSet none (bits v 0 2) (s.rd F.LNK_TEST_DURATION) s)

/-- LNK_TEST_START (R451). -/
def execLnkTestStart (value : Word) (s : State) : Host.Outcome State Fault Refusal :=
  .next (s.keepQueue (wrLnkTest (value ||| w32 0x4000) s).2)

/-- LNK_LOOP_WRITE (R451). -/
def execLnkLoopWrite (value : Word) (s : State) : Host.Outcome State Fault Refusal :=
  .next (s.keepQueue (wrLnkLoop value s).2)

/-- LNK_CFG_WRITE (R443). -/
def execLnkCfgWrite (value : Word) (s : State) : Host.Outcome State Fault Refusal :=
  .next (s.keepQueue (wrLnkCfg value s).2)

/-- The checker that LNK_PRBSSEL selects (R450). -/
def State.prbsSel (s : State) : Checker := s.lnk.checkers.getD (s.rd F.LNK_PRBSSEL_TARGET) ⟨0, 0, false⟩

/-- A read of LNK_PRBSBITS_LO copies the high word (R450). -/
def prbsBitsRead (s : State) : State := s.setReg R.LNK_PRBSBITS_HI (w32 (s.prbsSel.bits / 2 ^ 32))

/-- LNK_PRBSBITS_LO_READ (R450). -/
def execLnkPrbsbitsLoRead (s : State) : Host.Outcome State Fault Refusal :=
  .next (s.keepQueue (prbsBitsRead s))

/-- What the registers of bank LNK read as whose values are not kept whole in the memory (R444, R445, R450). -/
def viewLnk (a : Nat) (s : State) : Option Word :=
  if a = R.LNK_STAT then some s.viewLnkStat
  else if R.LNK_FFE0 ≤ a ∧ a ≤ R.LNK_FFE0 + 3 then
    let w := s.reg a
    some (putBits w 9 6 (48 - bits w 0 4 - bits w 4 5))
  else if a = R.LNK_PRBSBITS_LO then some (w32 s.prbsSel.bits)
  else if a = R.LNK_PRBSERR then some (w32 (s.prbsSel.errs + flag s.prbsSel.lock * 2 ^ 31))
  else none

end Sys2Proof.Machine
end

