-- ==== Sys2Proof/Machine/PipeA.lean ====
section
/-!
DEFINITION. The commands, registers and windows of Pipeline A (R264 to R300).
-/

namespace Sys2Proof.Machine

open Sys2Proof (Word Pkt)

/-- The bank of PA.TONE in force, as a staged word of its own: a commit that carries a curve carries the other bank's number
(R279). -/
def keyTone : Nat := 0x10003

/-- The bank of PA.TONE in force. -/
def State.toneBank (s : State) : Nat := (s.reg keyTone).toNat % 2

/-- Whether a commit that carries a curve is pending (R279). -/
def State.tonePending (s : State) : Bool := (s.pendView keyTone).toNat % 2 != s.toneBank

/-- The order in which entries of PA.DEFECT stand: (y, x) (R267). -/
def defectPlace (w : Word) : Nat := bits w 12 12 * 4096 + bits w 0 12

/-- The reason for which a LEN of PA.DEFECT is refused, with the offending entry (R267). -/
def State.lenReason (s : State) (len : Nat) : Option (Nat × Nat) :=
  if 8192 < len then some (0x41, 0)
  else
    let v := s.staged
    match (List.range (len - 1)).find? (fun i =>
      decide (defectPlace (v (wkey 0x0A01 (i + 1))) ≤ defectPlace (v (wkey 0x0A01 i)))) with
    | some i => some (0x40, i + 1)
    | none => none

/-- Whether a digital gain given is refused (R299). -/
def State.dgainBad (s : State) (g : Nat) : Bool := vtst s.staged F.EXP_CTRL_AE_EN || decide (g < 16 ∨ 16384 < g)

/-- PIPE_A_CONFIG (R285). -/
def srvPipeAConfig (k : Pkt) (s : State) : Ans × State := s.underLevel <|
  match s.lenReason (pf k 2 0 14) with
  | some (r, i) => s.paramAt r i
  | none =>
    let g := pf k 3 0 16
    if g != 0 && s.dgainBad g then s.param 0x45
    else
      let t := s.stage R.PA_CTRL (keepMask (pw k 0) 0x1FF)
      let t := t.stage R.PA_BLC (keepMask (pw k 1) 0xFF0F)
      let t := t.stage R.PA_DEFECT (keepMask (pw k 2) 0xFF3FFF)
      (if g = 0 then t else t.stage R.PA_DGAIN (w32 g)).ok []

/-- TONE_CURVE_LOAD (R279, R286). -/
def srvToneCurveLoad (k : Pkt) (s : State) : Ans × State :=
  let start := pf k 0 0 9
  let ws := (k.payload.drop 2).map (fun w => keepMask w 0xFFFF)
  if s.tonePending then s.fin 8 []
  else if 257 < start + ws.length then s.param 0x42
  else
    let b := 1 - s.toneBank
    let t := s.setRun (wkey 0x0A02 (257 * b + start)) ws
    if pf k 0 16 1 = 1 then
      ((t.stage R.PA_TONE (keepMask (pw k 1) 0x1FFFFF)).stage keyTone (w32 b)).ok []
    else t.ok []

/-- CCM_SET (R272, R287). -/
def srvCcmSet (k : Pkt) (s : State) : Ans × State :=
  let awb := vtst s.staged F.PA_CTRL_AWB_EN
  if awb && (pw k 5 != 0#32 || pw k 6 != 0#32) then s.param 0x43
  else
    let t := (List.range 4).foldl (fun t i => t.stage (R.PA_CCM0 + i) (pw k i)) s
    let t := t.stage R.PA_CCM4 (keepMask (pw k 4) 0xFFFF)
    let t := if awb then t else (t.stage R.PA_WB0 (pw k 5)).stage R.PA_WB1 (pw k 6)
    (t.stage R.PA_IRSUB (keepMask (pw k 7) 0xFFFFFF)).ok []

/-- PA_TNR staged: a reset asked for stays in the staged set until it is carried (R294). -/
def stageTnr (v : Word) (s : State) : State :=
  let asked := match s.stg.get? R.PA_TNR with
    | some w => bit w 31
    | none => false
  s.stage R.PA_TNR (putBits (keepMask v 0xFFFF7) 31 1 (flag (asked || bit v 31)))

/-- Whether the thresholds of PA_TNR are refused (R268). -/
def tnrBad (v : Word) : Bool := decide (bits v 12 8 ≤ bits v 4 8)

/-- TNR_CONFIG (R268, R288). -/
def srvTnrConfig (k : Pkt) (s : State) : Ans × State :=
  if tnrBad (pw k 0) then s.param 0x44 else (stageTnr (pw k 0) s).ok []

/-- A refused write of bank PA sets PA_STAT.ERR and REASON. -/
def paErr (s : State) (reason i : Nat) : WRes × State :=
  (.refuse 4 reason i, s.wrs [(F.PA_STAT_ERR, 1), (F.PA_STAT_REASON, reason)])

/-- A write of a register of bank PA (R289 to R300). -/
def wrPa (a : Nat) (v : Word) (s : State) : WRes × State :=
  if a = R.PA_DEFECT then
    match s.lenReason (bits v 0 14) with
    | some (r, i) => paErr s r i
    | none => (.ok, s.stage a (keepMask v 0xFF3FFF))
  else if a = R.PA_TNR then (if tnrBad v then paErr s 0x44 0 else (.ok, stageTnr v s))
  else if a = R.PA_WB0 ∨ a = R.PA_WB1 then
    if vtst s.staged F.PA_CTRL_AWB_EN then paErr s 0x43 0 else (.ok, s.stage a v)
  else if a = R.PA_DGAIN then
    if s.dgainBad (bits v 0 16) then paErr s 0x45 0 else (.ok, s.stage a (keepMask v 0xFFFF))
  else (.ok, s.stage a v)

/-- What PA_TONE reads as (R300). -/
def State.viewPaTone (s : State) : Word :=
  putBits (putBits (s.staged R.PA_TONE) 24 1 s.toneBank) 25 1 (flag ((s.staged keyTone).toNat % 2 != s.toneBank))

/-- A TABLE_WRITE of PA.LIN or PA.DEFECT: staged (R284). -/
def tblPa (wid start : Nat) (ws : List Word) (s : State) : WRes × State :=
  (.ok, s.stageRun (wkey wid start) (ws.map (fun w => keepMask w (if wid = 0x0A00 then 0xFFFF else 0xFFFFFF))))

/-- A TABLE_WRITE of PA.TONE, which reaches the words of the staged bank alone (R279). -/
def tblPaTone (start : Nat) (ws : List Word) (s : State) : WRes × State :=
  let b := 1 - s.toneBank
  if s.tonePending then (.refuse 8 0 0, s)
  else if start < 257 * b ∨ 257 * (b + 1) < start + ws.length then (.refuse 4 0x14 0, s)
  else (.ok, s.setRun (wkey 0x0A02 start) (ws.map (fun w => keepMask w 0xFFFF)))

end Sys2Proof.Machine
end

