-- ==== Sys2Proof/Machine/Template.lean ====
section
/-!
DEFINITION. What a template says a frame does and when: where its strobe events lie (R114, R120), its AUTO entries filled in (R101,
R104), and the table that a host reads (R102).
-/

namespace Sys2Proof.Machine

open Sys2Proof (Word)

/-- An entry with its position in slots filled in (R101). -/
def fillEntry (a : Word) (slots : Int) : Word :=
  putBits (putBits a 0 17 (unsigned 17 (slots / 16))) 17 4 (slots % 16).toNat

/-- The RP after the last read window's conversion (R58, R104): the last long read, or short read, of the frame. -/
def cutRp (v : View) : Nat :=
  let w := vW v
  let last := (sweepEnd (readSweeps v)).toNat + (if vShort v then vDs v else 0)
  ceilDiv (last + w) w * w + ceilDiv (5120 * 65536) (rpRaw v)

/-- The words that STROBE_CONFIG stages beside TT_STROBE: w1 and w2 (R120). -/
def keyStrobe1 : Nat := 0x10000
def keyStrobe2 : Nat := 0x10001

/-- Where the Timetable places STROBE_ON or STROBE_OFF as STROBE_CONFIG asks (R114, R120), in slots from RP 0. -/
def strobePlace (v : View) (on : Bool) : Option Int :=
  let w1 := v keyStrobe1
  match fld v F.TT_STROBE_MODE with
  | 1 =>
    match readRp v (bits w1 (if on then 13 else 0) 13) with
    | some p => some (if on then 16 * p + 4 * vW v - vTl v else 16 * p + 4 * vW v)
    | none => none
  | 2 =>
    let w := if on then w1 else v keyStrobe2
    some (16 * entPos w + entSlot w)
  | _ => none

/-- The strobe events of a kind (R101, R114): of each its place in slots from RP 0, its PERIOD and its PHASE. Those of a host's
template, each with its own word 1 and, with AUTO, placed as STROBE_CONFIG asks; without any, the one that STROBE_CONFIG places. -/
def strobeSlots (v : View) (on : Bool) : List (Int × Nat × Nat) :=
  match vEntries v (if on then 6 else 7) with
  | [] => (strobePlace v on).toList.map (fun p => (p, fld v F.TT_STROBE_PERIOD + 1, fld v F.TT_STROBE_PHASE))
  | es => es.filterMap (fun e =>
      (if entAuto e.1 then strobePlace v on else some (16 * entPos e.1 + entSlot e.1)).map (fun p => (p, bits e.2 0 4 + 1, bits e.2 4 4)))

/-- Where an AUTO entry lies, in slots, from the RP at which the first row of its sweep is read (R42, R43, R59, R101, R104, R110). -/
def autoSlot (v : View) (kind : Nat) (row0 : Nat) : Int :=
  let w := vW v
  let p := (readRp v row0).getD 0
  let i := (readIndex (blockRows (winRects v)) row0).getD 0
  let d := vDs v
  let d := if 0 < d && r59Moves v (d - 1) && !r59Clash v (readSweeps v) i (p + d - 1) then d - 1 else d
  match kind with
  | 2 => 16 * p + 4 * w - vTl v
  | 3 => 16 * p + 4 * w - placedLong (vTl v) 1
  | 4 => 16 * (p + d) + 12 * w - placedShort (vTl v) 0 (vQ v)
  | 5 => 16 * (p + d)
  | 6 => (strobePlace v true).getD 0
  | 7 => (strobePlace v false).getD 0
  | 9 => 16 * (cutRp v : Int)
  | 0x0B => - (ceilDiv (2560 * 65536 * 16) (16 * rpRaw v) : Int)
  | _ => 16 * p

/-- The template of a view with its AUTO entries filled in: the one a host loaded, or the built one (R101, R104), whose one LONG_READ
steps through the whole read set, since no RP is spent between its rows (R228). -/
def filledTemplate (v : View) : List (Word × Word) :=
  let rows := w32 ((48 + vNrow v) * 2 ^ 13)
  let entry := fun kind auto => w32 (kind * 2 ^ 21 + flag auto * 2 ^ 26)
  let loaded := vTemplate v
  let es := if loaded.isEmpty then
      [(entry 1 false, rows), (entry 2 true, rows), (entry 3 true, rows)] ++
      (if vShort v then [(entry 4 true, rows), (entry 5 true, rows)] else []) ++
      [(entry 8 true, 0#32), (entry 0x0B true, 0#32), (entry 9 true, 0#32), (entry 0x0A false, 0#32)]
    else loaded
  es.map (fun e =>
    let kind := entKind e.1
    if entAuto e.1 then (fillEntry e.1 (autoSlot v kind (if 1 ≤ kind ∧ kind ≤ 5 then bits e.2 0 13 else 0)), e.2) else e)

/-- The 513 words of TT.TEMPLATE as TABLE_READ finds them (R102), with the POP_QUIZ entries of the frame being read. -/
def templateWords (v : View) (quiz : List (Word × Word)) : List Word :=
  let es := filledTemplate v
  let all := es ++ quiz.take 4
  let ws := w32 (vVtotal v + es.length * 2 ^ 16) :: all.flatMap (fun e => [e.1, e.2])
  ws ++ List.replicate (513 - ws.length) 0#32

end Sys2Proof.Machine
end

