-- ==== Sys2Proof/Machine/Windows.lean ====
section
/-!
DEFINITION. Windows, binning and the Bell (R219 to R257).
-/

namespace Sys2Proof.Machine

open Sys2Proof (Word Byte Pkt)

/-! ### Windows and binning -/

/-- The footprint of a binned pixel, in pixels, on this variant (R232). -/
def footprint (mode : Nat) : Nat :=
  let base := if Config.mosaic = 2 then 8 else if Config.mosaic = 3 then 2 else 4
  if mode = 1 then base else if mode = 2 then 2 * base else 1

/-- A staged change refused: its reason and the window it names. -/
structure WinRefusal where
  reason : Nat
  idx : Nat
  deriving DecidableEq, Repr

/-- The first window that breaks a rule on windows as such (R219, R220, R226, R235). -/
def winReason (v : View) : Option WinRefusal :=
  let ws := winRects v
  let f := footprint (fld v F.WIN_BIN_MODE)
  let one := fun (w : WinRect) =>
    if w.skip = 3 then some 0x26
    else if w.bw = 0 ∨ w.bh = 0 ∨ 1024 < w.bx0 + w.bw ∨ 1024 < w.by0 + w.bh then some 0x20
    else if (w.disp ∧ ws.any (fun u => u.disp && decide (u.idx ≠ w.idx))) ∨ (w.code ∧ ws.any (fun u => u.code && decide (u.idx ≠ w.idx)))
    then some 0x21
    else if w.bx0 * 4 % f ≠ 0 ∨ w.by0 * 4 % f ≠ 0 ∨ w.bw * 4 % f ≠ 0 ∨ w.bh * 4 % f ≠ 0 then some 0x23
    else if 0 < w.skip ∧ 4 < f then some 0x24
    else none
  match ws.find? (fun w => (one w).isSome) with
  | some w => some ⟨(one w).getD 0, w.idx⟩
  | none => if ws.isEmpty then some ⟨0x25, 0⟩ else none

/-- RP that fills a frame period of `p` ns with `vt` RP, to the nearest 1/65,536 counter cycle (R116). -/
def rpFill (p vt : Nat) : Nat := roundUp (2097152 * p) (25 * vt)

/-- VTOTAL that fills a frame period of `p` ns at RPmin of s, to the nearest whole number, a tie going down (R116). -/
def vtFill (p s : Nat) : Nat := roundDown (2097152 * p) (25 * rpMinRaw s)

/-- TT_RP above 65,535 counter cycles (R116). -/
def rpTooLong (rp : Nat) : Bool := decide (65535 * 65536 < rp)

/-- The frame setting after a window change staged in `t` (R230): the staged set with VTOTAL or RP as the last SET_FRAME_RATE
asks, or the reason for which the change is refused. -/
def State.refitFrame (t : State) : Nat ⊕ State :=
  let v := t.staged
  let need := vVmin v
  if t.checkMode == 0x4 then
    if vVtotal v < need then .inl 0x22 else .inr t
  else if t.tt.stretch then
    if t.tt.rateVt = 0 then
      let rp := rpFill t.tt.period need
      if rp < rpMinRaw (maskCount (vMask v)) || rpTooLong rp || decide (65535 < need) then .inl 0x22
      else .inr ((t.stage R.TT_RP (w32 rp)).stageF F.TT_VTOTAL_VTOTAL need)
    else if vVtotal v < need then .inl 0x22 else .inr t
  else
    let vt := vtFill t.tt.period (maskCount (vMask v))
    if vt < need || decide (65535 < vt) then .inl 0x22
    else .inr ((t.stage R.TT_RP (w32 (rpMinRaw (maskCount (vMask v))))).stageF F.TT_VTOTAL_VTOTAL vt)

/-- A window change staged in `t`, with the frame refitted, or refused. -/
def winChange (t : State) (idx : Nat) : WinRefusal ⊕ State :=
  match winReason t.staged with
  | some r => .inl r
  | none =>
    match t.refitFrame with
    | .inl r => .inl ⟨r, idx⟩
    | .inr u =>
      match stagedReason u with
      | some r => .inl ⟨r, idx⟩
      | none => .inr u

/-- A PARAM reply of the window commands: the reason, and the window in w0 [15:8]. -/
def winAns (s : State) (r : WinRefusal) : Ans × State := s.fin 4 [w32 (r.reason + r.idx * 256)]

/-- WINDOW_SET (R223, R247). -/
def srvWindowSet (k : Pkt) (s : State) : Ans × State :=
  let want := pf k 0 0 8
  let idx := if want = 0xFF then ((List.range 16).find? (fun n => !bit (s.staged (winAddr n 2)) 0)).getD 16 else want
  if 16 ≤ idx then s.fin 6 []
  else
    let t := s.stage (winAddr idx 0) (keepMask (pw k 1) 0x3FF03FF)
    let t := t.stage (winAddr idx 1) (keepMask (pw k 2) 0x7FF07FF)
    let t := t.stage (winAddr idx 2) (keepMask (pw k 3) 0x3F ||| 1#32)
    match winChange t idx with
    | .inl r => winAns s r
    | .inr u => u.ok [w32 (idx + vVmin u.staged * 2 ^ 16)]

/-- WINDOW_CLEAR (R222, R248). -/
def srvWindowClear (k : Pkt) (s : State) : Ans × State :=
  let idx := pf k 0 0 8
  let off := fun (t : State) n => t.stage (winAddr n 2) (clearMask (t.staged (winAddr n 2)) 1)
  if idx ≠ 0xFF ∧ 16 ≤ idx then s.fin 6 []
  else
    let t := if idx = 0xFF then ((List.range 16).drop 1).foldl off s else off s idx
    match winChange t (if idx = 0xFF then 0 else idx) with
    | .inl r => winAns s r
    | .inr u => u.ok []

/-- A binning change staged in `t`, or refused: every row is read as before, so NROW, VMIN and the frame rate stay (R234, R235). -/
def binChange (t : State) : WinRefusal ⊕ State :=
  match winReason t.staged with
  | some r => .inl r
  | none => match stagedReason t with
    | some r => .inl ⟨r, 0⟩
    | none => .inr t

/-- BINNING_SET (R249). -/
def srvBinningSet (k : Pkt) (s : State) : Ans × State :=
  match binChange (s.stage R.WIN_BIN (w32 (pf k 0 0 2))) with
  | .inl r => winAns s r
  | .inr u => u.ok []

/-- A write of a register of bank WIN: staged under the same checks; a refusal is recorded in WIN_ERR. SKIP 3 is refused whether the
window is enabled or not (R226). -/
def wrWin (a : Nat) (v : Word) (s : State) : WRes × State :=
  let idx := (a - 0x0810) / 4
  let change :=
    if a = R.WIN_BIN then binChange (s.stage a v)
    else if a % 4 = 2 ∧ bits v 1 2 = 3 then .inl ⟨0x26, idx⟩
    else winChange (s.stage a v) idx
  match change with
  | .inl r => (.refuse 4 (r.reason + r.idx * 256) 0,
      s.wrs [(F.WIN_ERR_REASON, r.reason), (F.WIN_ERR_INDEX, r.idx), (F.WIN_ERR_VALID, 1)])
  | .inr u => (.ok, u)

/-! ### The Bell -/

/-- The exposure with which the frame that an event starts overlays its settings (R157, R241): with UNIT PASS that of the first entry's
context. -/
def State.bellOverlay (s : State) : Overlay :=
  if s.tst F.BEL_CFG_UNIT then
    let base := s.takenView
    ctxOverlay base (ctxWords s.live (bits ((seqList s.live).getD (s.rd F.SEQ_LOOPS_FIRST) 0#32) 0 8)) (s.tlRef base)
  else []

/-- LEAD of a frame in slots (R240): from its earliest template event to its RP 0 slot 0. -/
def frameLead (v : View) : Nat :=
  let at_ := (filledTemplate v).map (fun e => 16 * entPos e.1 + entSlot e.1) ++
    ([true, false].filterMap (fun on => (strobeSlots v on).head?.map (fun p => p.1)))
  (at_.foldl (fun (a : Int) p => max a (-p)) (leadSlots v : Int)).toNat

/-- The Bell takes an event (R240, R241): the frame's first event falls `delay` slots after the next slot boundary, its RP 0 LEAD
later. -/
def State.bellTake (s : State) (e : BellEv) (delay : Nat) : State :=
  let slot := s.slot
  let bound := if slot = 0 then s.tt.clk else s.tt.rp0 + ceilDiv (s.tt.clk - s.tt.rp0) slot * slot
  let t := s.elapse (onCycle bound)
  let fn := if t.tt.started then fnNext t.tt.fn else 0
  let v := (t.viewFor fn).over t.bellOverlay
  let first := max bound t.tt.clk + delay * rpRaw v
  let lat := if slot = 0 then 0 else (first - e.at_) / slot
  let t := (t.bump F.BEL_TAKEN_COUNT).wr F.BEL_LAT_SLOTS (min (2 ^ 24 - 1) lat)
  let t := { t with bel := { t.bel with busy := true, raised := none, lastTb := e.tb, lastFn := fn },
                    tt := { t.tt with startDue := some (first + frameLead v * rpRaw v) } }
  let t :=
    if t.tst F.BEL_CFG_UNIT then
      let run := seqRunAt t t.takenView fn (t.rd F.SEQ_LOOPS_FIRST) 1 true
      { t with taken := t.taken ++ [⟨fn, t.bellOverlay⟩], exp := { t.exp with seq := some run } }
    else t
  match e.tag with
  | some g => t.finish 0x54 g 0 fn []
  | none => t

/-- A Bell event is raised (R239, R242, R243): taken at the next slot boundary, held while the Bell is busy, or dropped. -/
def State.bellRaise (s : State) (e : BellEv) : State :=
  if s.bel.busy || s.bel.raised.isSome then
    match s.bel.queue with
    | none => { s with bel := { s.bel with queue := some e } }
    | some _ =>
      let t := s.bump F.BEL_DROP_COUNT
      let t := t.event 0x04 [w32 (t.rd F.BEL_DROP_COUNT)]
      match e.tag with
      | some g => t.finish 0x54 g 8 t.tt.fn []
      | none => t
  else { s with bel := { s.bel with raised := some e } }

/-- TRIGGER_CONFIG (R241, R246, R250), on either path. -/
def bellConfig (v : Word) (s : State) : WRes × State :=
  if s.bel.busy || s.bel.queue.isSome then (.refuse 8 0 0, s)
  else
    let bad := if bit v 3 then
        let first := s.rd F.SEQ_LOOPS_FIRST
        if (seqList s.live).length ≤ first then some (0x0B, 0)
        else listReason s s.staged s.takenView s.effBefore (seqList s.live) first 1 (s.tlRef s.takenView)
      else none
    match bad with
    | some (r, i) => (listRefuse r i, s)
    | none => (.ok, s.setReg R.BEL_CFG (keepMask v 0xFFFFFF0F))

/-- TRIGGER_CONFIG (R250). -/
def srvTriggerConfig (k : Pkt) (s : State) : Ans × State :=
  let r := bellConfig (pw k 0) s
  seqAns r.2 r.1

/-- A write of BEL_CFG; a refusal is recorded in WIN_ERR. -/
def wrBelCfg (v : Word) (s : State) : WRes × State :=
  let r := bellConfig v s
  match r.1 with
  | .ok => r
  | .refuse _ reason _ => (r.1, r.2.wrs [(F.WIN_ERR_REASON, reason % 256), (F.WIN_ERR_INDEX, 0), (F.WIN_ERR_VALID, 1)])

/-- TRIGGER_FIRE (R238, R245, R251): raised now, or scheduled at AT. It is answered when its frame's start is fixed. -/
def srvTriggerFire (k : Pkt) (s : State) : Ans × State :=
  let at_ := (pw k 0).toNat + (pw k 1).toNat * 2 ^ 32
  if s.sys.mode != 0x5 || !(s.rd F.BEL_CFG_SRC).testBit 1 then
    State.fin (s.bump F.CMD_STATE_COUNT) 5 [w32 s.sys.mode]
  else if at_ = 0 then
    (.later, { s with bel := s.bel })
  else if s.bel.sched.isSome then s.fin 8 []
  else if at_ ≤ s.tt.tb then (.later, s.wr F.BEL_STAT_LATE 1)
  else (.later, { s with bel := { s.bel with sched := some (at_, k.tag) } })

/-- What TRIGGER_FIRE raises once its command is open: an event now, unless it was scheduled. -/
def fireNow (k : Pkt) (s : State) : State :=
  if s.fe.opn.any (fun o => o.op == 0x54 && o.tag == k.tag) && s.bel.sched.all (fun p => p.2 != k.tag) then
    s.bellRaise ⟨s.tt.clk, s.tt.tb, some k.tag⟩
  else s

/-- BELL_TAKE (R239, R240): the event that waits for its slot boundary is taken. -/
def execBellTake (s : State) : Host.Outcome State Fault Refusal :=
  .next (s.keepQueue (
    match s.bel.raised with
    | some e => if s.sys.mode == 0x5 then s.bellTake e (s.rd F.BEL_CFG_DELAY) else s
    | none => s))

/-- TRIG_IN_EDGE (R238): `after` × 2 ns from now, an edge of the polarity chosen that holds for `held` ns. -/
def execTrigInEdge (after : Nat) (falling : Bool) (held : Nat) (s : State) : Host.Outcome State Fault Refusal :=
  .next (s.keepQueue (
    let minw := 2 * max 1 (s.rd F.BEL_CFG_MINW)
    if s.sys.mode != 0x5 || !(s.rd F.BEL_CFG_SRC).testBit 0 || s.tst F.BEL_CFG_EDGE != falling || decide (held < minw) then s
    else
      let t := s.elapse (ns (2 * after + minw + 8) + s.tt.clk)
      t.bellRaise ⟨t.tt.clk, t.tt.tb, none⟩))

/-- When TB reaches a value, in units of `clk`. -/
def State.clkAtTb (s : State) (tb : Nat) : Nat :=
  let r := s.rlNow
  s.tt.clk + ceilDiv ((tb - s.tt.tb) * r.1 - s.tt.tbRem) (65536 * r.2)

/-- TRIGGER_AT_REACHED (R245): TB reaches the AT of the scheduled TRIGGER_FIRE. -/
def execTriggerAtReached (s : State) : Host.Outcome State Fault Refusal :=
  .next (s.keepQueue (
    match s.bel.sched with
    | none => s
    | some (at_, tag) =>
      let t := s.elapse (s.clkAtTb at_)
      State.bellRaise { t with bel := { t.bel with sched := none } } ⟨t.tt.clk, at_, some tag⟩))

/-- BELL_BUSY_END (R242): at RP VTOTAL - LEAD of the last frame the event started, LEAD being that of the frame that can follow it; a
held event is taken at once. -/
def execBellBusyEnd (s : State) : Host.Outcome State Fault Refusal :=
  .next (s.keepQueue (
    let passes := match s.exp.seq with
      | some r => r.trig && r.last != some s.tt.fn
      | none => false
    if !s.bel.busy || passes then s
    else
      let v := s.viewFor s.bel.lastFn
      let next := (s.viewFor (fnNext s.bel.lastFn)).over s.bellOverlay
      let rp0 := match s.tt.startDue with
        | some t => t
        | none => s.tt.rp0
      let t := s.elapse (onCycle (rp0 + 16 * vVtotal v * rpRaw v - frameLead next * rpRaw next))
      let t := { t with bel := { t.bel with busy := false } }
      match t.bel.queue with
      | some e => State.bellTake { t with bel := { t.bel with queue := none } } e 0
      | none => t))

/-- Leaving TRIGGERED mode discards a held event and a scheduled AT (R246); what raised them is answered BUSY. -/
def State.bellLeave (s : State) : State :=
  let tags := (s.bel.queue.bind (fun e => e.tag)).toList ++ (s.bel.raised.bind (fun e => e.tag)).toList ++
    (s.bel.sched.map (fun p => p.2)).toList
  tags.foldl (fun t g => t.finish 0x54 g 8 t.tt.fn [])
    { s with bel := { s.bel with queue := none, raised := none, sched := none } }

/-- A read of BEL_LAST_LO copies the high word of the TB of the last event taken (R257). -/
def belLastRead (s : State) : State := s.setReg R.BEL_LAST_HI (w32 (s.bel.lastTb / 2 ^ 32))

/-- BEL_LAST_LO_READ (R257). -/
def execBelLastLoRead (s : State) : Host.Outcome State Fault Refusal := .next (s.keepQueue (belLastRead s))

end Sys2Proof.Machine
end

