-- ==== Sys2Proof/Machine/Homeroom.lean ====
section
/-!
DEFINITION. The Homeroom settings and the warm-start record (R500 to R502): their slots in MTP, their checks, and how they come
into force at start-up and in LIMP (R507).
-/

namespace Sys2Proof.Machine

open Sys2Proof (Word)

/-! ### The words of a slot -/

/-- The words of a Homeroom slot that carry registers, with the register of each (R500). -/
def hrMap : List (Nat × Nat) :=
  [(2, winAddr 0 0), (3, winAddr 0 1), (4, winAddr 0 2), (7, R.EXP_SAMPLES), (8, R.EXP_TL), (9, R.EXP_RATIO), (10, R.EXP_CTRL),
   (11, R.EXP_AE_CFG), (12, R.EXP_AE_TARGET), (13, R.EXP_AE_TLMAX), (14, R.EXP_FLICKER), (15, R.CNV_RAMP), (16, R.SP_CTRL),
   (17, R.SP_LAW), (18, R.SP_BAND), (19, R.PA_CTRL), (20, R.PA_CCM0), (21, R.PA_CCM1), (22, R.PA_CCM2), (23, R.PA_CCM3),
   (24, R.PA_CCM4), (25, R.PA_WB0), (26, R.PA_WB1), (27, R.PA_DGAIN), (28, R.PA_TONE), (29, R.OUT_ROUTE), (30, R.OUT_DFMT),
   (31, R.OUT_DSIZE), (32, R.OUT_CROP0), (33, R.OUT_CROP1), (34, R.OUT_PRIO)]

/-- The words of a Homeroom slot that carry the link's registers. -/
def hrLink : List (Nat × Nat) :=
  [(35, R.LNK_CFG), (36, R.LNK_FFE0), (37, R.LNK_FFE1), (38, R.LNK_FFE2), (39, R.LNK_FFE3), (40, R.LNK_SWING)]

/-- The bits of a register that a Homeroom word carries: those that a host can write. MESH_EN acts as 0. -/
def hrMask (a : Nat) : Nat :=
  match findReg a with
  | some d => if a = R.OUT_DFMT then d.rw - 2 ^ F.OUT_DFMT_MESH_EN.lo else d.rw ||| d.rwl
  | none => 0

/-- The built-in settings (R500): reset values with their exceptions. -/
def hrBuilt : List Word :=
  (List.range 128).map (fun i =>
    match (hrMap ++ hrLink).find? (fun p => p.1 == i) with
    | some (_, a) =>
      let w := w32 (regReset a)
      if a = R.EXP_CTRL then putBits w F.EXP_CTRL_AE_EN.lo 1 1
      else if a = R.OUT_ROUTE then 1#32
      else if a = R.LNK_CFG then putBits w 0 2 1
      else if R.LNK_FFE0 ≤ a ∧ a ≤ R.LNK_FFE3 then putBits (putBits w 0 4 (ffePreset 4).1) 4 5 (ffePreset 4).2
      else w
    | none => if i = 0 then 1#32 else if i = 5 then 16666667#32 else if i = 6 then 0x10000#32 else 0#32)

/-- Registers put in force from the words of a slot. -/
def State.putWords (s : State) (m : List (Nat × Nat)) (ws : List Word) : State :=
  m.foldl (fun t p => t.setReg p.2 (keepMask (ws.getD p.1 0#32) (hrMask p.2) ||| clearMask (t.reg p.2) (hrMask p.2))) s

/-- The RP and VTOTAL that a frame setting gives (R116), under the live settings. -/
def State.frameOf (s : State) (period vtw : Nat) (stretch : Bool) : Nat × Nat :=
  let mc := maskCount (vMask s.live)
  let vt := if stretch then (if vtw = 0 then vVmin s.live else vtw) else vtFill period mc
  (if stretch then rpFill period vt else rpMinRaw mc, vt)

/-- A frame setting put in force. -/
def State.putFrame (s : State) (period vtw : Nat) (stretch : Bool) : State :=
  let p := s.frameOf period vtw stretch
  State.wrs { s with tt := { s.tt with period := period, rateVt := if stretch then vtw else 0, stretch := stretch } }
    [(⟨R.TT_RP, 0, 32⟩, p.1), (F.TT_VTOTAL_VTOTAL, p.2)]

/-- The frame setting of a slot's words 5 and 6. -/
def State.putHrFrame (s : State) (ws : List Word) : State :=
  s.putFrame (ws.getD 5 0#32).toNat (bits (ws.getD 6 0#32) 0 16) (bit (ws.getD 6 0#32) 16)

/-! ### The check of a slot -/

/-- The first word of a slot that a field check refuses (R500): the checks that the commands carrying the fields would apply, on a
device that stands at reset with these settings. -/
def hrBad (ws : List Word) : Option Nat :=
  let w := fun i => ws.getD i 0#32
  let t := ((State.reset.putWords hrMap ws).putWords hrLink ws).putHrFrame ws
  let v := t.live
  let win := (winReason v).map (fun r => r.reason)
  if bits (w 0) 0 8 ≠ 1 then some 0
  else if win = some 0x23 then some 2
  else if win = some 0x20 then some 3
  else if win.isSome then some 4
  else if !maskOk (vMask v) then some 7
  else if rpRaw v < rpMinRaw (maskCount (vMask v)) || rpTooLong (rpRaw v) then some 5
  else if vVtotal v < vVmin v || decide (65535 < (t.frameOf t.tt.period (bits (w 6) 0 16) t.tt.stretch).2) then some 6
  else if (bits (w 9) 0 4 < 2) || decide (10 < bits (w 9) 0 4) then some 9
  else if (checkSame v).isSome || decide (1048560 < vTl v) then some 8
  else if bits (w 17) 16 12 = 0 ∨ 3839 < bits (w 17) 16 12 ∨ bits (w 17) 0 4 = 0 ∨ bits (w 17) 4 4 = 0 then some 17
  else if bits (w 18) 0 6 < 4 then some 18
  else if bits (w 27) 0 16 < 16 ∨ 16384 < bits (w 27) 0 16 then some 27
  else if sizeBad v then some 31
  else if !prioOk (w 34) then some 34
  else if bits (w 35) 0 2 = 3 ∨ bits (w 35) 4 4 = 0 ∨ mapPerm (bits (w 35) 16 8) = false then some 35
  else match (List.range 4).find? (fun i => !ffeOk (bits (w (36 + i)) 0 4) (bits (w (36 + i)) 4 5)) with
    | some i => some (36 + i)
    | none =>
      if !t.bandwidthOk v (bits (w 35) 0 2) (bits (w 35) 4 4) || t.encoderBad v then some 29
      else if t.fallbackBad v then some 30
      else none

/-- The MTP key of Homeroom slot `n`. -/
def hrKey (n : Nat) : Nat := mtpKey (6656 + 512 * n)

/-- The words of Homeroom slot `n`. -/
def State.hrSlot (s : State) (n : Nat) : List Word := s.run (hrKey n) 128

/-- Whether a run of words ends in the CRC of those before it (R356). -/
def crcGood (ws : List Word) : Bool := ws.getLast?.getD 0#32 == crc32c ws.dropLast

/-- Whether a slot passes (R500). -/
def hrPasses (ws : List Word) : Bool := crcGood ws && (hrBad ws).isNone

/-- The place among two of the record to use: good ones alone, the one with the higher SEQ first (R500, R502). -/
def newer (good0 good1 : Bool) (seq0 seq1 : Nat) : Option Nat :=
  if good0 && good1 then some (if seqLe seq1 seq0 then 0 else 1) else if good0 then some 0 else if good1 then some 1 else none

/-- The source of the Homeroom settings: 0 or 1 for a slot, 2 for the built-in ones, with their words (R500). -/
def State.hrChoose (s : State) : Nat × List Word :=
  let a := s.hrSlot 0
  let b := s.hrSlot 1
  match newer (hrPasses a) (hrPasses b) (a.getD 1 0#32).toNat (b.getD 1 0#32).toNat with
  | some n => (n, s.hrSlot n)
  | none => (2, hrBuilt)

/-- The window of the settings in use, as they were read at start (R500). -/
def widHr : Nat := 0xFD04

/-- The Homeroom settings in use. -/
def State.homeroom (s : State) : List Word := s.run (wkey widHr 0) 128

/-- RP of the Homeroom settings (R518). -/
def State.homeroomRp (s : State) : Nat :=
  rpRaw (((State.reset.putWords hrMap s.homeroom).putHrFrame s.homeroom).live)

/-- START_MODE of the Homeroom settings. -/
def State.startMode (s : State) : Nat := if bit (s.reg (wkey widHr 41)) 0 then 0x2 else 0x3

/-! ### The warm-start record -/

/-- The MTP key of warm-start slot `n` (R501). -/
def warmKey (n : Nat) : Nat := mtpKey (6144 + 256 * n)

/-- The words of warm-start slot `n`. -/
def State.warmSlot (s : State) (n : Nat) : List Word := s.run (warmKey n) 64

/-- Whether a warm-start slot can be used (R502). -/
def warmOk (ws : List Word) : Bool := bits (ws.getD 0 0#32) 0 8 == 1 && crcGood ws

/-- The warm-start slot to use (R502). -/
def State.warmBest (s : State) : Option Nat :=
  newer (warmOk (s.warmSlot 0)) (warmOk (s.warmSlot 1)) ((s.warmSlot 0).getD 1 0#32).toNat ((s.warmSlot 1).getD 1 0#32).toNat

/-- The warm-start record in use at this start, if it is warm. -/
def State.warmRecord (s : State) : Option (List Word) := s.warmBest.map s.warmSlot

/-! ### Loading -/

/-- The reads of MTP at start (R495 step 1): the Homeroom settings with the link's registers, and whether the start is warm, with the
link's and the plans' values of the record over them. -/
def State.loadHomeroom (s : State) : State :=
  let h := s.hrChoose
  let t := State.setRun { s with sys := { s.sys with hrSrc := h.1, warm := s.warmBest.isSome } } (wkey widHr 0) h.2
  let t := t.putWords hrLink h.2
  match s.warmRecord with
  | none => t
  | some w =>
    let t := t.putWords [(18, R.LNK_CFG), (19, R.LNK_FFE0), (20, R.LNK_FFE1), (21, R.LNK_FFE2), (22, R.LNK_FFE3)] w
    let t := t.setReg R.LNK_BCEQ (w.getD 23 0#32)
    let t := (List.range 4).foldl (fun (u : State) n => u.setRun (wkey 0x0F00 (16 * n)) ((w.drop (2 + 2 * n)).take 2)) t
    { t with lnk := { t.lnk with centres := t.taps } }

/-- The exposure values of a warm-start record, within the Homeroom AE limits (R501). -/
def State.putWarm (s : State) (w : List Word) : State :=
  let g := fun (i : Nat) => w.getD i 0#32
  let gmax := s.rd F.EXP_AE_TLMAX_GMAX
  let q := clampN (s.rd F.EXP_RATIO_QMIN) (s.rd F.EXP_RATIO_QMAX) (bits (g 26) 0 4)
  let b := s.aeBounds q
  State.wrs s [(F.EXP_TL_SLOTS, clampN b.1 b.2.1 (bits (g 24) 0 20)), (F.CNV_RAMP_GAIN_HCG, min gmax (bits (g 25) 0 2)),
    (F.CNV_RAMP_GAIN_LCG, bits (g 25) 2 2), (F.CNV_RAMP_GAIN_LOFIC, bits (g 25) 4 2), (F.CNV_RAMP_GAIN_SHORT, bits (g 25) 6 2),
    (F.EXP_RATIO_Q, q), (F.PA_DGAIN_GAIN, clampN 16 16384 (bits (g 27) 0 16)), (F.PA_WB0_GR, bits (g 28) 0 16),
    (F.PA_WB0_GG, bits (g 28) 16 16), (F.PA_WB1_GB, bits (g 29) 0 16), (F.PA_WB1_GI, bits (g 29) 16 16)]

/-- The Homeroom settings loaded, with the warm values over them (R495 step 8). -/
def State.startSettings (s : State) : State :=
  let ws := s.homeroom
  let t := (s.putWords hrMap ws).putHrFrame ws
  let t := match t.warmRecord with
    | some w => t.putWarm w
    | none => t
  { t with exp := { t.exp with aeTl := vTl t.live } }

/-- Every staged register but those of Pipeline B, at its reset value. -/
def State.resetSettings (s : State) : State :=
  let banks := [0x03, 0x04, 0x05, 0x06, 0x07, 0x08, 0x0A, 0x0C, 0x0D]
  let wins := [0x0600, 0x0601, 0x0500, 0x0701, 0x0A00, 0x0A01, 0x0D01, widTpl]
  let t := { s with mem := s.mem.filter (fun p =>
    !(wins.contains (p.1 / 2 ^ 24)) && !([keyBank, keyTone, 0x10000, 0x10001].contains p.1)) }
  (banks.flatMap regBank).foldl (fun (u : State) d =>
    if d.stg = 0 then u else u.setReg d.addr (keepMask (w32 d.reset) d.stg ||| clearMask (u.reg d.addr) d.stg)) t

/-- The settings of LIMP (R507): Homeroom settings, STRETCH 1 and a period of 33,333,333 ns; nothing is staged or pending. The link
runs as configured, and Pipeline B keeps its settings. The frame before keeps its own for what is still converted of it. -/
def State.limpSettings (s : State) : State :=
  let t := { s with stg := [], pend := none, taken := [] }
  let t := (t.resetSettings.putWords hrMap s.homeroom).putFrame 33333333 0 true
  let changed := ((s.mem ++ t.mem).map (fun p => p.1)).filter (fun k => s.reg k != t.reg k && (s.pix.prevOv.get? k).isNone)
  let prev : Overlay := changed.foldl (fun o k => o.put k (s.reg k)) s.pix.prevOv
  { t with exp := { t.exp with seq := none, ended := s.seqFrames, aeTl := vTl t.live }, pix := { t.pix with prevOv := prev } }

/-! ### SYS.HOMEROOM -/

/-- A TABLE_WRITE of SYS.HOMEROOM (R489, R500): the buffer is filled, and with word 127 it is checked and programmed into the slot
with the lower SEQ; the final reply follows the write. -/
def tblHomeroom (tag start : Nat) (ws : List Word) (s : State) : Ans × State :=
  if s.checkMode != 0x2 && s.checkMode != 0xC then
    State.fin (s.bump F.CMD_STATE_COUNT) 5 [w32 s.checkMode]
  else
    let t := s.setRun (wkey widHrBuf start) ws
    if start + ws.length < 128 then t.ok []
    else
      let b := t.run (wkey widHrBuf 0) 128
      if !crcGood b then s.param 0x17
      else match hrBad b with
        | some i => s.paramAt 0x18 i
        | none =>
          let a := t.hrSlot 0
          let c := t.hrSlot 1
          let n := match newer (hrPasses a) (hrPasses c) (a.getD 1 0#32).toNat (c.getD 1 0#32).toNat with
            | some n => 1 - n
            | none => 0
          (.later, { t with sys := { t.sys with mtpQueue := t.sys.mtpQueue ++ [⟨hrKey n, b, some (0x15, tag)⟩] } })

/-! ### The warm-start write -/

/-- The words of a warm-start record now (R501). The DRAM training results are free values. -/
def State.warmWords (s : State) : List Word × State :=
  let seq := match s.warmRecord with
    | some w => (w.getD 1 0#32).toNat + 1
    | none => 1
  let plans := (List.range 4).flatMap (fun n => [s.reg (R.CLK_PLL0_PLAN0 + 4 * n), s.reg (R.CLK_PLL0_PLAN1 + 4 * n)])
  let p := (List.range 8).foldl (fun (q : List Word × State) _ => let f := q.2.fresh; (q.1 ++ [f.1], f.2)) ([], s)
  let body := [1#32, w32 seq] ++ plans ++ p.1 ++
    [s.reg R.LNK_CFG, s.reg R.LNK_FFE0, s.reg R.LNK_FFE1, s.reg R.LNK_FFE2, s.reg R.LNK_FFE3, s.reg R.LNK_BCEQ,
     s.reg R.EXP_TL, s.reg R.CNV_RAMP, s.reg R.EXP_RATIO, s.reg R.PA_DGAIN, s.reg R.PA_WB0, s.reg R.PA_WB1,
     w32 (s.rd F.THM_MAX_TMAX + s.pwr.vin % 65536 * 2 ^ 16)] ++ List.replicate 32 0#32
  (body ++ [crc32c body], p.2)

/-- The write of the warm-start record into the other slot (R502). -/
def State.warmWrite (s : State) : State :=
  let n := match s.warmBest with
    | some n => 1 - n
    | none => 0
  let (ws, t) := s.warmWords
  { t with sys := { t.sys with mtpQueue := t.sys.mtpQueue ++ [⟨warmKey n, ws, none⟩], warmAt := some t.tt.clk } }

/-- Whether TL has changed by more than 0.5 EV from the record, or any link or PLL value has changed (R502). -/
def State.warmDue (s : State) : Bool :=
  match s.warmRecord with
  | none => true
  | some w =>
    let a := s.rd F.EXP_TL_SLOTS
    let b := bits (w.getD 24 0#32) 0 20
    let now := s.warmWords.1
    decide (2 * b * b < a * a) || decide (2 * a * a < b * b) ||
      ([2, 3, 4, 5, 6, 7, 8, 9] ++ [18, 19, 20, 21, 22, 23]).any (fun i => now.getD i 0#32 != w.getD i 0#32)

/-- WARM_START_WRITE (R502): while streaming, at most once every 30 minutes. -/
def execWarmStartWrite (s : State) : Host.Outcome State Fault Refusal :=
  .next (s.keepQueue (
    let early := match s.sys.warmAt with
      | some t => decide (s.tt.clk < ms 1800000 + t)
      | none => false
    if s.sys.fw != .running || !streamingMode s.sys.mode || early || !s.warmDue then s else s.warmWrite))

end Sys2Proof.Machine
end

