-- ==== Sys2Proof/Machine/Timetable.lean ====
section
/-!
DEFINITION. The commands of the Timetable (R111 to R121), frame templates (R100 to R104), and the lock to line marks (R89 to
R99).
-/

namespace Sys2Proof.Machine

open Sys2Proof (Word Byte Pkt)

/-! ### Commit -/

/-- SETTINGS_COMMIT (R111, R112, R121), checked under R143. -/
def srvSettingsCommit (_k : Pkt) (s : State) : Ans × State :=
  if s.pend.isSome then s.fin 8 []
  else match s.commitReason with
    | some r => s.param r
    | none =>
      let t := s.commit false
      (.done 0 (t.reg R.TT_APPLYFN).toNat [], t)

/-- A write of 1 to TT_COMMIT.REQ (R111, R143). -/
def wrTtCommit (s : State) : WRes × State :=
  if s.pend.isSome then (.ok, s)
  else match s.commitReason with
    | some r => (.refuse 4 r 0, s)
    | none => (.ok, s.commit false)

/-- TT_COMMIT_REQ (R111): without effect while a set is pending. -/
def execTtCommitReq (s : State) : Host.Outcome State Fault Refusal := .next (s.keepQueue (wrTtCommit s).2)

/-! ### Frame rate -/

/-- Whether RP and VTOTAL of a staged set keep R116, with the reason of R704 where they do not. -/
def rateReason (v : View) : Option Nat :=
  if rpRaw v < rpMinRaw (maskCount (vMask v)) || rpTooLong (rpRaw v) then some 0x02
  else if vVtotal v < vVmin v then some 0x22
  else none

/-- SET_FRAME_RATE (R116). -/
def srvSetFrameRate (k : Pkt) (s : State) : Ans × State :=
  let period := (pw k 0).toNat
  let stretch := pf k 1 16 1 == 1
  let mc := maskCount (vMask s.staged)
  let vt := if stretch then (if pf k 1 0 16 = 0 then vVmin s.live else pf k 1 0 16) else vtFill period mc
  let rp := if stretch then rpFill period vt else rpMinRaw mc
  if s.checkMode == 0x4 then State.fin (s.bump F.CMD_STATE_COUNT) 5 [w32 s.checkMode]
  else if rp < rpMinRaw mc || rpTooLong rp then s.param 0x02
  else if vt < vVmin s.staged || decide (65535 < vt) then s.param 0x22
  else
    let t := ((s.stage R.TT_RP (w32 rp)).stageF F.TT_VTOTAL_VTOTAL vt).stage (wkey widTpl 0) 0#32
    match stagedReason t with
    | some r => s.param r
    | none =>
      let u := { t with tt := { t.tt with period := period, rateVt := if stretch then pf k 1 0 16 else 0, stretch := stretch } }
      u.ok [w32 rp, w32 vt]

/-- A write of TT_RP or TT_VTOTAL, checked as SET_FRAME_RATE with STRETCH 1 checks the RP and VTOTAL that result. -/
def wrRate (a : Nat) (v : Word) (s : State) : WRes × State :=
  if s.checkMode == 0x4 then (.refuse 5 0 0, s)
  else
    let t := s.stage a v
    match rateReason t.staged with
    | some r => (.refuse 4 r 0, s)
    | none =>
      match stagedReason t with
      | some r => (.refuse 4 r 0, s)
      | none => (.ok, t)

/-! ### Templates -/

/-- A refused template: the reason, and the first offending entry, 0xFFFF for the header or the RP (R102). -/
structure TplRefusal where
  reason : Nat
  idx : Nat
  deriving DecidableEq, Repr

/-- The check of R102 on a header and its entries, against the staged set and the RP in force. -/
def tplReason (v : View) (rp : Nat) (hdr : Word) (es : List (Word × Word)) : Option TplRefusal :=
  let vt := bits hdr 0 16
  let ix := (List.range es.length).zip es
  let spans := longSpans (ix.map (fun p => (p.1, p.2.1, p.2.2))) 0
  let clash := spans.find? (fun a => spans.any (fun b => decide (b.1 < a.1 ∧ b.2.1 < a.2.1 + a.2.2 ∧ a.2.1 < b.2.1 + b.2.2)))
  let commits := ix.filter (fun p => entKind p.2.1 == 0x0A)
  let bad := fun (p : Nat × Word × Word) =>
    let kind := entKind p.2.1
    kind = 0 ∨ 0x0C ≤ kind ∨ (2 ≤ kind ∧ kind ≤ 5 ∧ entAuto p.2.1 = false) ∨
      (entAuto p.2.1 = false ∧ (entPos p.2.1 < -(vt : Int) ∨ (vt : Int) ≤ entPos p.2.1)) ∨
      (kind = 0x0A ∧ commits.any (fun q => decide (q.1 < p.1)) = true) ∨
      clash.map (fun c => c.1) = some p.1
  if bits hdr 16 9 = 0 ∨ 252 < bits hdr 16 9 then some ⟨0x2B, 0xFFFF⟩
  else if rp < rpMinRaw (maskCount (vMask v)) then some ⟨0x02, 0xFFFF⟩
  else if vt < vVmin v then some ⟨0x22, 0xFFFF⟩
  else match ix.find? (fun p => decide (bad p)) with
    | some p => some ⟨0x2B, p.1⟩
    | none => if commits.isEmpty ∨ spans.isEmpty then some ⟨0x2B, 0xFFFF⟩ else none

/-- The entries of a template that stands in a window. -/
def tplEntries (v : View) (wid : Nat) : List (Word × Word) :=
  (List.range (min 252 (bits (v (wkey wid 0)) 16 9))).map (fun e => (v (wkey wid (1 + 2 * e)), v (wkey wid (2 + 2 * e))))

/-- Words 0 of a template's entries hold bits [26:0]; the RSVD bits above, and those of the header, are not kept (R12, R100). -/
def tplWords (s : State) (wid n : Nat) : List Word :=
  keepMask (s.reg (wkey wid 0)) 0x1FFFFFF ::
    (List.range n).flatMap (fun e => [keepMask (s.reg (wkey wid (1 + 2 * e))) 0x7FFFFFF, s.reg (wkey wid (2 + 2 * e))])

/-- The template that stands in a window checked and staged (R102, R103). In LOCKED mode RP stays the ratio of R97, so a template of
another VTOTAL carries the RP that keeps VTOTAL · RP (R231). -/
def stageTemplate (wid : Nat) (s : State) : WRes × State :=
  let hdr := s.reg (wkey wid 0)
  match tplReason s.staged s.rpNow hdr (tplEntries s.live wid) with
  | some r => (.refuse 4 r.reason r.idx, { s with tt := { s.tt with tplErr := true } })
  | none =>
    let vt := bits hdr 0 16
    let t := (s.stageRun (wkey widTpl 0) (tplWords s wid (bits hdr 16 9))).stageF F.TT_VTOTAL_VTOTAL vt
    let t := if s.checkMode == 0x4 && decide (vt ≠ vVtotal s.staged) then
        t.stage R.TT_RP (w32 (roundUp (rpRaw s.staged * vVtotal s.staged) vt))
      else t
    match stagedReason t with
    | some r => (.refuse 4 r 0xFFFF, { s with tt := { s.tt with tplErr := true } })
    | none => (.ok, { t with tt := { t.tt with tplErr := false } })

/-- EVENT_TABLE_LOAD (R119): what a refused chunk had loaded is not kept. -/
def srvEventTableLoad (k : Pkt) (s : State) : Ans × State :=
  let start := pf k 0 0 9
  let ws := k.payload.drop 2
  if ws.length % 2 ≠ 0 then s.fin 3 []
  else if 252 < start + ws.length / 2 then s.paramAt 0x2B 252
  else
    let t := if pf k 0 16 1 = 1 then
        s.setRun (wkey widTplLoad 0) (pw k 1 :: List.replicate 512 0#32) else s
    let t := t.setRun (wkey widTplLoad (1 + 2 * start)) ws
    if pf k 0 17 1 = 1 then
      let r := stageTemplate widTplLoad t
      match r.1 with
      | .ok => r.2.ok []
      | e => WRes.ans { s with tt := r.2.tt } e
    else t.ok []

/-- A write of TT_CTRL: the enables, and TPL_CHECK for the template that TABLE_WRITE has written (R102, R122). -/
def wrTtCtrl (v : Word) (s : State) : WRes × State :=
  let put := fun (t : State) => t.wrs [(F.TT_CTRL_QUIET_EN, bits v 2 1), (F.TT_CTRL_LSTEP_EN, bits v 3 1)]
  if bit v 4 then
    let r := stageTemplate widTplBuf s
    match r.1 with
    | .ok => (.ok, put r.2)
    | e => (e, r.2)
  else (.ok, put s)

/-- TPL_CHECK (R102). -/
def execTplCheck (value : Word) (s : State) : Host.Outcome State Fault Refusal :=
  .next (s.keepQueue (wrTtCtrl (value ||| 0x10#32) s).2)

/-! ### Strobe -/

/-- STROBE_CONFIG (R114, R120). -/
def srvStrobeConfig (k : Pkt) (s : State) : Ans × State :=
  let mode := pf k 0 0 2
  let y0 := pf k 1 0 13
  let y1 := pf k 1 13 13
  let vt : Int := vVtotal s.staged
  let posBad := fun w => decide (entPos w < -vt ∨ vt ≤ entPos w)
  if mode = 3 then s.param 0x2C
  else if mode = 1 && (decide (y1 < y0) || decide (4143 < y1) || decide (vTl s.staged < 16 * (y1 - y0 + 1))) then s.param 0x2C
  else if mode = 2 && (posBad (pw k 1) || posBad (pw k 2)) then s.param 0x2C
  else
    let t := s.stage R.TT_STROBE (keepMask (pw k 0) 0xFF7)
    ((t.stage keyStrobe1 (pw k 1)).stage keyStrobe2 (pw k 2)).ok []

/-! ### Time -/

/-- What TT_STAT reads as (R123). -/
def State.viewTtStat (s : State) : Word :=
  let secs := if s.tt.lock = 3 then min 65535 ((s.tt.clk - s.tt.coastAt) / ms 1000) else 0
  w32 (s.tt.lock + flag s.tt.slip * 4 + flag s.tt.absorbing * 8 + flag s.pend.isSome * 16 + secs * 65536)

/-- GET_TIMEBASE (R118). -/
def srvGetTimebase (_k : Pkt) (s : State) : Ans × State :=
  s.ok [w32 s.tt.tb, w32 (s.tt.tb / 2 ^ 32), w32 s.tt.fn, w32 s.tt.rp0Tb, w32 (s.tt.rp0Tb / 2 ^ 32),
    s.viewTtStat, s.reg R.TT_PHASE]

/-- A read of TT_TB_LO copies TB[63:32] into TT_TB_HI (R88). -/
def tbLoRead (s : State) : State := s.setReg R.TT_TB_HI (w32 (s.tt.tb / 2 ^ 32))

/-- TT_TB_LO_READ (R88). -/
def execTtTbLoRead (s : State) : Host.Outcome State Fault Refusal := .next (s.keepQueue (tbLoRead s))

/-! ### The lock to line marks -/

/-- Device frames per reference frame (R97). -/
def State.refD (s : State) : Nat := 2 ^ (s.rd F.TT_REF_D)

/-- RL in units of `clk` as a fraction where RP is ρ · RL: RP · D · VTOTAL / VTOTAL_RL (R97). -/
def State.rlByRho (s : State) : Nat × Nat :=
  (16 * rpRaw s.live * s.refD * vVtotal s.live, max 1 (s.rd F.TT_REF_VTOTAL_RL))

/-- The frequency correction now: as set, or ramping to 0 at 50 ppm per second (R117). -/
def State.corrNow (s : State) : Int :=
  match s.tt.rampAt with
  | none => s.tt.corr
  | some t =>
    let gone := 5000 * (s.tt.clk - t) / 1280000000
    s.tt.corr.sign * ((s.tt.corr.natAbs - gone : Nat) : Int)

/-- The lock state becomes FREE (R92): TB follows TT_RLNOM again, the correction ramps to 0, and a LOCK_REFERENCE that has no
final reply yet is answered SUPERSEDED. -/
def State.lockFree (s : State) : State :=
  let t := { s with tt := { s.tt with
      lock := 0, acqStep := 0, first := none, last := none, runLen := 0, agree := 0, jump := [],
      rl := none, tbRem := 0, absorbing := false, remaining := 0, slip := false, bound := 0, corr := s.corrNow, corrRef := 0,
      rampAt := if s.corrNow = 0 then none else some s.tt.clk } }
  if s.tt.lock = 0 then t else t.finishOp 0x21 0x0A t.tt.fn []

/-- LOCK_REFERENCE (R97, R105, R117, R127). The RP and VTOTAL that the ratio of R97 is checked against are those in force; with SRC
crystal D, M and VTOTAL_RL are recorded and not checked: DESIGN CHOICE, assumption 63. -/
def srvLockReference (k : Pkt) (s : State) : Ans × State :=
  let src := pf k 0 0 2
  let d := pf k 0 4 2
  let m := pf k 0 8 8
  let vtrl := pf k 0 16 16
  let rl := pf k 1 0 24
  let act0 := pf k 2 0 16
  let actN := pf k 2 16 16
  let a := 524288 * (vtrl * rl)
  let b := 16 * rpRaw s.live * 25 * 2 ^ d * vVtotal s.live
  let rmin := 16 * rpMinRaw (maskCount (vMask s.live)) * 25 * 2 ^ d * vVtotal s.live
  let refWord := w32 (vtrl + d * 2 ^ 16 + m * 2 ^ 24)
  if s.isOpen 0x21 then s.fin 8 []
  else if src = 0 then
    let t := s.lockFree.setReg R.TT_REF refWord
    if s.checkMode == 0x4 then
      if s.sys.chg.isSome then s.fin 8 []
      else (.later, { t with sys := { t.sys with chg := some ⟨0x3, s.tt.clk, none⟩ } })
    else (.done 0 (fnNext s.tt.fn) [], t)
  else if src ≠ 1 ∨ d = 3 ∨ m = 0 ∨ 64 < m ∨ vtrl = 0 ∨ rl = 0 ∨ actN = 0 ∨ vtrl < act0 + actN then s.param 0x28
  else if b < 2000 * (if a < b then b - a else a - b) then s.param 0x2A
  else if a < rmin then s.param 0x02
  else if excursionBad s.staged then s.param 0x71
  else
    let t := s.setReg R.TT_REF refWord
    let t := t.wr F.TT_CHASE_H (pf k 3 0 16)
    let t := if pf k 3 16 8 = 0 then t else t.wr F.TT_CHASE_GUARD (pf k 3 16 8)
    let t := { t with tt := { t.tt with
        lock := 1, acqStep := 1, first := none, runLen := 0, last := none, agree := 0, jump := [],
        acqAt := t.tt.clk, acqLate := false, tracked := false, rlNom := rl, act0 := act0, actN := actN, slip := false, bound := 0,
        absorbing := false, remaining := 0, loopInt := 0 } }
    (.accepted [], t.setLead)

/-- The time of `x` RL from an instant, in units of `clk`; the RL of a lock is that of R97. -/
def State.rlTime (s : State) (num den : Nat) : Nat := ceilDiv (num * s.rlByRho.1) (den * s.rlByRho.2)

/-- How far a mark lies from its predicted place after another, in 1/65,536 RL, by the nearest whole number of reference frames. -/
def State.markDev (s : State) (p : MarkAt) (line now : Nat) : Int :=
  let vt := max 1 (s.rd F.TT_REF_VTOTAL_RL)
  let r := s.rlByRho
  let x : Int := ((now - p.at_) * 65536 * r.2 / max 1 r.1 : Nat)
  let d : Int := ((line + vt - p.line % vt) % vt : Nat)
  let full : Int := (vt * 65536 : Nat)
  let e := (x - d * 65536) % full
  if full < 2 * e then e - full else e

/-- The phase error of the frame being read in TB units, positive when the device is late (R95, R98, R129), as a mark of `line` that
arrived at `now`, before or after RP 0, gives it: the reference position at RP 0 against the chase target, modulo the reference lines
of a device frame. -/
def State.phaseErr (s : State) (line now : Nat) : Int :=
  let r := s.rlByRho
  let back : Int := ((now : Int) - s.tt.rp0) * ((65536 * r.2 : Nat) : Int) / ((max 1 r.1 : Nat) : Int)
  let full : Int := (s.rd F.TT_REF_VTOTAL_RL * 65536 / s.refD : Nat)
  let target : Int := (s.tt.act0 * 65536 : Nat) - ((s.reg R.TT_LEAD).toNat : Int)
  let e := ((line * 65536 : Nat) - back - target) % full
  if full < 2 * e then e - full else e

/-- The correction in 0.01 ppm, as TT_FREQ shows it (R130). -/
def State.corrPpm (s : State) : Int := roundI s.corrNow (2 ^ 20)

/-- A phase error in RP as a fraction (R98): e TB units over ρ · 65,536. -/
def State.errRp (s : State) (e : Int) : Int × Int :=
  (e * ((s.refD * vVtotal s.live : Nat) : Int), ((65536 * max 1 (s.rd F.TT_REF_VTOTAL_RL) : Nat) : Int))

/-- What the loop removes of a phase error (R95): the fraction of an RP beyond the whole ones, in TB units. -/
def State.errFraction (s : State) (e : Int) : Int :=
  let p := s.errRp e
  p.1.tmod p.2 / ((max 1 (s.refD * vVtotal s.live) : Nat) : Int)

/-- The loop bandwidth in 1/1,000 Hz (R131): 0.125 Hz · 2^(BW - 1), and 0 and 7 act as 3. -/
def State.loopBandwidth (s : State) : Nat :=
  let bw := s.rd F.TT_LOCKCFG_BW
  125 * 2 ^ ((if bw = 0 ∨ bw = 7 then 3 else bw) - 1)

/-- CHASE_SLIP (R95, R107): the correction has stood at its bound for 64 consecutive marks, or the device is later than G. -/
def State.slips (s : State) (e : Int) : Bool :=
  decide (64 ≤ s.tt.bound) || decide (((s.rd F.TT_CHASE_GUARD * 4096 : Nat) : Int) < e)

/-- The phase error as measured: TT_PHASE shows it, and CHASE_SLIP follows it (R107, R129). -/
def State.showPhase (s : State) (e : Int) : State :=
  let t := s.setReg R.TT_PHASE (w32 (unsigned 32 e))
  { t with tt := { t.tt with slip := t.slips e } }

/-- The frequency correction after a valid mark in TRACK (R95, R131, R522): what the second-order loop asks of the fraction of an RP,
no faster than 50 ppm per second, and within 2,000 ppm of the frequency that was measured and of nominal. -/
def State.pull (s : State) (e : Int) (dt : Nat) : State :=
  let asked := Config.loopCorr s.loopBandwidth (s.errFraction e) dt s.tt.loopInt s.tt.corr
  let lim : Int := (5000 * dt / 1280000000 : Nat)
  let c := clampI (s.tt.corr - lim) (s.tt.corr + lim) asked.1
  let span : Int := 200000 * 2 ^ 20
  let lo := max (s.tt.corrRef - span) (-span)
  let hi := min (s.tt.corrRef + span) span
  let c := clampI lo hi c
  let bound := if c = lo ∨ c = hi then s.tt.bound + 1 else 0
  { s with tt := { s.tt with corr := c, loopInt := asked.2, bound := bound } }

/-- Entry to TRACK (R93, R94, R99): on the first one after LOCK_REFERENCE the mode changes to LOCKED and the final reply goes
out, or REF_REGAINED where it was TIMEOUT already; from COAST, REF_REGAINED with the seconds spent there. -/
def State.enterTrack (s : State) : State :=
  let fn := fnNext s.tt.fn
  let coast := (s.tt.clk - s.tt.coastAt) / ms 1000
  let t := { s with tt := { s.tt with
      lock := 2, acqStep := 0, agree := 0, jump := [], rl := some s.rlByRho, tbRem := 0,
      tracked := true, bound := 0 } }
  if s.tt.tracked then t.event 0x0A [w32 (min 65535 coast), w32 fn]
  else
    let t := if s.tt.acqLate then t.event 0x0A [0#32, w32 fn] else t.finishOp 0x21 0 fn []
    if t.sys.mode = 0x3 ∧ t.sys.chg = none then { t with sys := { t.sys with chg := some ⟨0x4, t.tt.clk, none⟩ } } else t

/-- A mark that counts as valid. -/
def State.validMark (s : State) (m : MarkAt) : State := { s with tt := { s.tt with last := some m } }

/-- A discarded mark (R91). -/
def State.discard (s : State) : State := s.bump F.TT_MARKERR_DISCARD

/-- A valid mark in ACQUIRE (R93): the frequency over 16 marks in line, then 64 marks that agree. -/
def State.markAcquire (s : State) (m : MarkAt) : State :=
  let mm := s.rd F.TT_REF_M
  let vt := max 1 (s.rd F.TT_REF_VTOTAL_RL)
  match s.tt.acqStep with
  | 1 =>
    let follows := match s.tt.last with
      | some p => decide (m.line = (p.line + mm) % vt) && s.tt.first.isSome
      | none => false
    if !follows then State.validMark { s with tt := { s.tt with first := some m, runLen := 1 } } m
    else if s.tt.runLen < 15 then State.validMark { s with tt := { s.tt with runLen := s.tt.runLen + 1 } } m
    else
      match s.tt.first with
      | none => s
      | some f =>
        -- ρ · RL as measured against RP, in one common measure
        let rho := (m.at_ - f.at_) * vt
        let rp := 16 * rpRaw s.live * s.refD * vVtotal s.live * 15 * mm
        let c := roundI (((rp : Int) - rho) * 100000000) rho
        if 200000 < c.natAbs then (s.finishOp 0x21 4 s.tt.fn [w32 0x29]).lockFree
        else State.validMark { s with tt := { s.tt with
            acqStep := 2, corr := c * 2 ^ 20, corrRef := c * 2 ^ 20, rampAt := none, first := none } } m
  | 3 =>
    let dev := match s.tt.last with
      | some p => (s.markDev p m.line m.at_).natAbs
      | none => 65536
    let n := if dev ≤ 4096 then s.tt.agree + 1 else 0
    let t := State.validMark { s with tt := { s.tt with agree := n } } m
    if 64 ≤ n then (t.showPhase (t.phaseErr m.line m.at_)).enterTrack else t
  | _ => s.validMark m

/-- The marks of a run that end it in a row agreeing with a new one within 1/16 RL, and the new one (R92, R96). Those kept agree with
each other. -/
def State.agreeing (s : State) (l : List MarkAt) (m : MarkAt) : List MarkAt :=
  (l.reverse.takeWhile (fun q => decide ((s.markDev q m.line m.at_).natAbs ≤ 4096))).reverse ++ [m]

/-- A mark in TRACK (R91, R95, R96): within JUMP_TH of its prediction it is valid; of those beyond it three in a row that agree with
each other are a jump. -/
def State.markTrack (s : State) (p m : MarkAt) : State :=
  let th : Int := (max 1 (s.rd F.TT_LOCKCFG_JUMP_TH) * 65536 : Nat)
  let use := fun (t : State) =>
    let e := t.phaseErr m.line m.at_
    ((State.pull { t with tt := { t.tt with jump := [] } } e (m.at_ - p.at_)).validMark m).showPhase e
  if (s.markDev p m.line m.at_).natAbs ≤ th.toNat then use s
  else
    let run := s.agreeing s.tt.jump m
    if 3 ≤ run.length then use (s.bump F.TT_MARKERR_JUMPS)
    else State.discard { s with tt := { s.tt with jump := run } }

/-- A mark in COAST (R92): 8 in a row that agree with each other within 1/16 RL. -/
def State.markCoast (s : State) (m : MarkAt) : State :=
  let run := s.agreeing s.tt.jump m
  let t := State.validMark { s with tt := { s.tt with jump := run.drop (run.length - 8) } } m
  if 8 ≤ run.length then (t.showPhase (t.phaseErr m.line m.at_)).enterTrack else t

/-- MARK (R89 to R96, R422): `after` × 2 ns from now a mark's first symbol arrives. -/
def execMark (after line hfc crc : Nat) (s : State) : Host.Outcome State Fault Refusal :=
  .next (s.keepQueue (
    if s.sys.phase == .unpowered || s.sys.phase == .reset then s
    else
      let t := s.elapse (ns (2 * after) + s.tt.clk)
      if crc8 [w8 (line / 256), w8 line, w8 (hfc / 256), w8 hfc] ≠ crc then t.bump F.LNK_MARKCRC_COUNT
      else
        let m : MarkAt := ⟨line % 65536, hfc % 65536, t.tt.tb, t.tt.clk⟩
        if t.rd F.TT_REF_VTOTAL_RL ≤ m.line then t.discard
        else
          let early := match t.tt.last with
            | some p => decide ((t.tt.lock = 1 ∨ t.tt.lock = 2) ∧ m.at_ < p.at_ + t.rlTime (t.rd F.TT_REF_M) 2)
            | none => false
          if early then t.discard
          else match t.tt.lock, t.tt.last with
            | 1, _ => t.markAcquire m
            | 2, some p => t.markTrack p m
            | 2, none => t.validMark m
            | 3, _ => t.markCoast m
            | _, _ => t))

/-- MARK_MISSED (R91): no mark by 1.5 × M RL after the previous valid one. -/
def execMarkMissed (s : State) : Host.Outcome State Fault Refusal :=
  .next (s.keepQueue (
    match s.tt.last with
    | none => s
    | some p =>
      if s.tt.lock = 0 then s
      else (s.elapse (p.at_ + s.rlTime (3 * s.rd F.TT_REF_M) 2)).bump F.TT_MARKERR_MISSED))

/-- COAST_TIMEOUT (R92): no valid mark for 4 × M RL; REF_LOST with TB[47:16] of the last valid mark and the FN. -/
def execCoastTimeout (s : State) : Host.Outcome State Fault Refusal :=
  .next (s.keepQueue (
    match s.tt.last with
    | none => s
    | some p =>
      if s.tt.lock ≠ 2 then s
      else
        let t := s.elapse (p.at_ + s.rlTime (4 * s.rd F.TT_REF_M) 1)
        let t := { t with tt := { t.tt with lock := 3, coastAt := t.tt.clk, agree := 0, jump := [] } }
        t.event 0x09 [w32 (p.tb / 2 ^ 16), w32 t.tt.fn]))

/-- ACQUIRE_TIMEOUT (R93): TRACK not reached within ACQ_TO ms; acquisition continues. -/
def execAcquireTimeout (s : State) : Host.Outcome State Fault Refusal :=
  .next (s.keepQueue (
    if s.tt.lock ≠ 1 ∨ s.tt.acqLate then s
    else
      let t := s.elapse (ms (s.rd F.TT_LOCKCFG_ACQ_TO) + s.tt.acqAt)
      State.finishOp { t with tt := { t.tt with acqLate := true } } 0x21 0x0B t.tt.fn []))

/-! ### Blanking at a frame start -/

/-- The blanking RP of a view's template: what its read set leaves of VTOTAL (R98). -/
def vBlank (v : View) : Nat := vVtotal v - 48 - vNrow v

/-- The phase error at the start of the frame that begins, in whole RP, rounded toward zero (R98): as the last valid mark gives it on
the time base that runs on. -/
def State.phaseRp (s : State) : Int :=
  match s.tt.last with
  | none => 0
  | some p =>
    let e := s.errRp (s.phaseErr p.line p.at_)
    e.1.tdiv e.2

/-- The blanking of the frame that begins (R98): absorption begun where there is a whole-RP error, and its step for this frame.
`keep` is how far the frame may be shortened without a pending set missing its promised frame (R112). -/
def State.absorb (s : State) (keep : Nat) : State :=
  let f : Int := vVtotal s.live
  let vb := vBlank s.live
  let room := min 32 (vb - 8)
  let t :=
    if s.tt.absorbing then s
    else
      let e0 := s.phaseRp
      let e1 := if f < 2 * e0 then e0 - f else e0
      let e := if 2 * e1 ≤ -f then e1 + f else e1
      if e = 0 then s
      else
        let n := e.toNat
        let short := decide (0 < e) && decide (0 < room) && decide (ceilDiv n room ≤ ceilDiv (vVtotal s.live - n) 32)
        let rest := if short then n else if 0 < e then vVtotal s.live - n else e.natAbs
        { s with tt := { s.tt with absorbing := true, shorten := short, remaining := rest } }
  if !t.tt.absorbing then t
  else
    let step := if t.tt.shorten then min (min t.tt.remaining room) keep else min t.tt.remaining 32
    let left := t.tt.remaining - step
    { t with tt := { t.tt with
        remaining := left, absorbing := decide (left ≠ 0),
        vcur := if t.tt.shorten then t.tt.vcur - step else t.tt.vcur + step } }

/-- The single lengthening of ACQUIRE (R93 step 2): the whole RP that bring the next frame start within 1 RP of the target. -/
def State.acquireLengthen (s : State) : State :=
  match s.tt.last with
  | none => s
  | some p =>
    let e := s.errRp (s.phaseErr p.line p.at_)
    let f : Int := vVtotal s.live
    -- the frame start lies e late; lengthening by F - e brings the next one onto the target
    let rp := e.1 / e.2
    let add := ((-rp) % f).toNat
    { s with tt := { s.tt with acqStep := 3, agree := 0, vcur := s.tt.vcur + add } }

/-- What the registers of bank TT read as whose values are not kept whole in the memory (R122 to R133). -/
def viewTt (a : Nat) (s : State) : Option Word :=
  if a = R.TT_CTRL then
    let src := if s.sys.mode == 0x5 then 2 else if s.sys.mode == 0x4 then 1 else 0
    some (putBits (putBits (s.reg a) 0 2 src) 5 1 (flag s.tt.tplErr))
  else if a = R.TT_STAT then some s.viewTtStat
  else if a = R.TT_VTOTAL then some (putBits (s.staged a) 16 16 s.tt.vcur)
  else if a = R.TT_FREQ then some (w32 (unsigned 20 s.corrPpm))
  else if a = R.TT_COMMIT then some (w32 (flag s.pend.isSome))
  else if a = R.TT_TB_LO then some (w32 s.tt.tb)
  else if a = R.TT_FN then some (w32 s.tt.fn)
  else none

end Sys2Proof.Machine
end

