-- ==== Sys2Proof/Machine/Clocks.lean ====
section
/-!
DEFINITION. Clock synthesis (R513 to R536): the choice of the reference multiplier, frequency plans, locks and re-locks, loss of
lock and of the reference, and the registers of bank CLK. Synthesisers are numbered 0 PLL-S, 1 PLL-C, 2 PLL-L, 3 PLL-M.
-/

namespace Sys2Proof.Machine

open Sys2Proof (Word)

/-! ### The multiplier and the divider -/

/-- f_ref in Hz (R515). -/
def State.fref (s : State) : Nat := 1000 * s.rd F.CLK_CFG_REF_KHZ

/-- The output of each synthesiser in Hz (R516). -/
def pllTarget (n : Nat) : Nat := [1000000000, 1280000000, 6250000000, 3200000000].getD n 0

/-- Twice f_pfd at a multiplier code: 0 ×1, 1 ×2, 2 ÷2 (R517). -/
def pfd2 (fref m : Nat) : Nat := if m = 1 then 4 * fref else if m = 2 then fref else 2 * fref

/-- NINT and FRAC that give the target (R517). -/
def dividerOf (n fref m : Nat) : Nat × Nat :=
  let d := max 1 (pfd2 fref m)
  let x := roundUp (2 * pllTarget n * 2 ^ 24) d
  (x / 2 ^ 24, x % 2 ^ 24)

/-- δ of R518 as twice its product with RP: the distance of f_spur from the nearest whole multiple of 1 / RP. `rp` is in 1/65,536
periods of 1.28 GHz, so that 1 / RP is 83,886,080,000,000 / rp. -/
def spurDist (n fref m rp : Nat) : Nat :=
  let d := max 1 (pfd2 fref m)
  let r := 2 * pllTarget n % d
  let x := min r (d - r) * rp % 167772160000000
  min x (167772160000000 - x)

/-- Whether a multiplier gives FRAC = 0. -/
def wholeN (n fref m : Nat) : Bool := 2 * pllTarget n % max 1 (pfd2 fref m) == 0

/-- The multiplier that AUTO chooses (R518). -/
def autoMul (n fref rp : Nat) : Nat :=
  match [0, 1, 2].find? (wholeN n fref) with
  | some m => m
  | none => [1, 2].foldl (fun b m => if spurDist n fref b rp < spurDist n fref m rp then m else b) 0

/-- CLK_PLLn_STAT.DIST (R533): δ in 100 Hz units. -/
def distCode (n fref m rp : Nat) : Nat :=
  if wholeN n fref m then 0xFFFF else min 0xFFFF (roundUp (spurDist n fref m rp) (200 * max 1 rp))

/-- The address of register `r` (0 CFG, 1 STAT, 2 PLAN0, 3 PLAN1) of synthesiser n (R533). -/
def pllAddr (n r : Nat) : Nat := R.CLK_PLL0_CFG + 4 * n + r

/-- RP that R518 looks at: that of Homeroom at start, later the one in force. -/
def State.spurRp (s : State) : Nat := if s.sys.phase == .run then s.rpNow else s.homeroomRp

/-- The multiplier of the next lock: AUTO, or as REFMUL_REQ asks; PLL-M takes AUTO (R518, R533). -/
def State.pllMul (s : State) (n : Nat) : Nat :=
  let req := bits (s.reg (pllAddr n 0)) 2 2
  if n = 3 ∨ req = 0 then autoMul n s.fref s.spurRp else req - 1

/-! ### Plans -/

/-- The key of plan p of synthesiser n in CLK.PLANS (R536). -/
def planKey (n p : Nat) : Nat := wkey 0x0F00 (16 * n + 2 * p)

/-- Whether the plan at a place has the target of the next lock (R520). -/
def State.planFits (s : State) (n p : Nat) : Bool :=
  let w0 := s.reg (planKey n p)
  let w1 := s.reg (planKey n p + 1)
  let m := s.pllMul n
  let d := dividerOf n s.fref m
  bit w1 31 && bits w1 18 7 == roundUp s.fref 500000 && bits w1 0 10 == d.1 && bits w0 0 24 == d.2 && bits w1 10 2 == m

/-- The plan that the next lock uses, if one matches (R520). -/
def State.planFor (s : State) (n : Nat) : Option Nat := (List.range 8).find? (s.planFits n)

/-- A plan stored over one with the same target, else over the oldest one (R520). -/
def State.storePlan (s : State) (n : Nat) (w0 w1 : Word) : State :=
  let order := s.clk.order.getD n (List.range 8)
  let p := (s.planFor n).getD (order.headD 0)
  let t := s.setRun (planKey n p) [w0, w1]
  { t with clk := { t.clk with order := t.clk.order.set n (order.filter (fun q => q != p) ++ [p]) } }

/-! ### Locks -/

/-- A synthesiser changed. -/
def State.mapPll (s : State) (n : Nat) (f : Pll → Pll) : State := { s with clk := { s.clk with plls := s.clk.plls.modify n f } }

/-- A synthesiser. -/
def State.pll (s : State) (n : Nat) : Pll := s.clk.plls.getD n ⟨0, 0, false, 0, false⟩

/-- Whether a small step is asked of a synthesiser: PLL-S and PLL-C take the Timetable's correction (R521). -/
def State.pllCorr (s : State) (n : Nat) : Int := if n < 2 then s.corrPpm else 0

/-- The lanes stop with the clock of PLL-L. -/
def State.linkDown (s : State) : State :=
  if s.lnk.state = 0 then s
  else
    let t := s.abortAll 3
    { t with lnk := { t.lnk with
      state := 0, active := 0, ready := false, bcLock := false, tx := [], kept := [], rest := [], change := none } }

/-- A lock of a synthesiser begins (R524 step 1): its output is the DLL clock; it locks from a plan or searches. -/
def State.relock (s : State) (n : Nat) : State :=
  let t := s.mapPll n (fun _ => ⟨1, s.tt.clk, (s.planFor n).isNone, s.pllCorr n, false⟩)
  if n = 2 then t.linkDown else t

/-- A synthesiser is switched off (R528). -/
def State.pllOff (s : State) (n : Nat) : State := s.mapPll n (fun p => { p with state := 0 })

/-- The clock fault ends when every synthesiser that runs is LOCKED (R660). -/
def State.clockFaultEnd (s : State) : State :=
  if s.clk.plls.all (fun p => p.state == 0 || p.state == 2) then s.faultEnd 5 else s

/-- A synthesiser is LOCKED (R524 step 4), no later than 200 µs after the request with a plan and 5.0 ms with a search, which found
a band and a gain trim (R520). -/
def State.pllLocked (s : State) (n band kvco : Nat) : State :=
  let p := s.pll n
  let t := s.elapse (p.at_ + (if p.search then us 5000 else us 200))
  let m := t.pllMul n
  let d := dividerOf n t.fref m
  let found := [w32 (d.2 + kvco % 256 * 2 ^ 24),
    w32 (d.1 % 1024 + m * 2 ^ 10 + band % 64 * 2 ^ 12 + roundUp t.fref 500000 % 128 * 2 ^ 18 + 2 ^ 31)]
  let plan := match t.planFor n with
    | some q => if p.search then found else t.run (planKey n q) 2
    | none => found
  let u := if p.search then t.storePlan n (plan.getD 0 0#32) (plan.getD 1 0#32) else t
  let u := (u.setRun (pllAddr n 2) plan).wrs [(⟨pllAddr n 0, 0, 2⟩, m), (⟨pllAddr n 1, 0, 16⟩, distCode n t.fref m t.spurRp)]
  let u := (u.mapPll n (fun q => { q with state := 2, search := false })).clockFaultEnd
  if n = 2 then u.enterTrain else u

/-- PLAN_LOCK_TIMEOUT (R520): the plan in use did not lock within 200 µs; a band search follows. -/
def execPlanLockTimeout (pll : Nat) (s : State) : Host.Outcome State Fault Refusal :=
  .next (s.keepQueue (
    let p := s.pll pll
    if p.state != 1 || p.search then s
    else
      let t := s.elapse (us 200 + p.at_)
      t.mapPll pll (fun q => { q with search := true, at_ := t.tt.clk })))

/-- LOSS_OF_LOCK (R525): the loss is counted, a clock fault is reported with the PLL's number, and the lock is regained. -/
def execLossOfLock (pll : Nat) (s : State) : Host.Outcome State Fault Refusal :=
  .next (s.keepQueue (
    if (s.pll pll).state != 2 then s
    else ((s.bump ⟨pllAddr pll 1, 16, 8⟩).fault 5 pll).relock pll))

/-- REFERENCE_LOST (R526, R527): every synthesiser that runs is in HOLDOVER. -/
def execReferenceLost (s : State) : Host.Outcome State Fault Refusal :=
  .next (s.keepQueue (
    if s.clk.plls.all (fun p => p.state == 0 || p.state == 3) then s
    else
      let t := { s with clk := { s.clk with plls := s.clk.plls.map (fun (p : Pll) =>
          if p.state = 0 then p else { p with state := 3, ring := p.ring || p.state == 1 }) } }
      (t.bump F.CLK_REFLOSS_COUNT).fault 5 0))

/-- REFERENCE_RETURN (R526): every synthesiser in HOLDOVER re-locks. -/
def execReferenceReturn (s : State) : Host.Outcome State Fault Refusal :=
  .next (s.keepQueue (
    (List.range 4).foldl (fun (t : State) n => if (t.pll n).state = 3 then t.relock n else t) s))

/-- SLEW_COMPLETE (R521): 50 ppm per µs to the Timetable's correction, and 20 µs to settle. -/
def execSlewComplete (s : State) : Host.Outcome State Fault Refusal :=
  .next (s.keepQueue (
    let c := s.corrPpm
    let d := ((List.range 2).filter (fun n => (s.pll n).state == 2)).map (fun n => (c - (s.pll n).applied).natAbs)
    let far := d.foldl max 0
    if far = 0 then s
    else
      let t := s.elapse (ns (ceilDiv far 5 + 20000) + s.tt.clk)
      (List.range 2).foldl (fun (u : State) n => if (u.pll n).state = 2 then u.mapPll n (fun p => { p with applied := c }) else u) t))

/-! ### Registers -/

/-- What CLK_STAT reads as (R532). -/
def State.viewClkStat (s : State) : Word :=
  let st := (List.range 4).map (fun n => (s.pll n).state % 4 * 4 ^ n)
  let sl := (List.range 2).map (fun n => flag ((s.pll n).state == 2 && (s.pll n).applied != s.corrPpm) * 2 ^ (8 + n))
  w32 ((st ++ sl).foldl (fun a b => a + b) 0 + (s.reg R.CLK_STAT).toNat / 2 ^ 12 * 2 ^ 12)

/-- What the registers of bank CLK read as whose values are not kept whole in the memory. -/
def viewClk (a : Nat) (s : State) : Option Word := if a = R.CLK_STAT then some s.viewClkStat else none

/-- A refused write of bank CLK. -/
def clkErr (s : State) (reason : Nat) : WRes × State :=
  (.refuse 4 reason 0, s.wrs [(F.CLK_STAT_ERR, 1), (F.CLK_STAT_REASON, reason)])

/-- Whether RELOCK of a synthesiser is accepted in a mode (R533). -/
def relockOk (n mode : Nat) : Bool :=
  if n < 2 then mode == 0x2 || mode == 0xC else if n = 2 then mode == 0x9 || mode == 0xC else false

/-- A write of CLK_PLLn_CFG (R533). -/
def wrClkPll (n : Nat) (v : Word) (s : State) : WRes × State :=
  if bit v 4 && !relockOk n s.sys.mode then clkErr s 0xF0
  else
    let t := s.wr ⟨pllAddr n 0, 2, 2⟩ (bits v 2 2)
    (.ok, if bit v 4 then t.relock n else t)

/-- RELOCK (R533). -/
def execRelock (pll : Nat) (value : Word) (s : State) : Host.Outcome State Fault Refusal :=
  .next (s.keepQueue (if pll < 4 then (wrClkPll pll (value ||| 0x10#32) s).2 else s))

/-- A write of CLK_OUT0 (R534). -/
def wrClkOut0 (v : Word) (s : State) : WRes × State :=
  if s.tst F.CLK_OUT0_RUN then clkErr s 0xF1
  else (.ok, s.wrs [(F.CLK_OUT0_LEVEL, bits v 21 1), (F.CLK_OUT0_FOLLOW, bits v 22 1), (F.CLK_OUT0_DRIVE, bits v 23 2)])

/-- A write of CLK_OUT1 (R531, R534). -/
def wrClkOut1 (v : Word) (s : State) : WRes × State :=
  if bits v 2 1 = 0 ∧ bits v 0 2 = 3 ∧ max 1 (bits v 8 8) < 4 then clkErr s 0xF2
  else (.ok, s.setReg R.CLK_OUT1 (keepMask v 0xFF0F))

/-- A TABLE_WRITE of CLK.PLANS (R536). -/
def tblPlans (start : Nat) (ws : List Word) (s : State) : WRes × State :=
  if s.checkMode != 0x2 && s.checkMode != 0xC then (.refuse 5 0 0, s)
  else (.ok, s.setRun (wkey 0x0F00 start) (((List.range ws.length).zip ws).map (fun p =>
    if (start + p.1) % 2 = 1 then keepMask p.2 0x81FFFFFF else p.2)))

end Sys2Proof.Machine
end

