-- ==== Sys2Proof/Machine/ClockOut.lean ====
section
/-!
DEFINITION. The clocks that the synthesisers give and the pins that show them: frequencies under a correction (R26, R521, R523, R526),
LOCK_A (R529), and CLKOUT0 and CLKOUT1 (R530, R531, R534). Frequencies are exact, in Hz.
-/

namespace Sys2Proof.Machine

open Sys2Proof (Word)

/-- Whether the device is powered and out of reset: its clock pins are driven. -/
def State.up (s : State) : Bool := !(s.sys.phase == .unpowered || s.sys.phase == .reset)

/-! ### Synthesisers -/

/-- The output of a synthesiser by the plan in force, without a correction (R517, R533). -/
def State.planHz (s : State) (n : Nat) : Rat :=
  let w0 := s.reg (pllAddr n 2)
  let w1 := s.reg (pllAddr n 3)
  (pfd2 s.fref (bits w1 10 2) : Rat) / 2 * ((bits w1 0 10 : Rat) + (bits w0 0 24 : Rat) / 2 ^ 24)

/-- A frequency moved by a number of 0.01 ppm. -/
def moved (hz : Rat) (e : Int) : Rat := hz * (1 + (e : Rat) / 100000000)

/-- The output of a synthesiser (R521, R524, R526): by its plan and the correction at which it has settled; the DLL clock at f_ref during a
re-lock; and in HOLDOVER near the value held. -/
def State.pllHz (s : State) (n : Nat) : Rat :=
  let p := s.pll n
  match p.state with
  | 1 => (s.fref : Rat)
  | 2 => moved (s.planHz n) p.applied
  | 3 =>
    let d := Config.holdover n s.tt.clk
    if p.ring then moved (s.fref : Rat) (clampI (-5000000) 5000000 d)
    else moved (moved (s.planHz n) p.applied) (clampI (-30000) 30000 d)
  | _ => 0

/-- The cores of the Control controller and the Prefect (R26, R523). -/
def State.coreHz (s : State) : Rat := s.pllHz 0

/-- The logic of the logic die (R26, R523). -/
def State.logicHz (s : State) : Rat := s.pllHz 0 / 2

/-- The eMMC clock (R26, R523). -/
def State.emmcHz (s : State) : Rat := s.pllHz 0 / 5

/-- The counter clock of the converters (R26). -/
def State.counterHz (s : State) : Rat := s.pllHz 1

/-! ### CLKOUT0 and CLKOUT1 -/

/-- The nearest whole number to a ratio, a tie going up. -/
def nearestRat (q : Rat) : Int := (q + 1 / 2).floor

/-- The divider of CLKOUT0 in 1/65,536 (R523, R530): 1,000,000 / CLK_KHZ of nominal PLL-S, and with FOLLOW 0 recomputed at each step for
PLL-S as corrected. -/
def State.out0Div (s : State) : Nat :=
  let ratio : Rat := 65536 * 1000000 / (max 1 (s.rd F.CLK_OUT0_KHZ) : Nat)
  (nearestRat (if s.tst F.CLK_OUT0_FOLLOW then ratio else moved ratio (s.pll 0).applied)).toNat

/-- What a clock pin does. -/
inductive ClkPin where
  /-- High impedance. -/
  | highZ
  /-- A level, high for true. -/
  | level (b : Bool)
  /-- A clock of a frequency in Hz. -/
  | clock (hz : Rat)
  deriving DecidableEq, Repr

/-- CLKOUT0 (R310, R311, R530). -/
def State.clkOut0 (s : State) : ClkPin :=
  if !s.up then .highZ
  else if s.tst F.CLK_OUT0_RUN then .clock (s.pllHz 0 * 65536 / (max 1 s.out0Div : Nat))
  else .level false

/-- The level of a clock of one period per RP: high from slot 0 to slot 8 (R531). It goes on on the grid of the last frame. -/
def State.rowLevel (s : State) : Bool :=
  let rp := s.rpNow
  let n := (s.tt.clk - s.tt.rp0) / (16 * max 1 rp)
  let at_ := s.tt.rp0 + 16 * n * rp
  decide (s.tt.clk < onCycle (at_ + 8 * rp))

/-- CLKOUT1 (R531, R534), as its SRC and POL ask. A clock of a frequency has no level here that POL could turn. -/
def State.clkOut1 (s : State) : ClkPin :=
  let pol := s.tst F.CLK_OUT1_POL
  if !s.up then .highZ
  else match s.rd F.CLK_OUT1_SRC with
    | 0 => .level false
    | 1 => .clock (s.fref : Rat)
    | 2 => .level (s.rowLevel != pol)
    | _ => .clock (s.pllHz 0 / (2 * (max 1 (s.rd F.CLK_OUT1_DIV) + 1) : Nat))

/-! ### LOCK_A -/

/-- LOCK_A (R529), none at high impedance: of the synthesiser that LOCKSEL selects, high after each in-window comparison, as every one is
while it is LOCKED, and low throughout DLL states. Where no comparison is made its level is open (`Config.lockPin`). -/
def State.lockA (s : State) : Option Bool :=
  if !s.up then none
  else match (s.pll (s.rd F.CLK_CFG_LOCKSEL)).state with
    | 1 => some false
    | 2 => some true
    | _ => some (Config.lockPin s.tt.clk)

end Sys2Proof.Machine
end

