-- ==== Sys2Proof/Machine/Reset.lean ====
section
/-!
DEFINITION. Entry to reset and loss of power (R494, R548): what they leave, and the power-down that a shutdown runs.
-/

namespace Sys2Proof.Machine

open Sys2Proof (Word)

/-- The device in reset with its power die running (R494): what is not volatile stays, with the power die's own state, its count of
rail faults (R560) and the time;
all else is as at reset. -/
def State.intoReset (s : State) : State :=
  { State.reset with
    mem := s.mem.filter (fun p => nonvolatile p.1 || p.1 == R.PWR_HICCUP),
    free := s.free,
    sys := { Sys.reset with phase := .reset, resetN := s.sys.resetN, mtpQueue := s.sys.mtpQueue },
    tt := { Tt.reset with clk := s.tt.clk },
    pwr := { Pwr.reset with
      vin := s.pwr.vin, pgood := clearBit s.pwr.pgood 6, latched := s.pwr.latched, step := s.pwr.step, stepAt := s.pwr.stepAt,
      vinHi := s.pwr.vinHi, restarts := s.pwr.restarts, waiting := s.pwr.waiting, surge := s.pwr.surge, shut := s.pwr.shut,
      down := s.pwr.down, poc := s.pwr.poc },
    otp := { State.reset.otp with cells := s.otp.cells },
    rec_ := { State.reset.rec_ with
      present := s.rec_.present, superblock := s.rec_.superblock, units := s.rec_.units, clips := s.rec_.clips,
      journal := s.rec_.journal },
    saf := { State.reset.saf with boot := s.saf.boot },
    icn := { State.reset.icn with since := s.tt.clk } }

/-- The device in reset with every rail off. -/
def State.railsOff (s : State) : State :=
  let t := s.intoReset
  { t with pwr := { t.pwr with pgood := 0, step := 0, waiting := [], down := none } }

/-- No power at all (R537, R577): the power die stops, a write of MTP is torn, and the latches of the power die clear. -/
def State.powerOff (s : State) (vin : Nat) : State :=
  let t := s.railsOff
  { t with
    mem := t.mem.filter (fun p => nonvolatile p.1),
    sys := { t.sys with phase := .unpowered, mtpQueue := [] }, pwr := { Pwr.reset with vin := vin, poc := s.pwr.poc } }

/-- The cause detail of a shutdown's record: for THERMAL_SHUT the ten readings (R577). -/
def State.shutDetail (s : State) (cause : Nat) : List Word :=
  if cause = 5 then
    (List.range 5).map (fun i => w32 (s.rd ⟨R.THM_TEMP0 + 2 * i, 0, 16⟩ + s.rd ⟨R.THM_TEMP0 + 2 * i + 1, 0, 16⟩ * 2 ^ 16))
  else []

/-- The rails stop and the record is written from VIN (R548). A thermal shutdown first completes the write of MTP in progress, and
stays latched. -/
def State.finishDown (s : State) (cause : Nat) : State :=
  let thermal := decide (cause = 5 ∨ cause = 6)
  let t := if thermal then s.mtpWrite else s
  let t := (t.cardNow cause 0xFF (t.shutDetail cause)).railsOff
  if thermal then { t with pwr := { t.pwr with shut := true } } else t

/-- A power-down with its cause (R548): an eMMC command in progress holds the rails until it is complete. With every rail off only a
thermal shutdown still acts (R14, R577): it latches and its record is written. -/
def State.shutdown (s : State) (cause : Nat) : State :=
  let thermal := decide (cause = 5 ∨ cause = 6)
  match s.pwr.down with
  | some d => if thermal then { s with pwr := { s.pwr with down := some (cause, d.2) } } else s
  | none =>
    if s.pwr.pgood = 0 then (if thermal && !s.pwr.shut then s.finishDown cause else s)
    else if s.rec_.jobs.isEmpty then s.finishDown cause
    else { s with pwr := { s.pwr with down := some (cause, s.tt.clk) } }

end Sys2Proof.Machine
end

