-- ==== Sys2Proof/Machine/Recorder.lean ====
section
/-!
DEFINITION. The incident recorder and the Chalkboard (R640 to R658).
-/

namespace Sys2Proof.Machine

open Sys2Proof (Word Pkt)

/-! ### The Chalkboard -/

/-- Whether frames feed the ring (R647, R648). -/
def State.ringRuns (s : State) : Bool :=
  s.tst F.REC_CFG_EN && [0x3, 0x4, 0x5, 0x6].contains s.sys.mode && s.thm.level < 2 && (winRects s.live).any (fun w => w.code)

/-- The bytes of the ring. -/
def State.ringBytes (s : State) : Nat := 67108864 * s.rd F.REC_CFG_CB_MB

/-- Whether an open clip holds a frame (R649). -/
def State.heldFrame (s : State) (fn : Nat) : Bool := s.rec_.opens.any (fun c => seqLe c.first fn && seqLe fn c.last)

/-- Room made for a record: the oldest frames that no clip holds are overwritten first (R647); none where that does not suffice. -/
def State.makeRoom (s : State) (need : Nat) : Nat → List RecFrame → Option (List RecFrame)
  | 0, ring => if framesBytes ring + need ≤ s.ringBytes then some ring else none
  | n + 1, ring =>
    if framesBytes ring + need ≤ s.ringBytes then some ring
    else match ring.find? (fun f => !s.heldFrame f.fn) with
      | some f => s.makeRoom need n (ring.filter (fun g => g != f))
      | none => none

/-- Open clips changed. -/
def State.mapClips (s : State) (f : OpenClip → OpenClip) : State := { s with rec_ := { s.rec_ with opens := s.rec_.opens.map f } }

/-- A record added to the ring, and to the open clips that the frame belongs to (R647, R649). -/
def State.addFrame (s : State) (f : RecFrame) : State :=
  let mine := fun (c : OpenClip) => seqLe c.first f.fn && seqLe f.fn c.last
  match s.makeRoom f.size4 s.rec_.ring.length s.rec_.ring with
  | some ring =>
    let t := { s with rec_ := { s.rec_ with ring := ring ++ [f] } }
    t.mapClips (fun c => if mine c && !c.frames.contains f then { c with frames := c.frames ++ [f] } else c)
  | none => (s.bump F.REC_RINGDROP_COUNT).mapClips (fun c => if mine c then { c with trunc := true } else c)

/-- CHALKBOARD_ADD (R647): the record whose footer has been formed. -/
def execChalkboardAdd (s : State) : Host.Outcome State Fault Refusal :=
  .next (s.keepQueue (
    match s.rec_.formed with
    | none => s
    | some f =>
      let t := { s with rec_ := { s.rec_ with formed := none } }
      if t.ringRuns then t.addFrame f else t))

/-! ### Clips -/

/-- A power-down that waited for the eMMC goes on once nothing is in progress, or after 10 ms (R548). -/
def State.emmcIdle (s : State) : State :=
  match s.pwr.down with
  | some (cause, at_) => if s.rec_.jobs.isEmpty || decide (ms 10 + at_ ≤ s.tt.clk) then s.finishDown cause else s
  | none => s

/-- With REC_UNMOUNT waiting, POWER_OFF_NOTIFICATION follows the last open clip (R655). -/
def State.pumpUnmount (s : State) : State :=
  match s.rec_.unmountTag with
  | some g =>
    if s.rec_.opens.isEmpty && s.rec_.reading.isNone then
      { s with rec_ := { s.rec_ with unmountTag := none, jobs := s.rec_.jobs ++ [.notify g] } }
    else s
  | none => s

/-- POST_WINDOW_END (R650): the frames of the oldest clip whose post window runs have all been read. -/
def execPostWindowEnd (s : State) : Host.Outcome State Fault Refusal :=
  .next (s.keepQueue (
    match s.rec_.opens.find? (fun c => c.post) with
    | none => s
    | some c =>
      if s.tt.run && !seqLe (fnNext c.last) s.tt.fn then s
      else s.mapClips (fun d => if d.id = c.id then { d with post := false } else d)))

/-- The records that fit a number of bytes. -/
def fitFrames : Nat → List RecFrame → List RecFrame
  | _, [] => []
  | room, f :: fs => if f.size4 ≤ room then f :: fitFrames (room - f.size4) fs else []

/-- The words of an index entry before its CRC (R645). -/
def State.clipWords (s : State) (c : OpenClip) (fs : List RecFrame) (units : List Nat) (trunc : Bool) : List Word :=
  let kind := match fs with
    | f :: _ => flag (f.kind == 2)
    | [] => 0
  let first := match fs with
    | f :: _ => f.fn
    | [] => c.fnE
  let b := framesBytes fs
  [w32 (1 + flag c.protect * 2 ^ 8 + flag trunc * 2 ^ 9 + kind * 2 ^ 10 + c.source * 2 ^ 12 + c.id * 2 ^ 16), w32 first, w32 c.fnE,
   w32 fs.length, w32 c.tb, w32 (c.tb / 2 ^ 32), w32 (units.headD 0), w32 units.length, w32 b, w32 (b / 2 ^ 32), c.user,
   w32 c.sess, w32 (s.pwr.poc % 65536)] ++ List.replicate 18 0#32

/-- CLIP_WRITE_COMPLETE (R646, R651): the clip whose frames are all written is committed, and REC_CLIP_DONE is raised. -/
def execClipWriteComplete (s : State) : Host.Outcome State Fault Refusal :=
  .next (s.keepQueue (
    match s.rec_.opens.find? (fun c => !c.post) with
    | none => s
    | some c =>
      let t : State := { s with rec_ := { s.rec_ with opens := s.rec_.opens.filter (fun d => d.id != c.id) } }
      let want := max 1 (unitsFor (framesBytes c.frames))
      let units := c.unit :: ((t.freeUnits (t.rec_.units + 1) want 0).filter (fun u => u != c.unit)).take (want - 1)
      let fs := fitFrames (units.length * 1048064) c.frames
      let trunc := c.trunc || decide (fs.length < c.frames.length)
      let ws := t.clipWords c fs units trunc
      let u : State := { t with rec_ := { t.rec_ with
        clips := t.rec_.clips ++ [⟨ws, units, fs⟩],
        journal := t.rec_.journal ++ [.commitRec c.id units.length (crc32c ws)],
        written := t.rec_.written + framesBytes fs } }
      (u.event 0x10 [w32 (c.id + flag trunc * 2 ^ 16), w32 fs.length]).pumpUnmount))

/-! ### Mounting -/

/-- A mount begins (R653, R655). -/
def State.mountStart (s : State) (tag : Option Nat) (format : Bool) : State :=
  { s with rec_ := { s.rec_ with mount := 1, mountTag := tag, format := format } }

/-- Clips whose OPEN has no COMMIT in a journal (R646), but for those that are being written. -/
def tornIn (j : List Journal) (live : List Nat) : Nat :=
  (j.foldl (fun (open_ : List Nat) r =>
    match r with
    | .openRec c _ => c :: open_
    | .commitRec c _ _ => open_.filter (fun d => d != c)
    | .eraseRec _ => open_) []).countP (fun c => !live.contains c)

/-- The end of a mount with the final reply of the REC_MOUNT that asked for it. -/
def State.mountEnd (s : State) (mount st : Nat) (pl : List Word) : State :=
  let t := { s with rec_ := { s.rec_ with mount := mount, mountTag := none, format := false } }
  match s.rec_.mountTag with
  | some g => t.finish 0xC0 g st t.tt.fn pl
  | none => t

/-- MOUNT_COMPLETE (R646, R653): whether the eMMC responds and a superblock copy has a good CRC. A FORMAT writes a new layout. -/
def execMountComplete (responds superblock : Bool) (s : State) : Host.Outcome State Fault Refusal :=
  .next (s.keepQueue (
    if s.rec_.mount != 1 then s
    else if !responds then (s.faultC 19).mountEnd 3 0x0C [0xC1#32]
    else if s.rec_.format then
      State.mountEnd { s with rec_ := { s.rec_ with
        superblock := true, units := min 262144 Config.emmcUnits, clips := [], journal := [], written := 0 } } 2 0 []
    else if !superblock then s.mountEnd 0 0x0C [0xC2#32]
    else
      let t := s.bumpBy F.REC_TORN_COUNT (tornIn s.rec_.journal (s.rec_.opens.map (fun c => c.id)))
      State.mountEnd { t with rec_ := { t.rec_ with
        superblock := true, units := if t.rec_.units = 0 then min 262144 Config.emmcUnits else t.rec_.units,
        journal := t.rec_.opens.map (fun c => .openRec c.id c.unit), written := 0 } } 2 0 []))

/-- WEAR_CHECK (R640, R653): the life-time estimates, read every 60 s. -/
def execWearCheck (lifeA lifeB preEol : Nat) (s : State) : Host.Outcome State Fault Refusal :=
  .next (s.keepQueue (
    if s.rec_.mount != 2 then s
    else
      let t := s.elapse (ms 60000 + s.rec_.wearAt)
      let t := { t with rec_ := { t.rec_ with wearAt := t.tt.clk } }
      let t := t.setReg R.REC_WEAR (w32 (lifeA % 16 + lifeB % 16 * 16 + preEol % 4 * 256))
      if 2 ≤ preEol % 4 then (t.wr F.REC_STAT_WEAR_WARN 1).faultC 19 else t))

/-! ### eMMC commands -/

/-- A frame record of a clip sent on stream 0x31 (R654). -/
def State.sendRecord (s : State) (f : RecFrame) : State :=
  let form := if f.kind = 2 then 9 else 3
  let size := if f.kind = 2 then w32 (512 + 512 * 2 ^ 16) else putBits f.size 16 13 0
  let t := s.streamPacket 0x31 1 f.fn [size, w32 form, w32 f.fn, w32 f.bytes]
  let t := t.streamPacket 0x31 2 f.fn f.hdr
  let t := t.splitPackets 0x31 4 f.fn (f.content.length / 4093 + 1) 0 f.content
  t.streamPacket 0x31 6 f.fn f.ftr

/-- One record of the clip being read has been fetched: it is sent, and the next one asked for, or the read ends. A shed ends the
read with DEGRADED (R654). -/
def State.readStep (s : State) : State :=
  match s.rec_.reading with
  | none => s
  | some r =>
    if s.streamShed 0x31 then
      let t := { s with rec_ := { s.rec_ with reading := none } }
      ((t.streamPacket 0x31 7 s.tt.fn [1#32]).bump F.OUT_ABORT_COUNT).finish 0xC4 r.tag 0x0D t.tt.fn []
    else match r.frames with
      | [] => State.finish { s with rec_ := { s.rec_ with reading := none } } 0xC4 r.tag 0 s.tt.fn []
      | f :: fs =>
        let t := s.sendRecord f
        if fs.isEmpty then
          State.pumpUnmount (State.finish { t with rec_ := { t.rec_ with reading := none } } 0xC4 r.tag 0 t.tt.fn [])
        else { t with rec_ := { t.rec_ with reading := some { r with frames := fs }, jobs := t.rec_.jobs ++ [.readFrame] } }

/-- An eMMC command failed after three retries (R640): it is counted, the clip being written is marked TRUNC, and EMMC is raised. -/
def State.emmcFail (s : State) : State :=
  let t := s.bump F.REC_IOERR_COUNT
  let t := match t.rec_.opens with
    | c :: _ => t.mapClips (fun d => if d.id = c.id then { d with trunc := true } else d)
    | [] => t
  t.faultC 19

/-! ### Commands -/

/-- NO_RESOURCE, reason NO_FS. -/
def State.noFs (s : State) : Ans × State := s.fin 6 [0xC2#32]

/-- Whether open clips or a running read hold the eMMC (R655). -/
def State.emmcHeld (s : State) : Bool := !s.rec_.opens.isEmpty || s.rec_.reading.isSome

/-- REC_MOUNT (R655): with FORMAT it carries a trailer. -/
def srvRecMount (k : Pkt) (s : State) : Ans × State :=
  let act := fun (format : Bool) (t : State) =>
    if t.rec_.mount = 1 ∨ (format ∧ t.emmcHeld) then t.fin 8 [] else ((.accepted [], t.mountStart (some k.tag) format) : Ans × State)
  if pf k 0 0 1 = 1 then s.withTrailer 0xC0 k true (act true)
  else if k.payload.length ≠ 1 then s.fin 3 []
  else act false s

/-- REC_CFG and REC_CLIP as one change (R648, R655, R656): SIZE, BUSY while a clip is open, and the ring emptied. A READ_RATE outside
1 to 40 is PARAM for a reason that the spec does not name: a free value. -/
def recConfig (cfg clip : Word) (s : State) : WRes × State :=
  let mb := bits cfg 4 6
  let empties := mb != s.rd F.REC_CFG_CB_MB || (s.tst F.REC_CFG_EN && !bit cfg 0)
  if bits cfg 16 6 < 1 ∨ 40 < bits cfg 16 6 then
    let (w, t) := s.fresh
    (.refuse 4 (bits w 0 8) 0, t)
  else if mb < 1 ∨ 32 < mb ∨ 60000 < bits clip 0 16 ∨ 60000 < bits clip 16 16 then (.refuse 4 0xC4 0, s)
  else if empties && !s.rec_.opens.isEmpty then (.refuse 8 0 0, s)
  else
    let t := (s.setReg R.REC_CFG (keepMask cfg 0x3F03F7)).setReg R.REC_CLIP clip
    (.ok, if empties then { t with rec_ := { t.rec_ with ring := [] } } else t)

/-- REC_CONFIG (R655): a change of RING from 0 to 1 carries a trailer. -/
def srvRecConfig (k : Pkt) (s : State) : Ans × State :=
  let act := fun (t : State) =>
    let r := recConfig (pw k 0) (pw k 1) t
    WRes.ans r.2 r.1
  if bit (pw k 0) 1 && !s.tst F.REC_CFG_RING then s.withTrailer 0xC1 k true act
  else if k.payload.length ≠ 2 then s.fin 3 []
  else act s

/-- REC_EVENT (R650, R651, R655). -/
def srvRecEvent (k : Pkt) (s : State) : Ans × State :=
  let e := s.tt.fn
  let r := s.recEvent 0 (pf k 0 0 1 == 1) (pw k 1) [] true
  match r.1.1 with
  | some id => (.done 0 e [w32 id], r.2)
  | none => r.2.fin r.1.2.1 r.1.2.2

/-- The index entry of a clip ID (R645): that of a free one holds zeros. -/
def State.indexEntry (s : State) (id : Nat) : List Word :=
  let ws := match s.rec_.clips.find? (fun c => c.id == id) with
    | some c => c.words
    | none => List.replicate 31 0#32
  ws ++ [crc32c ws]

/-- REC_INDEX_READ (R655). -/
def srvRecIndexRead (k : Pkt) (s : State) : Ans × State :=
  let n := pf k 1 0 4
  if s.rec_.mount != 2 then s.noFs
  else if n = 0 ∨ 8 < n then s.paramOpen
  else if 65536 < pf k 0 0 16 + n then s.param 0xC0
  else s.ok ((List.range n).flatMap (fun i => s.indexEntry (pf k 0 0 16 + i)))

/-- REC_CLIP_READ (R654, R655). -/
def srvRecClipRead (k : Pkt) (s : State) : Ans × State :=
  if s.checkMode == 0x7 then State.fin (s.bump F.CMD_STATE_COUNT) 5 [w32 s.checkMode]
  else if s.rec_.mount != 2 then s.noFs
  else match s.rec_.clips.find? (fun c => c.id == pf k 0 0 16) with
    | none => s.param 0xC0
    | some c =>
      if s.emmcHeld then s.fin 8 []
      else
        let fs := c.frames.drop (pw k 1).toNat
        let fs := if pw k 2 = 0#32 then fs else fs.take (pw k 2).toNat
        let t := { s with rec_ := { s.rec_ with reading := some ⟨k.tag, fs⟩ } }
        if !t.bandwidthOk t.staged (t.rd F.LNK_CFG_RATE) (t.rd F.LNK_CFG_LANES) then s.param 0x73
        else if fs.isEmpty then (.both 0 s.tt.fn [], s)
        else (.accepted [], { t with rec_ := { t.rec_ with jobs := t.rec_.jobs ++ [.readFrame] } })

/-- REC_ERASE (R655): it carries a trailer. -/
def srvRecErase (k : Pkt) (s : State) : Ans × State :=
  s.withTrailer 0xC5 k true (fun t =>
    let lo := pf k 0 0 16
    let n := pf k 1 0 17
    let ids := (t.rec_.clips.filter (fun c => decide (lo ≤ c.id) && decide (c.id < lo + n)))
    if t.rec_.mount != 2 then t.noFs
    else if t.emmcHeld then t.fin 8 []
    else if n = 0 ∨ 65536 < lo + n ∨ ids.isEmpty then t.param 0xC0
    else if pf k 0 16 1 = 0 ∧ ids.any Clip.protected_ = true then t.param 0xC3
    else (.accepted [], { t with rec_ := { t.rec_ with jobs := t.rec_.jobs ++ [.erase k.tag (ids.map Clip.id)] } }))

/-- REC_UNMOUNT (R655): post windows are cut at the present frame. -/
def srvRecUnmount (k : Pkt) (s : State) : Ans × State :=
  if s.rec_.mount != 2 then s.noFs
  else if s.rec_.unmountTag.isSome then s.fin 8 []
  else
    let t := s.mapClips (fun c => if c.post then { c with post := false, last := s.tt.fn } else c)
    (.accepted [], State.pumpUnmount { t with rec_ := { t.rec_ with unmountTag := some k.tag } })

/-! ### Registers -/

/-- A refused write of bank REC. -/
def recErr (s : State) (st reason : Nat) : WRes × State :=
  (.refuse st reason 0, s.wrs [(F.REC_STAT_ERR, 1), (F.REC_STAT_REASON, reason)])

/-- A write of REC_CFG or REC_CLIP. A change of RING from 0 to 1, which needs an authenticated session, is refused here. -/
def wrRec (a : Nat) (v : Word) (s : State) : WRes × State :=
  let cfg := if a = R.REC_CFG then v else s.reg R.REC_CFG
  if bit cfg 1 && !s.tst F.REC_CFG_RING then recErr s 9 0xBB
  else
    let r := recConfig cfg (if a = R.REC_CLIP then v else s.reg R.REC_CLIP) s
    match r.1 with
    | .ok => (.ok, r.2)
    | .refuse st reason _ => recErr r.2 st reason

/-- What REC_STAT reads as (R657). -/
def State.viewRecStat (s : State) : Word :=
  let o := s.rec_.opens.length
  w32 (s.rec_.mount + flag s.ringRuns * 4 + o * 8 + flag (o != 0) * 64 + flag s.rec_.reading.isSome * 128 +
    (s.reg R.REC_STAT).toNat / 2 ^ 8 * 2 ^ 8)

/-- What the registers of bank REC read as whose values are not kept whole in the memory (R657, R658). -/
def viewRec (a : Nat) (s : State) : Option Word :=
  if a = R.REC_STAT then some s.viewRecStat
  else if a = R.REC_CLIPS then some (w32 s.rec_.clips.length)
  else if a = R.REC_FREE then some (w32 s.unitsFree)
  else if a = R.REC_CBFILL then some (w32 s.rec_.ring.length)
  else if a = R.REC_WRITTEN then some (w32 (min (2 ^ 32 - 1) (s.rec_.written / 1000000000)))
  else none

end Sys2Proof.Machine
end

