-- ==== Sys2Proof/Machine/Dependability.lean ====
section
/-!
DEFINITION. Never-stop operation (R659 to R675): the fault commands, the watchdog and the firmware restart, the display
monitor, self-tests, and the staging and switching of firmware images.
-/

namespace Sys2Proof.Machine

open Sys2Proof (Word Byte Pkt)

/-! ### Restarts and LIMP -/

/-- An eMMC command whose host command is no longer open. -/
def EmmcJob.orphan : EmmcJob → EmmcJob
  | .erase tag ids => .erase (tag + 4096) ids
  | .notify tag => .notify (tag + 4096)
  | .stageErase tag => .stageErase (tag + 4096)
  | .stageWrite tag key words => .stageWrite (tag + 4096) key words
  | .persist _ target => .persist none target
  | .readFrame => .readFrame
  | .bootLoad image second => .bootLoad image second

/-- Actions that go on in hardware without the command that began them (R475, R476): no action answers a tag any more, so that a
new command with the same tag has its own reply alone. -/
def State.dropTags (s : State) : State :=
  { s with
    pwr := { s.pwr with cmds := s.pwr.cmds.map (fun c => { c with tag := none }) },
    lnk := { s.lnk with
      test := s.lnk.test.map (fun x => { x with tag := none }), loop := s.lnk.loop.map (fun x => { x with tag := none }) },
    pb := { s.pb with
      tag := none,
      queue := s.pb.queue.map (fun w => { w with tag := w.tag + 4096 }),
      jobs := s.pb.jobs.map (fun j => { j with tag := j.tag + 4096 }),
      now := match s.pb.now with
        | .set tag i => .set (tag + 4096) i
        | x => x },
    sys := { s.sys with mtpQueue := s.sys.mtpQueue.map (fun w => { w with tag := none }) },
    otp := { s.otp with job := s.otp.job.map (fun j => { j with tag := j.tag + 4096 }) },
    sec := { s.sec with
      hand := s.sec.hand.filter (fun h => h.tag.isNone), finish := s.sec.finish.map (fun f => { f with tag := f.tag + 4096 }),
      quizzes := s.sec.quizzes.map (fun q => { q with host := none }), sched := s.sec.sched.map (fun q => { q with host := none }) },
    rec_ := { s.rec_ with jobs := s.rec_.jobs.map EmmcJob.orphan },
    saf := { s.saf with selftest := none, pinTest := false } }

/-- Every command that the firmware had begun is answered INTERNAL with 0xFE: the program that had begun it no longer runs (R475).
TRIGGER_FIRE is the front end's own. -/
def State.answerBegun (s : State) : State :=
  (s.fe.opn.filter (fun o => o.op != 0x54)).foldl (fun t o => t.finish o.op o.tag 0x0C t.tt.fn [w32 0xFE]) s.dropTags

/-- Whether the restart that happens now is the third within 10 s (R665). -/
def State.thirdRestart (s : State) : Bool :=
  decide (2 ≤ (s.saf.restarts.filter (fun t => decide (s.tt.clk ≤ ms 10000 + t))).length)

/-- The firmware halts: its watchdog stops, a live switch is abandoned, and the recorder's unfinished clips and its read are left to
the next mount (R652, R664). -/
def State.fwHalt (s : State) : State :=
  { s with
      saf := { s.saf with wdogRun := false, switching := none, switchReady := false },
      rec_ := { s.rec_ with mount := 0, mountTag := none, format := false, opens := [], reading := none, unmountTag := none } }

/-- The place in the eMMC boot partitions of image 0 or 1 (R642). -/
def imageWid (image : Nat) : Nat := if image = 0 then widBootA else widBootB

/-- The boot ROM asks the eMMC for an image: first that which the boot configuration selects (R503). -/
def State.loadImage (s : State) : State :=
  if s.rec_.present then
    { s with sys := { s.sys with imageGood := false }, rec_ := { s.rec_ with jobs := s.rec_.jobs ++ [.bootLoad s.saf.boot false] } }
  else s.limpFor 1

/-- A restart of the firmware, or of the boot ROM before take-over, with the fault that causes it (R665): it is counted, and the
third within 10 s enters LIMP with cause WATCHDOG. In LIMP the boot ROM restarts its service and answers what it had begun. -/
def State.restartFor (s : State) (id : Nat) : State :=
  if s.sys.fw == .limp then (s.faultC id).answerBegun
  else
    let third := s.thirdRestart
    let t := if third then s.fault id (3 * 2 ^ 12) else s.faultC id
    let t := (t.bump F.SAF_RESTARTS_COUNT).fwHalt
    let t : State := { t with
      saf := { t.saf with restarts := t.tt.clk :: t.saf.restarts.filter (fun x => t.tt.clk ≤ ms 10000 + x) },
      sys := { t.sys with
               fw := if t.sys.takenOver then .restarting else .rom, fwReady := false,
               romAeClose := false, romStepFn := none } }
    let t := if s.sys.takenOver then t else t.loadImage
    if third then (t.limpFor 3).card 0x0C 0xFF [] else t

/-- The firmware takes control (R475, R653, R664): its watchdog starts afresh, what a halted firmware had begun is answered, and the
recorder is mounted. -/
def State.fwTakes (s : State) : State :=
  let t : State := { s with
    sys := { s.sys with fw := .running, fwReady := false, takenOver := true },
    saf := { s.saf with kickAt := s.tt.clk, wdogRun := true } }
  let t := if s.sys.fw == .restarting then t.answerBegun else t
  if t.rec_.present then t.mountStart none false else t

/-- SAF_WDOG.TIMEOUT in units of `clk`; values below 8 ms act as 8 (R672). -/
def State.wdogTime (s : State) : Nat := ms (max 8 (s.rd F.SAF_WDOG_TIMEOUT))

/-- WATCHDOG (R664): no kick came within TIMEOUT. -/
def execWatchdog (s : State) : Host.Outcome State Fault Refusal :=
  .next (s.keepQueue (
    if s.saf.wdogRun then (s.elapse (s.saf.kickAt + s.wdogTime)).restartFor 9 else s))

/-- KICK (R664): a kick by the control controller restarts the window; one before TIMEOUT / 8 is a WATCHDOG fault. -/
def execKick (s : State) : Host.Outcome State Fault Refusal :=
  .next (s.keepQueue (
    if !s.saf.wdogRun then s
    else if 8 * (s.tt.clk - s.saf.kickAt) < s.wdogTime then s.restartFor 9
    else { s with saf := { s.saf with kickAt := s.tt.clk } }))

/-- Whether the control controller runs: reset is released (R665). -/
def State.coreRuns (s : State) : Bool := s.sys.phase == .boot || s.sys.phase == .run

/-- LOCKSTEP (R664, R665). -/
def execLockstep (s : State) : Host.Outcome State Fault Refusal :=
  .next (s.keepQueue (if s.coreRuns then s.restartFor 8 else s))

/-- MEM_UNCORR (R663): the error is counted in SAF_ECCm; in the memories of the firmware it is a fault and a restart. -/
def execMemUncorr (memory : Nat) (s : State) : Host.Outcome State Fault Refusal :=
  .next (s.keepQueue (
    if !s.coreRuns || 6 < memory then s
    else
      let t := s.bump ⟨R.SAF_ECC0 + memory, 16, 8⟩
      if [0, 2, 5].contains memory then t.restartFor 10 else t))

/-! ### The display monitor -/

/-- DSTALL (R661): no display A frame ended with FOOTER within FRAMES frame periods; LIMP, or in LIMP the black picture. -/
def execDstall (s : State) : Host.Outcome State Fault Refusal :=
  .next (s.keepQueue (
    if !streamingMode s.sys.mode || s.sys.phase != .run then s
    else
      let n := max 2 (s.rd F.SAF_DSTALL_FRAMES)
      let t := s.elapse (s.saf.dispFooterAt + n * 16 * s.rd F.TT_VTOTAL_VTOTAL * rpRaw s.live)
      if t.sys.mode == 0xB then
        let u := t.faultC 0
        { u with sys := { u.sys with black := true } }
      else (t.fault 0 (4 * 2 ^ 12)).limpFor 4))

/-- The source FN of a display A frame with REPEAT 0 against the one before (R661): FROZEN where it does not advance. -/
def State.monitorSource (s : State) (src : Nat) : State :=
  let t := { s with saf := { s.saf with dispSrc := some src } }
  match s.saf.dispSrc with
  | some p => if seqLe src p then (t.fault 1 (4 * 2 ^ 12)).limpFor 4 else t
  | none => t

/-! ### Fault and diagnostic commands -/

/-- The faults that stay active until FAULT_CLEAR (R660): IDs 0, 1, 4, 6 to 10, 15, 17 and 19. -/
def eventFaults : Nat := 0x0A87D3

/-- FAULT_READ (R670). -/
def srvFaultRead (_k : Pkt) (s : State) : Ans × State :=
  s.ok ([s.reg R.SAF_ACTIVE, s.reg R.SAF_LATCHED, s.reg R.SAF_LAST] ++ s.saf.counts.map w32)

/-- FAULT_CLEAR (R670): the latched bits of the mask, and the active bits of event faults in it. -/
def srvFaultClear (k : Pkt) (s : State) : Ans × State :=
  let m := pf k 0 0 21
  let t := s.setReg R.SAF_LATCHED (clearMask (s.reg R.SAF_LATCHED) m)
  let t := t.setReg R.SAF_ACTIVE (clearMask (t.reg R.SAF_ACTIVE) (m &&& eventFaults))
  t.ok [t.reg R.SAF_ACTIVE]

/-- ECC_STATUS (R670). -/
def srvEccStatus (k : Pkt) (s : State) : Ans × State :=
  let ws := s.run R.SAF_ECC0 7
  (if pf k 0 0 1 == 1 then s.setRun R.SAF_ECC0 (List.replicate 7 0#32) else s).ok ws

/-- SELFTEST_RUN (R670): test 3 pulls FAULT_N low and runs only in STANDBY. -/
def srvSelftestRun (k : Pkt) (s : State) : Ans × State :=
  if (pf k 0 0 4).testBit 3 && s.checkMode != 0x2 then s.param 0xE1
  else if s.saf.selftest.isSome then s.fin 8 []
  else (.accepted [], { s with saf := { s.saf with selftest := some (pf k 0 0 4), pinTest := (pf k 0 0 4).testBit 3 } })

/-- SELFTEST_COMPLETE (R670): OK with the pass bits, or DEGRADED where a test failed. -/
def execSelftestComplete (passed : Nat) (s : State) : Host.Outcome State Fault Refusal :=
  .next (s.keepQueue (
    match s.saf.selftest with
    | none => s
    | some tests =>
      let got := passed &&& tests
      State.finishOp { s with saf := { s.saf with selftest := none, pinTest := false } } 0xE0
        (if got = tests then 0 else 0x0D) s.tt.fn [w32 got]))

/-! ### Firmware images -/

/-- What SAF_FWSTAT reads as (R674). -/
def State.viewFwStat (s : State) : Word :=
  w32 (s.sys.image % 2 + s.saf.boot % 2 * 2 + s.saf.stage % 4 * 4 + s.saf.svn % 256 * 16 + s.saf.svnStaged % 256 * 2 ^ 12 +
    flag s.saf.switching.isSome * 2 ^ 20)

/-- What the registers of bank SAF read as whose values are not kept whole in the memory. -/
def viewSaf (a : Nat) (s : State) : Option Word := if a = R.SAF_FWSTAT then some s.viewFwStat else none

/-- FW_INFO (R670). -/
def srvFwInfo (_k : Pkt) (s : State) : Ans × State := s.ok [s.viewFwStat, s.reg R.OTP_FW_VERSION]

/-- An eMMC command for the firmware images. -/
def State.emmcAsk (s : State) (j : EmmcJob) : State := { s with rec_ := { s.rec_ with jobs := s.rec_.jobs ++ [j] } }

/-- FW_STAGE_BEGIN (R667, R670). -/
def srvFwStageBegin (k : Pkt) (s : State) : Ans × State :=
  s.withTrailer 0xD0 k true (fun t =>
    let target := pf k 0 0 1
    if t.saf.switching.isSome then t.fin 8 []
    else if target = t.sys.image ∧ (t.sys.fw ≠ Fw.limp ∨ t.sys.imageGood = true) then t.param 0xD0
    else if 8388864 < (pw k 1).toNat then t.paramOpen
    else
      let u : State := { t with saf := { t.saf with stage := 1, target := target, total := (pw k 1).toNat, offset := 0, svnStaged := 0 } }
      (.later, u.emmcAsk (.stageErase k.tag)))

/-- FW_STAGE_CHUNK (R667, R670): chunks in order, each a multiple of 4 bytes. -/
def srvFwStageChunk (k : Pkt) (s : State) : Ans × State :=
  s.withTrailer 0xD1 k true (fun t =>
    let off := (pw k 0).toNat
    let ws := (k.payload.drop 1).take (k.payload.length - 6)
    if t.saf.stage = 0 ∨ off ≠ t.saf.offset ∨ off % 4 ≠ 0 ∨ t.saf.total + 3 < off + 4 * ws.length then t.param 0xD1
    else
      let u : State := { t with saf := { t.saf with stage := 1, offset := off + 4 * ws.length } }
      (.later, u.emmcAsk (.stageWrite k.tag (wkey (imageWid t.saf.target) (off / 4)) ws)))

/-- FW_STAGE_VERIFY (R670): it checks the image of the partition that is staged. -/
def srvFwStageVerify (_k : Pkt) (s : State) : Ans × State :=
  if s.isOpen 0xD2 then s.fin 8 [] else (.accepted [], s)

/-- The partition that FW_STAGE_VERIFY and FW_SWITCH look at: the staged one, else that which is not in use. -/
def State.stageTarget (s : State) : Nat := if s.saf.stage = 0 then 1 - s.sys.image else s.saf.target

/-- STAGE_VERIFY_DONE (R632, R667, R670). -/
def execStageVerifyDone (s : State) : Host.Outcome State Fault Refusal :=
  .next (s.keepQueue (
    if !s.isOpen 0xD2 then s
    else
      let wid := imageWid s.stageTarget
      match s.imageFail wid with
      | some n =>
        State.finishOp { s with saf := { s.saf with stage := 3 } } 0xD2 4 s.tt.fn [w32 (0xD2 + n * 256)]
      | none =>
        let svn := bits (s.reg (wkey wid 2)) 0 8
        State.finishOp { s with saf := { s.saf with stage := 2, target := s.stageTarget, svnStaged := svn } } 0xD2 0 s.tt.fn [w32 svn]))

/-- FW_SWITCH (R667, R668, R670). -/
def srvFwSwitch (k : Pkt) (s : State) : Ans × State :=
  s.withTrailer 0xD3 k true (fun t =>
    let live := pf k 0 0 1 == 1
    let persist := pf k 0 1 1 == 1
    if live && t.sys.mode == 0xB then State.fin (t.bump F.CMD_STATE_COUNT) 5 [w32 t.sys.mode]
    else if t.saf.switching.isSome then t.fin 8 []
    else if t.saf.stage ≠ 2 then t.param 0xD3
    else if live && t.saf.target == t.sys.image then t.param 0xD0
    else if live then
      let u : State := { t with saf := { t.saf with switching := some (k.tag, persist), switchReady := false, switchAt := t.tt.clk } }
      (.accepted [], if persist then u.emmcAsk (.persist none t.saf.target) else u)
    else if persist then (.later, t.emmcAsk (.persist (some k.tag) t.saf.target))
    else t.ok [])

/-- SWITCH_LOAD_DONE (R632, R668 steps 1 and 2): the incoming image passes its checks and is ready. -/
def execSwitchLoadDone (s : State) : Host.Outcome State Fault Refusal :=
  .next (s.keepQueue (
    if s.saf.switching.isSome && (s.imageFail (imageWid s.saf.target)).isNone then
      { s with saf := { s.saf with switchReady := true } }
    else s))

/-- SWITCH_TIMEOUT (R668): the incoming image was not ready within 200 ms; the outgoing firmware keeps control. -/
def execSwitchTimeout (s : State) : Host.Outcome State Fault Refusal :=
  .next (s.keepQueue (
    if s.saf.switching.isSome && !s.saf.switchReady then
      let t := s.elapse (ms 200 + s.saf.switchAt)
      State.finishOp { t with saf := { t.saf with switching := none } } 0xD3 0x0C t.tt.fn []
    else s))

/-- Control passes to the incoming firmware after a COMMIT event (R668 steps 3 to 5). -/
def State.switchNow (s : State) : State :=
  if s.saf.switching.isSome && s.saf.switchReady then
    let fn := fnNext s.tt.fn
    let t : State := { s with
      saf := { s.saf with switching := none, switchReady := false, svn := s.saf.svnStaged,
                          slot := bits (s.reg (wkey (imageWid s.saf.target) 1)) 8 2, kickAt := s.tt.clk },
      sys := { s.sys with image := s.saf.target } }
    (t.event 0x0F [w32 t.sys.image, w32 fn]).finishOp 0xD3 0 fn []
  else s

/-! ### The end of an eMMC command -/

/-- What an eMMC command that is complete has done (R503, R646, R655, R667, R668). -/
def State.emmcDone (s : State) (j : EmmcJob) : State :=
  match j with
  | .erase tag ids =>
    let t := ids.foldl (fun (u : State) i => u.eraseClip i) s
    t.finish 0xC5 tag 0 t.tt.fn []
  | .notify tag => State.finish { s with rec_ := { s.rec_ with mount := 0 } } 0xC6 tag 0 s.tt.fn []
  | .readFrame => s.readStep
  | .stageErase tag =>
    let t : State := { s with mem := s.mem.clearRun (wkey (imageWid s.saf.target) 0) 2097216 }
    t.finish 0xD0 tag 0 t.tt.fn []
  | .stageWrite tag key ws =>
    let t := s.setRun key ws
    t.finish 0xD1 tag 0 t.tt.fn []
  | .persist tag target =>
    let t : State := { s with saf := { s.saf with boot := target } }
    match tag with
    | some g => t.finish 0xD3 g 0 t.tt.fn []
    | none => t
  | .bootLoad image second =>
    if s.sys.fw != .rom then s
    else
      match s.imageFail (imageWid image) with
      | none =>
        { s with sys := { s.sys with image := image, imageGood := true },
                 saf := { s.saf with svn := bits (s.reg (wkey (imageWid image) 2)) 0 8,
                                     slot := bits (s.reg (wkey (imageWid image) 1)) 8 2 } }
      | some _ => if second then s.limpFor 1 else s.emmcAsk (.bootLoad (1 - image) true)

/-- What an eMMC command that failed leaves: its command is answered INTERNAL, reason NO_MEDIA (R640, R655). -/
def State.emmcFailed (s : State) (j : EmmcJob) : State :=
  let t := s.emmcFail
  let say := fun (u : State) (op tag : Nat) => u.finish op tag 0x0C u.tt.fn [0xC1#32]
  match j with
  | .erase tag _ => say t 0xC5 tag
  | .notify tag => say { t with rec_ := { t.rec_ with mount := 0 } } 0xC6 tag
  | .readFrame =>
    match t.rec_.reading with
    | some r => say { t with rec_ := { t.rec_ with reading := none } } 0xC4 r.tag
    | none => t
  | .stageErase tag => say { t with saf := { t.saf with stage := 3 } } 0xD0 tag
  | .stageWrite tag _ _ => say { t with saf := { t.saf with stage := 3 } } 0xD1 tag
  | .persist tag _ =>
    match tag with
    | some g => say t 0xD3 g
    | none => t
  | .bootLoad _ _ => if t.sys.fw == .rom then t.limpFor 1 else t

/-- EMMC_COMMAND_DONE (R548, R640): the command at the head is complete, or has failed after three retries. With none in progress
a failure is that of a clip's write. -/
def execEmmcCommandDone (good : Bool) (s : State) : Host.Outcome State Fault Refusal :=
  .next (s.keepQueue (
    match s.rec_.jobs with
    | [] => if good || s.rec_.opens.isEmpty then s else s.emmcFail
    | j :: js =>
      let t : State := { s with rec_ := { s.rec_ with jobs := js } }
      State.emmcIdle (if good then t.emmcDone j else t.emmcFailed j)))

/-! ### Registers -/

/-- A write of SAF_WDOG by a host: TIMEOUT and LOCK; KICK has no effect (R664, R672). -/
def wrSafWdog (v : Word) (locked : Bool) (s : State) : WRes × State :=
  let t := if locked then s else s.wr F.SAF_WDOG_TIMEOUT (bits v 0 16)
  (.ok, if bit v 31 then t.wr F.SAF_WDOG_LOCK 1 else t)

end Sys2Proof.Machine
end

