-- ==== Sys2Proof/Machine/Startup.lean ====
section
/-!
DEFINITION. The supply (R537, R547 to R549), reset and its release (R494, R495, R515, R594 to R596), and start-up up to FN 0:
locks, Roll Call (R37, R498), the DRAM, the Homeroom settings, and quick calibration.
-/

namespace Sys2Proof.Machine

open Sys2Proof (Word RollCall)

/-! ### Rails -/

/-- The step of R547 at which a rail rises; VCMP is not in the order. -/
def riseStep (rail : Nat) : Nat := [6, 5, 3, 4, 2, 5, 0, 7].getD rail 0

/-- The rails that rise at a step of R547. -/
def stepRails (k : Nat) : List Nat := (List.range 8).filter (fun r => riseStep r == k && k != 0)

/-- The typical length of a step of R547 in ns. -/
def stepNs (k : Nat) : Nat := [0, 1000000, 1200000, 1200000, 1200000, 1200000, 1700000, 700000].getD k 0

/-- Every rail but VCMP is power-good. -/
def State.railsGood (s : State) : Bool := s.pwr.pgood &&& 0xBF == 0xBF

/-- Sequencing begins at step 1 of R547 where VIN allows it and nothing holds the rails off (R537). -/
def State.beginRise (s : State) : State :=
  if s.sys.phase == .reset && decide (580 ≤ s.pwr.vin) && s.pwr.step == 0 && !s.pwr.surge && !s.pwr.shut && s.pwr.latched &&& 0xBF == 0 then
    { s with pwr := { s.pwr with step := 1, stepAt := s.tt.clk } }
  else s

/-- The origin of R495: VIN above 6.0 V with RESET_N high. -/
def State.markOrigin (s : State) (was : Nat) : State :=
  if s.sys.phase == .reset && s.sys.resetN && decide (was ≤ 600) && decide (600 < s.pwr.vin) then
    { s with sys := { s.sys with origin := s.tt.clk } }
  else s

/-- VIN_RISE (R537, R619): `vin` in 10 mV. The power die comes alive at 4.5 V, which raises the power-on count. -/
def execVinRise (vin : Nat) (s : State) : Host.Outcome State Fault Refusal :=
  .next (s.keepQueue (
    if vin ≤ s.pwr.vin then s
    else
      let t : State := { s with pwr := { s.pwr with vin := vin } }
      let t : State := if s.sys.phase == .unpowered && decide (450 ≤ vin) then
          { t with sys := { t.sys with phase := .reset }, pwr := { t.pwr with poc := (t.pwr.poc + 1) % 2 ^ 32 } }
        else t
      (t.markOrigin s.pwr.vin).beginRise))

/-- UVLO (R537): VIN below 5.4 V for 50 µs. -/
def execUvlo (vin : Nat) (s : State) : Host.Outcome State Fault Refusal :=
  .next (s.keepQueue (
    if 540 ≤ vin ∨ s.sys.phase = .unpowered then s
    else
      let t := s.elapse (us 50 + s.tt.clk)
      State.shutdown { t with pwr := { t.pwr with vin := vin } } 1))

/-- UNPOWERED (R537): VIN below 4.5 V. -/
def execUnpowered (s : State) : Host.Outcome State Fault Refusal := .next (s.keepQueue (s.powerOff 0))

/-- VIN_HI (R537): VIN above 19.5 V for 10 µs. -/
def execVinHi (vin : Nat) (s : State) : Host.Outcome State Fault Refusal :=
  .next (s.keepQueue (
    if vin ≤ 1950 ∨ s.sys.phase = .unpowered then s
    else
      let t := s.elapse (us 10 + s.tt.clk)
      let t : State := { t with pwr := { t.pwr with vin := vin, vinHi := true } }
      if t.coreRuns then t.faultC 18 else t))

/-- VIN_HI_END (R537): VIN is back within 19.5 V. -/
def execVinHiEnd (s : State) : Host.Outcome State Fault Refusal :=
  .next (s.keepQueue (
    State.faultEnd { s with pwr := { s.pwr with vin := min s.pwr.vin 1950, vinHi := false } } 18))

/-- SURGE (R537): VIN above 24.5 V for 100 µs. All switching stops with no sequence. -/
def execSurge (vin : Nat) (s : State) : Host.Outcome State Fault Refusal :=
  .next (s.keepQueue (
    if vin ≤ 2450 ∨ s.sys.phase = .unpowered then s
    else
      let t := s.elapse (us 100 + s.tt.clk)
      let t := (State.cardNow { t with pwr := { t.pwr with vin := vin } } 2 0xFF []).railsOff
      { t with pwr := { t.pwr with surge := true } }))

/-- SURGE_RECOVERY (R537): VIN below 19.0 V for 1.0 ms; soft start runs again. -/
def execSurgeRecovery (vin : Nat) (s : State) : Host.Outcome State Fault Refusal :=
  .next (s.keepQueue (
    if !s.pwr.surge || decide (1900 ≤ vin) then s
    else
      let t := s.elapse (ms 1 + s.tt.clk)
      (State.markOrigin { t with pwr := { t.pwr with vin := vin, surge := false } } 0).beginRise))

/-- Whether a rail of the order waits for a restart. -/
def State.railWaits (s : State) : Bool := s.pwr.waiting.any (fun p => p.1 != 6)

/-- SOFT_START_STEP (R547): the rails of the step are power-good, and the next step starts. -/
def execSoftStartStep (s : State) : Host.Outcome State Fault Refusal :=
  .next (s.keepQueue (
    let k := s.pwr.step
    if s.sys.phase != .reset || k == 0 || decide (8 ≤ k) || s.railWaits then s
    else
      let t := s.elapse (ns (stepNs k) + s.pwr.stepAt)
      let good := (stepRails k).foldl setBit t.pwr.pgood
      { t with pwr := { t.pwr with pgood := good, step := k + 1, stepAt := t.tt.clk } }))

/-- Restarts of a rail in the last 1.0 s. -/
def State.restartsOf (s : State) (rail : Nat) : Nat :=
  (s.pwr.restarts.filter (fun p => p.1 == rail && decide (s.tt.clk ≤ ms 1000 + p.2))).length

/-- A rail fault (R549, R660): the rail and those after it stop; after 10 ms it restarts, or after 3 failed restarts within 1.0 s it
latches off. A fault of a rail of the order passes the device through reset; one of VCMP affects VCMP alone. -/
def State.railFault (s : State) (rail : Nat) (ov : Bool) : State :=
  let third := decide (3 ≤ s.restartsOf rail)
  let t := s.bump F.PWR_HICCUP_COUNT
  let t := if ov then t.card 4 rail [] else t
  let t := if third then t.card 3 rail [] else t
  let u := if rail = 6 then
      let u := if t.coreRuns then t.fault 17 6 else t
      { u with pwr := { u.pwr with vcmpOn := false, pgood := clearBit u.pwr.pgood 6 } }
    else
      let u := (if t.coreRuns then t.fault 6 rail else t).intoReset
      let keep := (List.range 8).filter (fun r => r != 6 && decide (riseStep r < riseStep rail) && u.pwr.pgood.testBit r)
      { u with pwr := { u.pwr with pgood := keep.foldl setBit 0, step := riseStep rail } }
  if third then { u with pwr := { u.pwr with latched := setBit u.pwr.latched rail, step := if rail = 6 then u.pwr.step else 0 } }
  else { u with pwr := { u.pwr with waiting := u.pwr.waiting.filter (fun p => p.1 != rail) ++ [(rail, ms 10 + u.tt.clk)] } }

/-- Whether a rail is on. -/
def State.railOn (s : State) (rail : Nat) : Bool :=
  if rail = 6 then s.pwr.vcmpOn else decide (rail < 8) && s.pwr.pgood.testBit rail

/-- RAIL_FAULT (R549): folded back, and below 90 % for 100 µs. -/
def execRailFault (rail : Nat) (s : State) : Host.Outcome State Fault Refusal :=
  .next (s.keepQueue (if s.railOn rail then (s.elapse (us 100 + s.tt.clk)).railFault rail false else s))

/-- RAIL_OV (R549): above 110 % for 20 µs. -/
def execRailOv (rail : Nat) (s : State) : Host.Outcome State Fault Refusal :=
  .next (s.keepQueue (if s.railOn rail then (s.elapse (us 20 + s.tt.clk)).railFault rail true else s))

/-- SOFT_START_TIMEOUT (R547): not power-good within 5.0 ms of its ramp start. -/
def execSoftStartTimeout (rail : Nat) (s : State) : Host.Outcome State Fault Refusal :=
  .next (s.keepQueue (
    if rail = 6 then
      if s.pwr.vcmpOn && !s.pwr.pgood.testBit 6 then (s.elapse (ms 5 + s.pwr.vcmpAt)).railFault 6 false else s
    else if s.sys.phase == .reset && (stepRails s.pwr.step).contains rail && !s.railWaits then
      (s.elapse (ms 5 + s.pwr.stepAt)).railFault rail false
    else s))

/-- HICCUP_RESTART (R549): 10 ms after its fault a rail restarts, and so do the rails after it. -/
def execHiccupRestart (rail : Nat) (s : State) : Host.Outcome State Fault Refusal :=
  .next (s.keepQueue (
    match s.pwr.waiting.find? (fun p => p.1 == rail) with
    | none => s
    | some p =>
      let t := s.elapse p.2
      let t : State := { t with pwr := { t.pwr with
        waiting := t.pwr.waiting.filter (fun q => q.1 != rail),
        restarts := (rail, t.tt.clk) :: t.pwr.restarts.filter (fun q => decide (t.tt.clk ≤ ms 1000 + q.2)) } }
      if rail = 6 then { t with pwr := { t.pwr with vcmpOn := true, vcmpFrom := 0, vcmpAt := t.tt.clk } }
      else { t with pwr := { t.pwr with stepAt := t.tt.clk } }))

/-- THERMAL_COMPARATOR_TRIP (R577): the power die's own thermal shutdown. -/
def execThermalComparatorTrip (_sensor : Nat) (s : State) : Host.Outcome State Fault Refusal :=
  .next (s.keepQueue (if s.sys.phase == .unpowered then s else s.shutdown 5))

/-! ### Reset -/

/-- RESET_N_ASSERT (R494). -/
def execResetNAssert (s : State) : Host.Outcome State Fault Refusal :=
  .next (s.keepQueue (
    let t := if s.coreRuns then s.intoReset else s
    { t with sys := { t.sys with resetN := false } }))

/-- The bits that the boot ROM takes from FACTORY_TRIM, by register. -/
def trimBits : List (Nat × Nat) := [(R.ARR_BARRIER, 0x3F3F), (R.CNV_RTRIM, 0xFFFF), (R.PWR_CORE, 0x7F7F)]

/-- Registers that OTP and the power die give (R594, R696); the boot ROM then sets the locks of ARR, CNV and PWR (R51, R77, R556). -/
def State.loadTrims (s : State) : State :=
  let t := ((s.setReg R.SYS_UID_LO (s.otpSel 64)).setReg R.SYS_UID_HI (s.otpSel 65)).setReg R.SYS_POC (w32 s.pwr.poc)
  let t := trimBits.foldl (fun (u : State) p =>
    u.setReg p.1 (keepMask (w32 (Config.trim p.1)) p.2 ||| clearMask (u.reg p.1) p.2)) t
  let t := t.wr F.PWR_CORE_VSET (clampN 8 100 (t.rd F.PWR_CORE_VSET))
  [R.ARR_CTRL, R.CNV_CTRL, R.PWR_CORE].foldl (fun (u : State) a => u.setReg a (u.reg a ||| 0x80000000#32)) t

/-- The boot ROM's start (R495 from step 2 on): the OTP start read with its critical check (R594, R596), the choice and check of the
reference (R515), the reads of MTP, and the first locks. Where a check fails the device stays in reset and a record is written. -/
def State.bootFrom (s : State) (refclk : Bool) (measuredKhz : Option Nat) (emmc : Bool) : State :=
  let t := s.otpStart
  let f := if refclk then bits (t.otpUsed 3 128) 0 16 else 25000
  let m := measuredKhz.getD f
  let off := if m < f then f - m else m - f
  match ([0, 1] : List Nat).find? (fun c => t.otpCodeState c != 2) with
  | some c =>
    let last := bits (t.reg R.OTP_MARGLAST) 0 10
    s.card 9 0xFF [w32 c, if bit (t.reg R.OTP_MARGLAST) 31 then w32 last else 0xFFFFFFFF#32]
  | none =>
    if f = 0 ∨ f < 20 * off then s.card 8 0xFF []
    else
      let u : State := { t with
        sys := { t.sys with phase := .boot, resetN := true },
        rec_ := { t.rec_ with present := emmc },
        pwr := { t.pwr with coreFrom := 750000, coreAt := t.tt.clk } }
      let u := (u.loadTrims.wrs [(F.CLK_CFG_REFSRC, flag refclk), (F.CLK_CFG_REF_KHZ, f)]).loadHomeroom
      let u := u.prefectStart
      let u := (List.range 4).foldl (fun (v : State) n => v.relock n) u
      u.loadImage

/-- RESET_RELEASE (R494, R495 step 2): power-good of all rails and RESET_N high. `refclk`: REFCLK_IN shows at least 64 edges within
20 µs; `measuredKhz`: what the power die measures of the reference; `emmc`: whether the eMMC responds. -/
def execResetRelease (refclk : Bool) (measuredKhz : Nat) (emmc : Bool) (s : State) : Host.Outcome State Fault Refusal :=
  .next (s.keepQueue (
    if s.sys.phase != .reset || !s.railsGood || s.railWaits then s
    else
      let t : State := if s.sys.resetN then s else { s with sys := { s.sys with resetN := true, origin := s.tt.clk } }
      t.bootFrom refclk (some measuredKhz) emmc))

/-! ### Roll Call -/

/-- Whether two bond groups are 4-bondNeighbours. -/
def bondNeighbours (a b : Nat × Nat) : Bool :=
  (a.1 == b.1 && (a.2 + 1 == b.2 || b.2 + 1 == a.2)) || (a.2 == b.2 && (a.1 + 1 == b.1 || b.1 + 1 == a.1))

/-- The failed bond groups (R37, R53, R54): ARRAY where more than 16 fail or two are 4-bondNeighbours. -/
def State.bondsFound (s : State) (bonds : List (Nat × Nat)) : State :=
  let bad := decide (16 < bonds.length) || bonds.any (fun a => bonds.any (bondNeighbours a))
  let t : State := { s with sys := { s.sys with bonds := bonds } }
  let t := t.wrs [(F.ARR_BOND_FAIL_COUNT, min 2047 bonds.length), (F.ARR_BOND_ARRAY_FAULT, flag bad)]
  let t := match bonds.getLast? with
    | some b => t.wrs [(F.ARR_BONDLAST_PBX, b.1), (F.ARR_BONDLAST_PBY, b.2), (F.ARR_BONDLAST_VALID, 1)]
    | none => t
  if bad then t.faultC 4 else t

/-- A Roll Call failure that enters LIMP, with the black picture or without it (R498, R506). -/
def State.rollLimp (s : State) (black : Bool) : State :=
  let t : State := { s with sys := { s.sys with black := s.sys.black || black } }
  ((t.fault 7 (5 * 2 ^ 12)).card 0x0A 0xFF []).limpFor 5

/-- Roll Call, part 1 (R498). Bit i of `fails` is item i. -/
def State.rollPart1 (s : State) (r : RollCall) : State :=
  let fails := r.fails % 8 + flag (!r.bonds.isEmpty) * 8 + r.fails / 16 % 8 * 16
  let t := s.elapse (us r.us + s.tt.clk)
  let t : State := { t with sys := { t.sys with rollFails := fails, rollUs := r.us % 65536, rollDone := true } }
  let t := t.bondsFound r.bonds
  let t := if fails % 8 != 0 then t.rollLimp true else if fails.testBit 4 then t.rollLimp false else t
  let t := if fails.testBit 5 then t.allPhases else t
  if fails / 32 % 4 != 0 then (t.faultC 7).card 0x0A 0xFF [] else t

/-- PLL_LOCK_DONE (R495 steps 4 and 5, R524): at start, the last of the four locks leads to Roll Call part 1. -/
def execPllLockDone (pll band kvco : Nat) (roll : RollCall) (s : State) : Host.Outcome State Fault Refusal :=
  .next (s.keepQueue (
    if (s.pll pll).state != 1 then s
    else
      let t := s.pllLocked pll band kvco
      if t.sys.phase == .boot && !t.sys.rollDone && t.clk.plls.all (fun p => p.state == 2) then t.rollPart1 roll else t))

/-- ROLL_CALL_RESULT (R499). -/
def srvRollCallResult (_k : Sys2Proof.Pkt) (s : State) : Ans × State :=
  s.ok [w32 s.sys.rollFails, w32 (s.sys.rollUs + s.sys.rollUs2 * 2 ^ 16)]

/-! ### The rest of start-up -/

/-- LINK_ACTIVE (R427 step 4, R594): OTP_MARGINAL events wait for the first time that the link is ACTIVE. -/
def execLinkActive (s : State) : Host.Outcome State Fault Refusal :=
  .next (s.keepQueue (
    let t := linkActive s
    if t.lnk.state = 2 then
      t.otp.margDue.foldl (fun (u : State) m => (u.event 0x0D [m.1, m.2]).flush) { t with otp := { t.otp with margDue := [] } }
    else t))

/-- DRAM_READY (R495 steps 7 and 8, R498, R666): part 2 of Roll Call, the self-tests, and the Homeroom settings. `pass`: the DRAM
channel passed; `us`: the duration of part 2; bit t of `selftests` is set where self-test t failed. -/
def execDramReady (pass : Bool) (us_ : Nat) (selftests : Nat) (s : State) : Host.Outcome State Fault Refusal :=
  .next (s.keepQueue (
    if s.sys.phase != .boot || s.sys.dramReady || !s.sys.rollDone then s
    else
      let t := s.elapse (us us_ + s.tt.clk)
      let t : State := { t with sys := { t.sys with
        dramReady := true, rollUs2 := us_ % 65536, rollFails := t.sys.rollFails + flag (!pass) * 128 } }
      let t := if pass then t else t.rollLimp true
      let t := t.startSettings
      let t := if selftests.testBit 0 then t.restartFor 8 else t
      let t := if selftests.testBit 1 then t.restartFor 10 else t
      if selftests.testBit 2 then t.faultC 9 else t))

/-- QUICK_CALIBRATION (R66, R70, R495 steps 8 and 9): its 64 conversion cycles take 256 µs; the correction table is then in force, and
the first event of FN 0 follows. -/
def execQuickCalibration (sums : List (Int × Int)) (s : State) : Host.Outcome State Fault Refusal :=
  .next (s.keepQueue (
    if s.sys.phase != .boot || !s.sys.dramReady then s
    else
      let t := (s.elapse (us 256 + s.tt.clk)).quickCalDone sums
      let v := t.live
      { t with
        sys := { t.sys with phase := .run, tExp := min 65535 ((t.tt.clk - t.sys.origin) / us 10) },
        tt := { t.tt with startDue := some (t.tt.clk + leadSlots v * rpRaw v) } }))

/-- What FIRMWARE_READY does (R503, R504, R665): the firmware is verified and ready. At start control passes after a COMMIT event;
after a restart it passes at once. -/
def State.firmwareReady (s : State) : State :=
  if !s.coreRuns || !s.sys.imageGood then s
  else match s.sys.fw with
    | .rom => { s with sys := { s.sys with fwReady := true } }
    | .restarting => s.fwTakes
    | _ => s

/-- TAKEOVER_TIMEOUT (R503): the firmware is not ready 400 ms after the origin of R495. -/
def execTakeoverTimeout (s : State) : Host.Outcome State Fault Refusal :=
  .next (s.keepQueue (
    if s.coreRuns && s.sys.fw == .rom && !s.sys.fwReady then (s.elapse (ms 400 + s.sys.origin)).limpFor 2 else s))

end Sys2Proof.Machine
end

