-- ==== Sys2Proof/Machine/Colour.lean ====
section
/-!
DEFINITION. The colour stages that Pipelines A and B share (R259, R272 to R280, R318): numbers as the pipelines carry them, channel
gains, demosaic, colour matrix, digital gain, tone curve and conversion to YUV, and the packing of samples in words (R373).
-/

namespace Sys2Proof.Machine

open Sys2Proof (Word)

/-! ### Numbers -/

/-- 2^n. -/
def pow2 (n : Int) : Rat := if 0 ≤ n then ((2 ^ n.toNat : Nat) : Rat) else 1 / ((2 ^ (-n).toNat : Nat) : Rat)

/-- floor(log2 q) of a positive number. -/
def floorLog (q : Rat) : Int :=
  let a : Int := (q.num.natAbs.log2 : Int) - (q.den.log2 : Int)
  if q < pow2 a then a - 1 else a

/-- The bits of log2 of a number from 1 to 2, in units of 2^-60, `n` of them, as a whole number. -/
def logBits : Nat → Nat → Nat → Nat
  | 0, _, acc => acc
  | n + 1, m, acc =>
    let q := m * m / 2 ^ 60
    if 2 ^ 61 ≤ q then logBits n (q / 2) (2 * acc + 1) else logBits n q (2 * acc)

/-- log2 of a positive number, down to 2^-24. -/
def lg2 (q : Rat) : Rat :=
  let n := floorLog q
  (n : Rat) + ((logBits 24 ((q / pow2 n) * ((2 ^ 60 : Nat) : Rat)).floor.toNat 0 : Nat) : Rat) / ((2 ^ 24 : Nat) : Rat)

/-- The square root, its square root and so on, in units of 2^-60. -/
def halvings : Nat → Nat → List Nat
  | 0, _ => []
  | n + 1, x => isqrt (x * 2 ^ 60) :: halvings n (isqrt (x * 2 ^ 60))

/-- 2^q, with q down to 2^-30. -/
def exp2 (q : Rat) : Rat :=
  let f := ((q - (q.floor : Rat)) * ((2 ^ 30 : Nat) : Rat)).floor.toNat
  let c : Nat := (halvings 30 (2 ^ 61)).zipIdx.foldl (fun (a : Nat) (p : Nat × Nat) => if f.testBit (29 - p.2) then a * p.1 / 2 ^ 60 else a) (2 ^ 60)
  (c : Rat) / ((2 ^ 60 : Nat) : Rat) * pow2 q.floor

/-- The square root, down to 2^-30; 0 of a number below 0. -/
def sqrtRat (q : Rat) : Rat :=
  if q ≤ 0 then 0 else (isqrt (q * ((2 ^ 60 : Nat) : Rat)).floor.toNat : Rat) / ((2 ^ 30 : Nat) : Rat)

/-- A value as a stage of a pipeline hands it on (R259): one of the two neighbours of 18 bits below the leading one, so that its
relative error stays below 2^-18; which of the two is free. -/
def carried (stage : Nat) (x : Rat) : Rat :=
  if x = 0 then 0
  else
    let u := pow2 (floorLog (if x < 0 then -x else x) - 18)
    let n := (x / u).floor
    if (n : Rat) * u = x then x else ((n : Rat) + (if Config.roundsUp stage x then 1 else 0)) * u

/-- A value made a whole number of 0 to `top`; whether it is rounded up or down is free. -/
def settle (stage top : Nat) (q : Rat) : Nat :=
  let n := q.floor
  (clampI 0 top (if (n : Rat) = q then n else n + (if Config.roundsUp stage q then 1 else 0))).toNat

/-- Numbers of `n` bits packed least significant bit first into words (R373). -/
def packBits (n : Nat) (l : List Nat) : List Word :=
  let x := l.foldr (fun v a => v % 2 ^ n + a * 2 ^ n) 0
  (List.range (ceilDiv (n * l.length) 32)).map (fun i => w32 (x / 2 ^ (32 * i)))

/-! ### Settings -/

/-- The settings of the colour stages: gains of R, G, B and I, the matrix by rows, the digital gain, the tone curve with its start
in EV, the local strength, BT.2020 in place of BT.709, and narrow range. -/
structure ColourSet where
  wb : List Rat
  ccm : List Rat
  gain : Rat
  tone : Nat → Nat
  logMin : Rat
  ltm : Rat
  bt2020 : Bool
  narrow : Bool

/-- The coefficients of a matrix whose first word lies at a register (R297, R336). -/
def ccmOf (v : View) (a : Nat) : List Rat :=
  (List.range 9).map (fun i => (signed 16 (bits (v (a + i / 2)) (16 * (i % 2)) 16) : Rat) / 4096)

/-- The gains of two registers (R296). -/
def gainsOf (v : View) (a : Nat) : List Rat :=
  (List.range 4).map (fun i => ((bits (v (a + i / 2)) (16 * (i % 2)) 16 : Nat) : Rat) / 1024)

/-- The settings of Pipeline A (R289 to R300), with its tone bank. -/
def colourSetA (v : View) (bank : Nat) : ColourSet :=
  ⟨gainsOf v R.PA_WB0, ccmOf v R.PA_CCM0, (fld v F.PA_DGAIN_GAIN : Rat) / 256, fun i => bits (v (wkey 0x0A02 (257 * bank + i))) 0 16,
   (signed 16 (fld v F.PA_TONE_LOG_MIN) : Rat) / 256, (min 16 (fld v F.PA_TONE_LTM_STR) : Nat) / 16, vtst v F.PA_CTRL_YUV_MTX,
   vtst v F.PA_CTRL_RANGE⟩

/-- The settings of Pipeline B (R318, R329 to R336), with its tone bank. -/
def colourSetB (v : View) (bank : Nat) : ColourSet :=
  ⟨gainsOf v R.PB_WB0, ccmOf v R.PB_CCM0, (fld v F.PB_DGAIN_GAIN : Rat) / 256, fun i => bits (v (wkey 0x0B02 (257 * bank + i))) 0 16,
   (signed 16 (fld v F.PB_TONE_LOG_MIN) : Rat) / 256, 0, vtst v F.PB_CTRL_YUV_MTX, vtst v F.PB_CTRL_RANGE⟩

/-! ### Stages -/

/-- Three channels of a pixel. -/
structure Rgb where
  r : Rat
  g : Rat
  b : Rat

/-- A function of each channel. -/
def Rgb.each (p : Rgb) (f : Rat → Rat) : Rgb := ⟨f p.r, f p.g, f p.b⟩

/-- The largest of two numbers, and the smallest. -/
def maxR (a b : Rat) : Rat := if a < b then b else a
def minR (a b : Rat) : Rat := if a < b then a else b

/-- The colour matrix, with results below 0 set to 0 (R276). -/
def matrix (c : List Rat) (p : Rgb) : Rgb :=
  let row := fun i => maxR 0 (c.getD (3 * i) 0 * p.r + c.getD (3 * i + 1) 0 * p.g + c.getD (3 * i + 2) 0 * p.b)
  ⟨row 0, row 1, row 2⟩

/-- The tone curve at an index (R278). -/
def ColourSet.curve (c : ColourSet) (u : Rat) : Rat :=
  if u < 0 then (c.tone 0 : Rat) * exp2 (u / 8)
  else if 256 ≤ u then c.tone 256
  else
    let i := u.floor.toNat
    let a : Rat := c.tone i
    a + ((c.tone (i + 1) : Rat) - a) * (u - (i : Rat))

/-- Tone mapping of a pixel with the local term Lloc - Lglob in EV (R278). -/
def ColourSet.toneMap (c : ColourSet) (loc : Rat) (p : Rgb) : Rgb :=
  let y := 2126 / 10000 * p.r + 7152 / 10000 * p.g + 722 / 10000 * p.b
  let lam := lg2 (maxR y (1 / 16)) - c.ltm * loc
  let out := c.curve ((lam - c.logMin) * 8)
  if y = 0 then ⟨out, out, out⟩ else p.each (fun x => minR 65535 (out * x / y))

/-- Stages 8 to 10 of Pipeline A, 6 to 8 of Pipeline B, `st` being the first of them: colour matrix unless `plain`, digital gain,
tone curve (R276 to R278, R318). -/
def ColourSet.render (c : ColourSet) (st : Nat) (plain : Bool) (loc : Rat) (p : Rgb) : Rgb :=
  let p := if plain then p else (matrix c.ccm p).each (carried st)
  let p := p.each (fun x => carried (st + 1) (x * c.gain))
  (c.toneMap loc p).each (carried (st + 2))

/-- The coefficients of red and blue in luma: BT.709 or BT.2020 (R280). -/
def ColourSet.kr (c : ColourSet) : Rat := if c.bt2020 then 2627 / 10000 else 2126 / 10000
def ColourSet.kb (c : ColourSet) : Rat := if c.bt2020 then 593 / 10000 else 722 / 10000

/-- A pixel in YUV before rounding, in the range of the settings (R280); without colour U = V = 512. -/
def ColourSet.toYuv (c : ColourSet) (grey : Bool) (p : Rgb) : Rat × Rat × Rat :=
  let y := (c.kr * p.r + (1 - c.kr - c.kb) * p.g + c.kb * p.b) / 65535
  let u := (p.b / 65535 - y) / (2 * (1 - c.kb))
  let w := (p.r / 65535 - y) / (2 * (1 - c.kr))
  let span : Rat := if c.narrow then 896 else 1023
  (if c.narrow then 64 + 876 * y else 1023 * y, if grey then 512 else 512 + span * u, if grey then 512 else 512 + span * w)

/-- Black in YUV: Y at the minimum of the range, U = V = 512 (R374). -/
def ColourSet.black (c : ColourSet) : Yuv := ⟨if c.narrow then 64 else 0, 512, 512⟩

/-- A row in YUV with the chroma of each pixel pair at the mean of the two (R280). -/
def ColourSet.pairs (c : ColourSet) (st : Nat) : List (Rat × Rat × Rat) → List Yuv
  | a :: b :: l =>
    let u := settle (st + 1) 1023 ((a.2.1 + b.2.1) / 2)
    let w := settle (st + 2) 1023 ((a.2.2 + b.2.2) / 2)
    ⟨settle st 1023 a.1, u, w⟩ :: ⟨settle st 1023 b.1, u, w⟩ :: c.pairs st l
  | [a] => [⟨settle st 1023 a.1, settle (st + 1) 1023 a.2.1, settle (st + 2) 1023 a.2.2⟩]
  | [] => []

/-- A pixel of a demosaic: a channel from the mosaic around a place, whose phase in the mosaic is given (R273). How the gradients
weigh is not stated: the value is free, a function of the pixels of the support. -/
def demosaic (variant channel x y : Nat) (around : List Rat) : Rat := Config.demosaic variant channel (x % 4) (y % 4) around

/-- The median of some values; an even count takes the mean of its two middle values (R265). -/
def median (l : List Rat) : Option Rat :=
  let o := l.mergeSort (fun a b => decide (a ≤ b))
  let n := o.length
  if n = 0 then none
  else if n % 2 = 1 then some (o.getD (n / 2) 0)
  else some ((o.getD (n / 2 - 1) 0 + o.getD (n / 2) 0) / 2)

/-- A place beyond an edge at the place of the edge's period that it repeats (R282). -/
def foldEdge (lo hi : Int) (p : Int) (x : Int) : Int :=
  if x < lo then x + p * ((lo - x + p - 1) / p) else if hi < x then x - p * ((x - hi + p - 1) / p) else x

/-- Whether |a - b| with b below a exceeds DYN_K / 4 times the noise of a value `ref` (R266). -/
def beyondNoise (k : Nat) (rb a b ref : Rat) : Bool :=
  let t : Rat := (k : Rat) / 4
  if ref / rb + 4 < 0 then Config.noiseOpen a b else decide (b < a) && decide (t * t * (rb * rb * (ref / rb + 4)) < (a - b) * (a - b))

/-- Whether the dynamic detector flags a value among its usable neighbours (R266). -/
def flagged (k : Nat) (rb m : Rat) : List Rat → Bool
  | [] => false
  | a :: l =>
    let top := l.foldl maxR a
    let low := l.foldl minR a
    beyondNoise k rb m top top || beyondNoise k rb low m low

end Sys2Proof.Machine
end

