-- ==== Sys2Proof/Machine/Picture.lean ====
section
/-!
DEFINITION. Pipeline A from defect correction to the warp window (R258 to R283): the region, stages 4 to 11, the history of temporal
noise reduction in its code (R269), and the rows of the two picture buffers (R367).
-/

namespace Sys2Proof.Machine

open Sys2Proof (Word)

/-! ### The region -/

/-- The first and last mosaic column of the region (R260). -/
def regionCols (v : View) : Nat × Nat :=
  let c := (paRegion v).1
  (4 * c.1 / binDiv v, 4 * c.2 / binDiv v - 1)

/-- The rows of the region, as rows of the mosaic, one after another (R260). -/
def regionRows (v : View) : List Nat :=
  (mosaicRows v).filter (fun y => (paWindows v).any (fun w => w.selects ((members v y).headD 0 / 4)))

/-- A pixel of the region as stage 4 takes it: its value in e⁻, its block ratio, and whether it is listed, in a bond-failed block or a
quiz block, in a quiz block that display A shows (R630), missing, and moving. -/
structure Cell where
  m : Rat
  rb : Rat
  listed : Bool
  bond : Bool
  shown : Bool
  missing : Bool
  motion : Bool

/-- A pixel that no correction takes as a neighbour (R265). -/
def Cell.poor (c : Cell) : Bool := c.listed || c.bond || c.missing

/-- A pixel of which nothing was sent. -/
def Cell.none : Cell := ⟨0, 1, false, false, false, true, false⟩

/-- Whether display A shows a block uncorrected (R630). -/
def State.quizShown (s : State) (fn bx by_ : Nat) : Bool :=
  s.sec.quizzes.any (fun q => q.fn == fn && q.show_ && q.blocks.any (fun b => b.bx == bx && b.by_ == by_))

/-- A pixel of a frame as a cell. -/
def State.cellOf (s : State) (v : View) (fn : Nat) (p : Px) : Cell :=
  let xs := members v p.x
  let ys := members v p.y
  let some_ := fun (q : Nat → Nat → Bool) => xs.any (fun x => ys.any (fun y => q (x / 4) (y / 4)))
  ⟨(p.mg.m : Rat) / 16, (vTl v : Rat) / placedLong (vTl v) (s.appliedK fn (xs.headD 0 / 4) (ys.headD 0 / 4)), listed v xs ys,
   some_ (fun bx by_ => s.bondFailed bx by_ || s.quizBlock fn bx by_), some_ (s.quizShown fn), p.mg.missing, p.mg.motion⟩

/-- Where a column that was not sent takes its pixel from: the nearer of the sent columns beside it, by the edge rule (R260, R282). -/
def fillFrom (sent : Nat → Bool) (n i : Nat) : Nat :=
  let p := mosaicPeriod
  let left := (List.range i).reverse.find? sent
  let right := ((List.range (n - i)).map (fun k => i + k)).find? sent
  let fromLeft := fun (l : Nat) => i - p * ceilDiv (i - l) p
  let fromRight := fun (r : Nat) => i + p * ceilDiv (r - i) p
  match left, right with
  | some l, some r => if i - l ≤ r - i then fromLeft l else fromRight r
  | some l, none => fromLeft l
  | none, some r => fromRight r
  | none, none => i

/-- A row of the region of a frame (R260): a column that was not sent takes its codes from one that was. -/
def State.regionRow (s : State) (v : View) (fn y : Nat) : Array Cell :=
  let c := regionCols v
  let n := c.2 + 1 - c.1
  let src := fun (x : Nat) => if binSent v x y then x else c.1 + fillFrom (fun i => binSent v (c.1 + i) y) n (x - c.1)
  ((s.rowPxOf fn y ((List.range n).map (fun i => c.1 + i)) src).map (s.cellOf v fn)).toArray

/-! ### Stage 4: defects -/

/-- How far corrections reach up and down (R282). -/
def defectReach : Nat := if Config.mosaic = 2 then 8 else 6

/-- The nearest usable pixel of a pixel's colour outside its block in one direction, with its distance (R265). -/
def acrossFrom (at_ : Int → Int → Cell) (x i dx dy : Int) (same : Int → Int → Bool) : Option (Nat × Rat) :=
  ((List.range 8).map (fun (d : Nat) => ((d : Int) + 1, d + 1))).findSome? (fun (d : Int × Nat) =>
    let c := at_ (x + d.1 * dx) (i + d.1 * dy)
    if same (x + d.1 * dx) (i + d.1 * dy) && !c.poor then some (d.2, c.m) else none)

/-- A row of the region after stage 4, and how many of its pixels the dynamic detector had corrected (R265, R266). `row` gives
the rows of the region, of which there are `n`, and `i` is the place of this one. -/
def State.correctRow (_s : State) (v : View) (fn n i : Nat) (row : Nat → Array Cell) : List (Rat × Cell) × Nat :=
  let c := regionCols v
  let fx := fun (x : Int) => (foldEdge c.1 c.2 (mosaicPeriod : Nat) x).toNat
  let fy := fun (y : Int) => (foldEdge 0 ((n : Int) - 1) (mosaicPeriod : Nat) y).toNat
  let at_ := fun (x y : Int) => (row (fy y)).getD (fx x - c.1) Cell.none
  let size := 4 / binDiv v
  let dk := max 1 (fld v F.PA_DEFECT_DYN_K)
  let one := fun (x : Nat) =>
    let p := at_ x i
    let us := ((neighbours x i).map (fun q => at_ q.1 q.2)).filter (fun q => !q.poor) |>.map (fun q => q.m)
    let static := p.listed && vtst v F.PA_CTRL_DEFECT_EN
    let dyn := vtst v F.PA_CTRL_DYN_EN && !static && !p.bond && !p.missing && flagged dk p.rb p.m us
    let need := static || (p.bond && !p.shown) || p.missing || dyn
    let same := fun (a b : Int) =>
      colourAt (fx a) (fy b) == colourAt x i && (fx a / size != x / size || fy b / size != i / size)
    let m := if !need then p.m
      else if p.bond && us.length < 2 then
        Config.acrossBlock ([((-1 : Int), (0 : Int)), (1, 0), (0, -1), (0, 1)].map (fun d => acrossFrom at_ x i d.1 d.2 same))
      else (median us).getD (Config.lonePixel fn x i)
    ((carried 4 m, p), dyn)
  let l := (List.range (c.2 + 1 - c.1)).map (fun k => one (c.1 + k))
  (l.map (fun q => q.1), (l.filter (fun q => q.2)).length)

/-! ### Stage 5: temporal noise reduction -/

/-- A pixel of a group of the history, none where there is no history (R269). -/
def histPixel (code k : Nat) : Option Rat :=
  let d := code / 2 ^ (19 + 6 * k) % 64
  if d = 63 then none
  else some ((exp2 (((code % 65536 + d * 2 ^ (code / 65536 % 8) : Nat) : Rat) / 1024) - 1) / 16 |> maxR 0)

/-- The code of a group of 16 values in e⁻ (R269). -/
def histGroup (ms : List Rat) : Nat :=
  let ls := ms.map (fun m => logMean (16 * m).num.toNat (16 * m).den)
  let base := ls.foldl min (ls.headD 0)
  let span := ls.foldl max 0 - base
  let shift := ((List.range 7).find? (fun k => decide (span ≤ 62 * 2 ^ k))).getD 7
  let ds := ls.map (fun l => if 62 * 128 < l - base then 63 else min 62 (roundUp (l - base) (2 ^ shift)))
  base % 65536 + shift * 65536 + (ds ++ List.replicate (16 - ds.length) 63).foldr (fun d a => d + 64 * a) 0 * 2 ^ 19

/-- Whether temporal noise reduction runs in a frame (R268, R576). -/
def State.tnrOn (s : State) (v : View) : Bool := vtst v F.PA_CTRL_TNR_EN && s.thm.level != 2

/-- A pixel after stage 5 (R268): `h` its history, if there is one. -/
def tnrPixel (v : View) (on : Bool) (j : Nat) (x : Rat) (c : Cell) (h : Option Rat) : Rat :=
  match h with
  | none => x
  | some h =>
    let least : Rat := 1 / ((2 ^ min 4 (fld v F.PA_TNR_STRENGTH) : Nat) : Rat)
    let lo : Rat := (fld v F.PA_TNR_MK_LO : Rat) / 16
    let hi : Rat := (fld v F.PA_TNR_MK_HI : Rat) / 16
    let t := (if x < h then h - x else x - h) / (c.rb * sqrtRat (x / c.rb + 4))
    let a := if !on || c.motion then 1 else least + (1 - least) * clamp01 ((t - lo) / (hi - lo))
    h + maxR a (1 / ((j : Rat) + 1)) * (x - h)

/-- Whether row i of a picture takes a history, and its data does not arrive by the time the row is processed (R269). The spec leaves to
the traffic which rows these are: a free value (`Config.historyLate`; assumption 61). -/
def State.histLate (s : State) (v : View) (w : PicWork) (i : Nat) : Bool :=
  s.tnrOn v && !((s.pix.hist.getD (s.history v w.fn) []).getD (i / 4) []).isEmpty && Config.historyLate s.tt.clk i

/-- A row of the region after stage 5. A row whose history comes too late has none (R269). -/
def State.tnrRow (s : State) (v : View) (w : PicWork) (i : Nat) (l : List (Rat × Cell)) : List Rat :=
  let on := s.tnrOn v && !s.histLate v w i
  let groups := ((s.pix.hist.getD (s.history v w.fn) []).getD (i / 4) []).toArray
  l.zipIdx.map (fun q =>
    let h := if on && decide (q.2 / 4 < groups.size) then histPixel (groups.getD (q.2 / 4) 0) (i % 4 * 4 + q.2 % 4) else none
    carried 5 (tnrPixel v on w.j q.1.1 q.1.2 h))

/-- The history of a picture by rows of groups. -/
def histRows : Nat → List (List Rat) → List (List Nat)
  | 0, _ => []
  | n + 1, rows =>
    if rows.isEmpty then []
    else
      let four := (rows.take 4).map (fun r => r.toArray)
      let w := (four.map (fun r => r.size)).foldl max 0
      (List.range (ceilDiv w 4)).map (fun g =>
        histGroup (four.flatMap (fun r => (List.range 4).map (fun k => r.getD (4 * g + k) 0)))) :: histRows n (rows.drop 4)

/-- The history of a frame that has been filtered whole takes its place (R268, R271). -/
def State.keepHistory (s : State) (v : View) (w : PicWork) : State :=
  if s.tnrOn v && w.mosaic.length == (regionRows v).length then
    { s with pix := { s.pix with hist := s.pix.hist.set (s.history v w.fn) (histRows (w.mosaic.length + 1) w.mosaic) } }
  else s

/-! ### Stages 6 to 11 -/

/-- How far a demosaic reaches (R273). -/
def demosaicReach : Nat :=
  match Config.mosaic with
  | 2 => 6
  | 3 => 0
  | _ => 3

/-- What IR_MODE makes of a frame (R274, R275): whether it is IR_ONLY. -/
def State.irOnly (s : State) (v : View) (fn : Nat) : Bool :=
  Config.mosaic == 2 && (fld v F.PA_CTRL_IR_MODE == 1 || (fld v F.PA_CTRL_IR_MODE == 2 && s.litFrame fn))

/-- The three channels of a pixel from the mosaic around it, infrared separated (R273, R274). -/
def channelsA (v : View) (irOnly : Bool) (x y : Nat) (around : List Rat) : Rgb :=
  let k := Config.mosaic
  let d := fun (c : Nat) => demosaic k c x y around
  match k with
  | 3 => let m := around.getD 0 0; ⟨m, m, m⟩
  | 2 =>
    let ir := d 3
    if irOnly then ⟨ir, ir, ir⟩
    else
      let f := fun (c a : Nat) => maxR 0 (d c - (a : Rat) / 256 * ir)
      ⟨f 0 (fld v F.PA_IRSUB_A_R), f 1 (fld v F.PA_IRSUB_A_G), f 2 (fld v F.PA_IRSUB_A_B)⟩
  | _ => ⟨d 0, d 1, d 2⟩

/-- The local term of a pixel of the array, Lloc - Lglob in EV, from a zone grid (R278, R341). -/
def localTerm (grid : Array Word) (glob x y : Rat) : Rat :=
  let pos := fun (q : Rat) => minR 63 (maxR 0 ((q - 63 / 2) / 64))
  let gx := pos x
  let gy := pos y
  let ix := gx.floor.toNat
  let iy := gy.floor.toNat
  let tx := gx - (ix : Rat)
  let ty := gy - (iy : Rat)
  let zone := fun (i j : Nat) (share : Rat) =>
    let z := 64 * min 63 (iy + j) + min 63 (ix + i)
    (share, bits (grid.getD (8 * z + 2) 0#32) 0 16, bits (grid.getD (8 * z + 3) 0#32) 16 16)
  let zs := [zone 0 0 ((1 - tx) * (1 - ty)), zone 1 0 (tx * (1 - ty)), zone 0 1 ((1 - tx) * ty), zone 1 1 (tx * ty)]
  let m := if zs.any (fun z => z.1 != 0 && z.2.2 == 0) then Config.openZone zs
    else zs.foldl (fun a z => a + z.1 * (z.2.1 : Nat)) 0
  (m - glob) / 1024

/-- The mean log-mean of the zones that have pixels (R278). -/
def globalMean (grid : Array Word) : Rat :=
  let zs := (List.range 4096).filter (fun z => decide (0 < bits (grid.getD (8 * z + 3) 0#32) 16 16))
  if zs.isEmpty then 0 else (total (zs.map (fun z => bits (grid.getD (8 * z + 2) 0#32) 0 16)) : Rat) / (zs.length : Rat)

/-- A row of the region in YUV (R272 to R280), `y` being its row of the mosaic, from the rows of stage 5. -/
def State.renderRow (s : State) (v : View) (w : PicWork) (n i y : Nat) (mosaic : Nat → Array Rat) : List Yuv :=
  let c := regionCols v
  let set := colourSetA v ((v keyTone).toNat % 2)
  let k := Config.mosaic
  let r : Int := (demosaicReach : Nat)
  let ir := s.irOnly v w.fn
  let grid : Option (Array Word) :=
    if w.useGrid then (s.pix.closed.find? (fun t => t.fn == (w.fn + 2 ^ 32 - 1) % 2 ^ 32)).map (fun t => t.grid.toArray) else none
  let glob := match grid with
    | some g => globalMean g
    | none => 0
  let side := (List.range (2 * demosaicReach + 1)).map (fun (d : Nat) => (d : Int) - r)
  let rows := side.map (fun d =>
    let p := (foldEdge 0 ((n : Int) - 1) (mosaicPeriod : Nat) ((i : Int) + d)).toNat
    (p, mosaic p))
  let mid := fun (q : Nat) => ((members v q).headD 0 + (members v q).getLastD 0 : Nat) / (2 : Rat)
  set.pairs 11 ((List.range (c.2 + 1 - c.1)).map (fun j =>
    let x := c.1 + j
    let around := rows.flatMap (fun q => side.map (fun d =>
      let px := (foldEdge c.1 c.2 (mosaicPeriod : Nat) ((x : Int) + d)).toNat
      let f := if k = 3 then 1 else colourAt px q.1
      carried 6 ((q.2.getD (px - c.1) 0) * set.wb.getD f 1)))
    let p := (channelsA v ir x i around).each (carried 7)
    let loc := match grid with
      | some g => if set.ltm = 0 then 0 else localTerm g glob (mid x) (mid y)
      | none => 0
    set.toYuv (k == 3 || ir) (set.render 8 (k == 3 || ir) loc p)))

/-! ### The picture buffers -/

/-- Whether an array row is on the logic die with its last sample. -/
def State.rowIn (s : State) (v : View) (fn y : Nat) : Bool := (s.rowOf fn y (lastSample (vMask v))).isSome

/-- Whether a row of the mosaic is. -/
def State.mosaicIn (s : State) (v : View) (fn y : Nat) : Bool := (members v y).all (fun a => s.rowIn v fn a)

/-- The delay of R283 in RP: rows of the frame that are converted after a row before it is in the warp window. -/
def warpDelay : Nat :=
  match Config.mosaic with
  | 2 => 20
  | 3 => 6
  | _ => 12

/-- Whether a row of the mosaic has stood on the logic die for the delay of R283, or its frame has been converted. -/
def State.delayed (s : State) (v : View) (fn y : Nat) : Bool :=
  s.framePxDone fn ||
  (let rs := readRows (blockRows (winRects v))
   match rs.findIdx? (fun r => r == (members v y).getLastD 0 + 48) with
   | some i => match rs[i + warpDelay]? with
     | some r => s.rowIn v fn (r - 48)
     | none => false
   | none => false)

/-- Stage 5 goes on with the rows of a picture whose neighbours are on the logic die, at most `k` of them. -/
def State.filterRows (s : State) (v : View) (ys : Array Nat) : Nat → PicWork → PicWork
  | 0, w => w
  | k + 1, w =>
    let i := w.mosaic.length
    let n := ys.size
    if n ≤ i then w
    else
      let lo := i - defectReach
      let hi := min (n - 1) (i + defectReach)
      if (List.range (hi + 1 - lo)).all (fun d => s.mosaicIn v w.fn (ys.getD (lo + d) 0)) then
        let rows := ((List.range (hi + 1 - lo)).map (fun d => s.regionRow v w.fn (ys.getD (lo + d) 0))).toArray
        let r := s.correctRow v w.fn n i (fun p => if lo ≤ p then rows.getD (p - lo) #[] else s.regionRow v w.fn (ys.getD p 0))
        s.filterRows v ys k { w with
          mosaic := w.mosaic ++ [s.tnrRow v w i r.1], dyn := w.dyn + r.2, late := w.late + (s.histLate v w i).toNat }
      else w

/-- Stages 6 to 11 go on with the rows that are due in the warp window, at most `k` of them. -/
def State.renderRows (s : State) (v : View) (ys : Array Nat) (mosaic : Array (Array Rat)) : Nat → PicWork → PicWork
  | 0, w => w
  | k + 1, w =>
    let i := w.rows.length
    let n := ys.size
    if n ≤ i then w
    else if min n (i + demosaicReach + 1) ≤ mosaic.size && s.delayed v w.fn (ys.getD i 0) then
      s.renderRows v ys mosaic k
        { w with rows := w.rows ++ [s.renderRow v w n i (ys.getD i 0) (fun p => mosaic.getD p #[])] }
    else w

/-- A frame comes to Pipeline A (R260): a picture buffer is taken where a window carries DISP or CODE. -/
def State.startPicture (s : State) (fn : Nat) : State :=
  let v := s.viewOf fn
  if (paWindows v).isEmpty then s
  else { s with pix := { s.pix with work := (⟨fn, s.tnrJ v fn, s.pix.useGrid, [], [], 0, 0⟩ :: s.pix.work).take 2 } }

/-- The picture of a frame goes on as far as its rows are on the logic die; PA_TNRMISS counts the rows whose history came too late
(R269, R295). -/
def State.advancePicture (s : State) (fn : Nat) : State :=
  match s.pix.work.find? (fun w => w.fn == fn) with
  | none => s
  | some w =>
    let v := s.viewOf fn
    let ys := (regionRows v).toArray
    let a := s.filterRows v ys (ys.size - w.mosaic.length) w
    let b := s.renderRows v ys (a.mosaic.map (fun r => r.toArray)).toArray (ys.size - a.rows.length) a
    State.bumpBy { s with pix := { s.pix with work := s.pix.work.map (fun x => if x.fn = fn then b else x) } }
      F.PA_TNRMISS_COUNT (b.late - w.late)

/-- The picture buffer of a frame. -/
def State.workOf (s : State) (fn : Nat) : Option PicWork := s.pix.work.find? (fun w => w.fn == fn)

/-- The dynamic corrections of a frame (R266). -/
def State.dynamicCount (s : State) (fn : Nat) : Nat := (s.workOf fn).elim 0 (fun w => w.dyn)

/-- The rows of a frame whose history came too late (R269). -/
def State.lateCount (s : State) (fn : Nat) : Nat := (s.workOf fn).elim 0 (fun w => w.late)

/-! ### Windows of the picture -/

/-- The places in the region of the rows of a window's picture, and its columns there, first and count. -/
def pictureAt (v : View) (r : WinRect) : List Nat × Nat × Nat :=
  ((regionRows v).zipIdx.filterMap (fun p => if r.selects ((members v p.1).headD 0 / 4) then some p.2 else none),
   4 * r.bx0 / binDiv v - (regionCols v).1, 4 * r.bw / binDiv v)

/-- The rows of a window's picture that are in the warp window. -/
def PicWork.crop (w : PicWork) (v : View) (r : WinRect) : List (List Yuv) :=
  let p := pictureAt v r
  let rows := w.rows.toArray
  p.1.filterMap (fun i => if i < rows.size then some (((rows.getD i []).drop p.2.1).take p.2.2) else none)

end Sys2Proof.Machine
end

