-- ==== Sys2Proof/Machine/Companion.lean ====
section
/-!
DEFINITION. The companion port and Pipeline B (R301 to R336): the profile, power-up and power-down, the I²C master and write sets,
companion frames with their black level and grid, and the display B buffers.
-/

namespace Sys2Proof.Machine

open Sys2Proof (Word Pkt CompFrame I2cResult)

/-! ### The profile -/

/-- A word of PB.PROFILE (R307). -/
def State.prof (s : State) (i : Nat) : Word := s.reg (wkey 0x0B00 i)

/-- Lines of a companion frame: embedded, optical-black, active (R303). -/
def State.profLines (s : State) : Nat × Nat × Nat := (bits (s.prof 3) 8 3, bits (s.prof 3) 0 6, bits (s.prof 2) 16 12)

/-- The first word of a profile that fails R309, if there is one. -/
def State.profBad (s : State) : Option Nat :=
  let w := s.prof
  let lines := bits (w 3) 8 3 + bits (w 3) 0 6 + bits (w 2) 16 12
  let width := bits (w 2) 0 12
  let mapBad := fun (i : Nat) => decide (bits (w i) 16 2 = 2 ∨ 3 < bits (w i) 24 3)
  if 192 < bits (w 0) 16 8 then some 0
  else if 4 < bits (w 1) 0 3 ∨ 8 < bits (w 1) 8 4 then some 1
  else if width < 16 ∨ 2560 < width ∨ width % 4 ≠ 0 ∨ bits (w 2) 16 12 < 16 ∨ 1440 < bits (w 2) 16 12 then some 2
  else if bits (w 4) 0 20 < 6000 ∨ 100000 < bits (w 4) 0 20 then some 4
  else if 2 < bits (w 6) 7 2 then some 6
  else if bits (w 8) 16 12 ≤ bits (w 8) 0 12 ∨ lines ≤ bits (w 8) 16 12 then some 8
  else if (List.range 8).any (fun c => decide (3 < bits (w 9) (4 * c) 3)) then some 9
  else match (List.range 64).find? (fun i => mapBad (10 + i)) with
    | some i => some (10 + i)
    | none =>
      ((List.range (bits (w 0) 16 8)).find? (fun i => decide (bits (w (74 + 2 * i)) 16 2 = 2))).map (fun i => 74 + 2 * i)

/-- R309: the profile checked; one that passes is in force. -/
def profCheck (s : State) : WRes × State :=
  match s.profBad with
  | some i => (.refuse 4 0x60 i, { s with pb := { s.pb with profOk := false } })
  | none => (.ok, { s with pb := { s.pb with profOk := true } })

/-- COMPANION_PROFILE_LOAD (R309, R327). -/
def srvCompanionProfileLoad (k : Pkt) (s : State) : Ans × State :=
  let start := pf k 0 0 9
  let ws := k.payload.drop 1
  if s.tst F.PB_CTRL_EN then s.fin 8 []
  else if 512 < start + ws.length then s.param 0x60
  else
    let t := if pf k 0 16 1 = 1 then s.setRun (wkey 0x0B00 0) (List.replicate 512 0#32) else s
    let t := { t with pb := { t.pb with profOk := false } }
    let t := t.setRun (wkey 0x0B00 start) ws
    if pf k 0 17 1 = 1 then
      let r := profCheck t
      r.1.ans r.2
    else t.ok []

/-- A TABLE_WRITE of PB.PROFILE (R309). -/
def tblProfile (start : Nat) (ws : List Word) (s : State) : WRes × State :=
  if s.tst F.PB_CTRL_EN then (.refuse 8 0 0, s)
  else (.ok, State.setRun { s with pb := { s.pb with profOk := false } } (wkey 0x0B00 start) ws)

/-! ### The I²C bus -/

/-- A transfer's registers from a MAP word and its data (R308). -/
def i2cReg (m d : Word) : I2cReg := ⟨bits m 0 16, [1, 2, 2, 4].getD (bits m 16 2) 1, bits m 20 3, d⟩

/-- The duration of a transfer in ns (R306). -/
def State.i2cNs (s : State) (r : I2cReg) : Nat :=
  let bit_ := [10000, 2500, 1000, 1000].getD (bits (s.prof 6) 7 2) 1000
  (9 * (2 + bits (s.prof 6) 9 1 + r.width) + 2) * bit_ + 500

/-- LAT of a class (R307). -/
def State.latOf (s : State) (c : Nat) : Nat := bits (s.prof 9) (4 * c) 3

/-- The registers of a set still to be sent in a frame. -/
def WriteSet.due (w : WriteSet) (cfn : Nat) : Option Nat :=
  (List.range w.regs.length).find? (fun i => !w.sent.contains i && (w.regs.getD i (0, ⟨0, 1, 0, 0#32⟩)).1 == cfn)

/-- When line WIN_OPEN of a frame begins, `m` frames after the one being received (R307, R313). -/
def State.winOpens (s : State) (m : Nat) : Nat :=
  us (10 * bits (s.prof 3) 16 16 * m) + ns (bits (s.prof 8) 0 12 * s.pb.line) + s.pb.vsAt

/-- When the next burst is due (R313): of the frame being received, if its window has not opened, or of the frame after it. -/
def State.burstDue (s : State) : Option Nat :=
  let has := fun (c : Nat) => s.pb.queue.any (fun w => (w.due c).isSome)
  if s.pb.opened != some s.pb.cfn && has s.pb.cfn then some (s.winOpens 0)
  else if has (fnNext s.pb.cfn) then some (s.winOpens 1)
  else none

/-- Whether what is left of the READ or WRITE_NOW at the head ends before any burst is due (R317). -/
def State.jobFits (s : State) : Bool :=
  match s.pb.jobs, s.burstDue with
  | [], _ => false
  | _, none => true
  | j :: _, some at_ => decide (ns (total ((j.regs.drop j.done).map s.i2cNs)) + s.tt.clk ≤ at_)

/-- What the bus does next: a burst of the frame whose window has opened, else a READ or WRITE_NOW that ends before the next burst (R313,
R317). -/
def State.nextBus (s : State) : State :=
  let burst : Option I2cNow := match s.pb.opened with
    | some c => s.pb.queue.findSome? (fun w => (w.due c).map (fun i => I2cNow.set w.tag i))
    | none => none
  let now := match burst with
    | some n => n
    | none => if s.jobFits then .job else .idle
  { s with pb := { s.pb with now := now } }

/-- The role of a register of the profile's map (R308), 0 for none. -/
def State.roleOf (s : State) (addr : Nat) : Nat :=
  match (List.range 64).find? (fun i => decide (bits (s.prof (10 + i)) 0 16 = addr) && s.prof (10 + i) != 0#32) with
  | some i => bits (s.prof (10 + i)) 24 3
  | none => 0

/-- A value landed in a register that has a role. -/
def State.landRole (s : State) (r : I2cReg) : State :=
  let role := s.roleOf r.addr
  if role = 0 then s
  else { s with pb := { s.pb with roles := (role, r.data) :: s.pb.roles.filter (fun p => p.1 != role) } }

/-- A failed transfer counted, with its address in PB_I2CLAST (R305, R315, R335). -/
def State.i2cFail (s : State) (r : I2cReg) (res : I2cResult) : State :=
  let t := match res with
    | .nack => s.bump F.PB_I2CERR_NACK
    | .stretchTimeout => s.bump F.PB_I2CERR_STRETCH_TO
    | .ack => s
  t.setReg R.PB_I2CLAST (w32 (r.addr + 2 ^ 31))

/-! ### Starting and stopping -/

/-- The modes that power the companion down (R311). -/
def pbOffMode (m : Nat) : Bool := [0x7, 0x8, 0xA, 0x9, 0xC].contains m

/-- The final reply of the command that started or stopped the companion. -/
def State.pbFinal (s : State) (st : Nat) (pl : List Word) : State :=
  match s.pb.tag with
  | some tag => State.finish { s with pb := { s.pb with tag := none } } 0x61 tag st s.tt.fn pl
  | none => s

/-- Step 1 of R310. -/
def State.pbStart (s : State) : State :=
  State.wrs { s with pb := { s.pb with state := 1, step := 1, since := s.tt.clk, black := none, roles := [] } }
    [(F.CLK_OUT0_KHZ, bits (s.prof 4) 0 20), (F.CLK_OUT0_RUN, 1)]

/-- Picture of a companion frame dropped: its counter and FRAME_DROP_B with the cause 1 LATE, 2 FIFO, 3 FORMAT, 4 SUPERSEDED (R325). -/
def State.pbDrop (s : State) (cfn cause : Nat) : State :=
  let f := [F.PB_DROP_LATE_COUNT, F.PB_DROP_FIFO_COUNT, F.PB_DROP_FORMAT_COUNT, F.PB_DROP_SUPER_COUNT].getD (cause - 1) F.PB_DROP_LATE_COUNT
  (s.bump f).event 0x03 [w32 cfn, w32 cause]

/-- The buffer that is being filled set free. -/
def State.freeFilling (s : State) : State :=
  { s with pb := { s.pb with bufs := s.pb.bufs.map (fun b => match b with
    | .filling _ => .free
    | b => b) } }

/-- A frame in progress dropped with a cause. -/
def State.dropReceiving (s : State) (cause : Nat) : State :=
  if s.pb.receiving then
    State.pbDrop (State.freeFilling { s with pb := { s.pb with receiving := false } }) s.pb.cfn cause
  else s

/-- The final reply of every set in the queue and of every job, TIMEOUT (R311). -/
def State.dropSets (s : State) : State :=
  let t := (s.pb.queue.map (fun w => w.tag) ++ s.pb.jobs.map (fun j => j.tag)).foldl (fun u tag => u.finish 0x63 tag 0xB u.tt.fn []) s
  { t with pb := { t.pb with queue := [], jobs := [], now := .idle, opened := none } }

/-- Steps 1 to 3 of R311. -/
def State.pbStop (s : State) : State :=
  if s.pb.state = 0 then s
  else
    let t := s.dropReceiving 3
    let t := t.dropSets
    { t with pb := { t.pb with rstN := false, step := 4, since := t.tt.clk } }

/-- A mode is entered for the companion (R311): some power it down, and leaving them starts it again if EN is 1. -/
def State.pbMode (s : State) (mode : Nat) : State :=
  if pbOffMode mode then s.pbStop
  else if s.tst F.PB_CTRL_EN && s.pb.state == 0 && s.pb.profOk then s.pbStart
  else s

/-- A write of EN (R310, R311). A start needs a profile that has passed its check; a change while the companion powers down waits
for its end. -/
def pbEnable (en : Bool) (tag : Option Nat) (s : State) : WRes × State :=
  if en == s.tst F.PB_CTRL_EN then (.ok, s)
  else if decide (4 ≤ s.pb.step) then (.refuse 8 0 0, s)
  else if en then
    if !s.pb.profOk then (.refuse 4 0x60 0, s)
    else
      let t := State.wr { s with pb := { s.pb with tag := tag } } F.PB_CTRL_EN 1
      (.ok, if pbOffMode t.sys.mode then t else t.pbStart)
  else
    let t := (s.pbFinal 0xA []).wr F.PB_CTRL_EN 0
    let t := { t with pb := { t.pb with tag := tag } }
    (.ok, if t.pb.state = 0 then t.pbFinal 0 [] else t.pbStop)

/-- OUT_W or OUT_H that R322 refuses. -/
def State.outSizeBad (s : State) (w : Word) : Bool :=
  let bad := fun (v full : Nat) => decide (v ≠ 0 ∧ (v < ceilDiv full 4 ∨ full < v))
  bad (bits w 0 12) (bits (s.prof 2) 0 12) || bad (bits w 16 12) (bits (s.prof 2) 16 12) || bits w 0 12 % 2 == 1

/-- PIPE_B_CONFIG (R309, R310, R311, R322, R326). -/
def srvPipeBConfig (k : Pkt) (s : State) : Ans × State :=
  let w := pw k 0
  let g := pf k 2 0 16
  let r := if bit w 7 then profCheck s else (.ok, s)
  match r.1 with
  | .refuse .. => r.1.ans r.2
  | .ok =>
    let s := r.2
    if s.outSizeBad (pw k 1) then s.param 0x63
    else if g ≠ 0 ∧ (g < 16 ∨ 16384 < g) then s.param 0x45
    else
      let t := (s.stage R.PB_CTRL (keepMask w 0x7E)).stage R.PB_OUT (keepMask (pw k 1) 0x0FFF0FFF)
      let t := if g = 0 then t else t.stage R.PB_DGAIN (w32 g)
      match t.rateReason with
      | some r => s.param r
      | none =>
        if bit w 0 == t.tst F.PB_CTRL_EN then t.ok []
        else
          let e := pbEnable (bit w 0) (some k.tag) t
          match e.1 with
          | .ok => (.accepted [], e.2)
          | .refuse .. => e.1.ans s

/-- COMPANION_ENABLE (R310): a write of PB_CTRL with EN 1. -/
def wrPbCtrl (v : Word) (s : State) : WRes × State :=
  let r := if bit v 7 then profCheck s else (.ok, s)
  match r.1 with
  | .refuse .. => r
  | .ok =>
    let e := pbEnable (bit v 0) none r.2
    match e.1 with
    | .ok => (.ok, e.2.stage R.PB_CTRL (keepMask v 0x7E))
    | .refuse .. => e

/-- COMPANION_ENABLE (R310). -/
def execCompanionEnable (value : Word) (s : State) : Host.Outcome State Fault Refusal :=
  .next (s.keepQueue (wrPbCtrl (putBits value 0 1 1) s).2)

/-- COMPANION_DISABLE (R311). -/
def execCompanionDisable (value : Word) (s : State) : Host.Outcome State Fault Refusal :=
  .next (s.keepQueue (wrPbCtrl (putBits value 0 1 0) s).2)

/-- Start of the INIT list from entry `i`, delays waited for, up to its next transfer or its end (R308, R310). -/
def State.initFrom (s : State) : Nat → Nat → State
  | 0, _ => s
  | n + 1, i =>
    if bits (s.prof 0) 16 8 ≤ i then
      { s with pb := { s.pb with state := 3, step := 0, since := s.tt.clk, now := .idle, opened := none } }
    else if bit (s.prof (74 + 2 * i)) 31 then
      State.initFrom (s.elapse (us (10 * bits (s.prof (75 + 2 * i)) 0 16) + s.tt.clk)) n (i + 1)
    else { s with pb := { s.pb with now := .init i } }

/-- The INIT list from entry `i` on. -/
def State.initAll (s : State) (i : Nat) : State := s.initFrom (bits (s.prof 0) 16 8 + 1) i

/-- COMPANION_POWERUP_DELAY (R310): steps 2 to 4. -/
def execCompanionPowerupDelay (s : State) : Host.Outcome State Fault Refusal :=
  .next (s.keepQueue (
    if s.pb.state ≠ 1 ∨ s.pb.step = 0 ∨ 3 < s.pb.step then s
    else
      let t := s.elapse (us (100 * bits (s.prof 5) (8 * (s.pb.step - 1)) 8) + s.pb.since)
      let t := { t with pb := { t.pb with since := t.tt.clk, step := t.pb.step + 1 } }
      if s.pb.step = 1 then { t with pb := { t.pb with pwdn := false } }
      else if s.pb.step = 2 then { t with pb := { t.pb with rstN := true } }
      else State.initAll { t with pb := { t.pb with state := 2, step := 0 } } 0))

/-- What follows a power-down (R311): the final reply of the write of EN, or, where EN is 1, the start once no mode powers it down. -/
def State.pbDown (s : State) : State :=
  if !s.tst F.PB_CTRL_EN then s.pbFinal 0 [] else if pbOffMode s.sys.mode || !s.pb.profOk then s else s.pbStart

/-- COMPANION_POWERDOWN_DELAY (R311): steps 4 to 6. -/
def execCompanionPowerdownDelay (s : State) : Host.Outcome State Fault Refusal :=
  .next (s.keepQueue (
    if s.pb.step = 4 then
      let t := s.elapse (us (100 * bits (s.prof 5) 8 8) + s.pb.since)
      { t with pb := { t.pb with pwdn := true, step := 5, since := t.tt.clk } }
    else if s.pb.step = 5 then
      let t := s.elapse (us (100 * bits (s.prof 5) 0 8) + s.pb.since)
      let t := State.wr { t with pb := { t.pb with state := 0, step := 0, bufs := [.free, .free] } } F.CLK_OUT0_RUN 0
      (t.faultEnd 16).pbDown
    else s))

/-- A failure of the start (R310): ERROR and the final reply; the fault COMPANION. -/
def State.pbError (s : State) (st : Nat) (pl : List Word) : State :=
  let t := { s with pb := { s.pb with state := 6, step := 0, now := .idle, receiving := false } }
  (t.faultC 16).pbFinal st pl

/-- COMPANION_START_TIMEOUT (R310): no whole frame within 500 ms. -/
def execCompanionStartTimeout (s : State) : Host.Outcome State Fault Refusal :=
  .next (s.keepQueue (
    if s.pb.state ≠ 3 ∨ 4 ≤ s.pb.step then s else (s.elapse (ms 500 + s.pb.since)).pbError 0xB []))

/-! ### Register access -/

/-- The frame of the earliest achievable issue (R313): the first whose line WIN_OPEN lies a line period ahead. -/
def State.firstIssue (s : State) : Nat :=
  let ahead := fun (m : Nat) => decide (ns s.pb.line + s.tt.clk ≤ s.winOpens m)
  if ahead 0 then s.pb.cfn else if ahead 1 then fnNext s.pb.cfn else fnNext (fnNext s.pb.cfn)

/-- The time that a set's transfers of a frame take, in ns. -/
def State.burstNs (s : State) (cfn : Nat) (rs : List (Nat × I2cReg)) : Nat :=
  total ((rs.filter (fun r => r.1 == cfn)).map (fun r => s.i2cNs r.2))

/-- WRITE_SET (R313 to R316). -/
def writeSet (k : Pkt) (regs : List I2cReg) (s : State) : Ans × State :=
  let first := s.firstIssue
  let lat := (regs.map (fun r => s.latOf r.cls)).foldl max 0
  let t := if pw k 1 = 0#32 then (first + lat) % 2 ^ 32 else (pw k 1).toNat
  let rs := regs.map (fun r => ((t + 2 ^ 32 - s.latOf r.cls) % 2 ^ 32, r))
  let span := (bits (s.prof 8) 16 12 - bits (s.prof 8) 0 12) * s.pb.line
  let g := pf k 2 0 16
  if pf k 0 8 1 = 1 ∧ (g < 16 ∨ 16384 < g) then s.param 0x45
  else if rs.any (fun r => !seqLe first r.1) then s.param 0x62
  else if 16 ≤ s.pb.queue.length then s.fin 6 []
  else if rs.any (fun r => decide (span < s.burstNs r.1 rs)) then s.param 0x61
  else if rs.any (fun r => decide (span < s.burstNs r.1 (rs ++ s.pb.queue.flatMap (fun w => w.regs)))) then s.fin 6 []
  else
    let w : WriteSet := ⟨t, k.tag, if pf k 0 8 1 = 1 then some g else none, rs, [], none, false⟩
    (.accepted [w32 t], { s with pb := { s.pb with queue := s.pb.queue ++ [w] } })

/-- COMPANION_REG_ACCESS (R317, R328). -/
def srvCompanionRegAccess (k : Pkt) (s : State) : Ans × State :=
  let n := pf k 0 4 4 + 1
  let op := pf k 0 0 2
  if k.payload.length ≠ 3 + 2 * n then s.fin 3 []
  else if s.pb.state ≠ 4 ∨ 4 ≤ s.pb.step then s.fin 8 []
  else if op = 3 then s.paramOpen
  else if (List.range n).any (fun i => pf k (3 + 2 * i) 16 2 == 2) then s.paramOpen
  else
    let regs := (List.range n).map (fun i => i2cReg (pw k (3 + 2 * i)) (pw k (4 + 2 * i)))
    if op = 2 then writeSet k regs s
    else
      let t := { s with pb := { s.pb with jobs := s.pb.jobs ++ [⟨k.tag, op == 0, regs, 0, [], none⟩] } }
      (.accepted [], if t.pb.now = .idle then t.nextBus else t)

/-- WRITE_SET_BURST (R313): at line WIN_OPEN of an issue frame the Timetable releases its registers. -/
def execWriteSetBurst (s : State) : Host.Outcome State Fault Refusal :=
  .next (s.keepQueue (
    if s.pb.state != 4 || s.pb.opened == some s.pb.cfn || s.pb.queue.all (fun w => (w.due s.pb.cfn).isNone) then s
    else
      let t := s.elapse (ns (bits (s.prof 8) 0 12 * s.pb.line) + s.pb.vsAt)
      let t : State := { t with pb := { t.pb with opened := some t.pb.cfn } }
      if t.pb.now = .idle then t.nextBus else t))

/-- A register of a write set transferred (R315). -/
def State.setDone (s : State) (tag i : Nat) (res : I2cResult) (late : Bool) : State :=
  match s.pb.queue.find? (fun w => w.tag == tag) with
  | none => s
  | some w =>
    let r := (w.regs.getD i (0, ⟨0, 1, 0, 0#32⟩)).2
    let w' := { w with sent := i :: w.sent, late := w.late || late,
                       failed := if res = .ack then w.failed else (match w.failed with
                         | some f => some f
                         | none => some i) }
    let t := { s with pb := { s.pb with queue := s.pb.queue.map (fun q => if q.tag == tag then w' else q) } }
    let t := if late && (w'.due s.pb.cfn).isNone then t.bump F.PB_I2CERR_LATE else t
    if res = .ack then t else t.i2cFail r res

/-- A transfer of the READ or WRITE_NOW at the head done (R317). -/
def State.jobDone (s : State) (res : I2cResult) (data : Word) : State :=
  match s.pb.jobs with
  | [] => s
  | j :: js =>
    let r := j.regs.getD j.done ⟨0, 1, 0, 0#32⟩
    let mask := if r.width = 1 then 0xFF else if r.width = 2 then 0xFFFF else 0xFFFFFFFF
    let j' := { j with done := j.done + 1, data := j.data ++ [keepMask data mask],
                       failed := if res = .ack then j.failed else (match j.failed with
                         | some f => some f
                         | none => some j.done) }
    let t := if res = .ack then (if j.read then s else s.landRole r) else s.i2cFail r res
    if j'.done < j.regs.length then { t with pb := { t.pb with jobs := j' :: js } }
    else
      let t := { t with pb := { t.pb with jobs := js } }
      match j'.failed with
      | some f => t.finish 0x63 j.tag 0xC t.tt.fn [w32 f]
      | none => t.finish 0x63 j.tag 0 t.tt.fn (if j.read then j'.data else [])

/-- I2C_TRANSFER_DONE (R305, R306, R310, R315, R317). -/
def execI2cTransferDone (result : I2cResult) (data : Word) (late : Bool) (s : State) : Host.Outcome State Fault Refusal :=
  .next (s.keepQueue (
    match s.pb.now with
    | .idle => s
    | .init i =>
      let r := i2cReg (s.prof (74 + 2 * i)) (s.prof (75 + 2 * i))
      let t := s.elapse (ns (s.i2cNs r) + s.tt.clk)
      if result = .ack then (t.landRole r).initAll (i + 1)
      else
        let t := t.i2cFail r result
        State.pbError { t with pb := { t.pb with rstN := false } } 0xC [w32 i]
    | .set tag i =>
      let r := match s.pb.queue.find? (fun w => w.tag == tag) with
        | some w => (w.regs.getD i (0, ⟨0, 1, 0, 0#32⟩)).2
        | none => ⟨0, 1, 0, 0#32⟩
      State.nextBus ((s.elapse (ns (s.i2cNs r) + s.tt.clk)).setDone tag i result late)
    | .job =>
      let r := match s.pb.jobs with
        | j :: _ => j.regs.getD j.done ⟨0, 1, 0, 0#32⟩
        | [] => ⟨0, 1, 0, 0#32⟩
      State.nextBus ((s.elapse (ns (s.i2cNs r) + s.tt.clk)).jobDone result data)))

/-! ### Companion frames -/

/-- A write set whose target frame starts (R315, R316). A set not sent whole by then has missed its window. -/
def State.finishSet (s : State) (w : WriteSet) : State :=
  let t := { s with pb := { s.pb with queue := s.pb.queue.filter (fun q => q.tag != w.tag) } }
  let landed := (List.range w.regs.length).filterMap (fun i =>
    if w.sent.contains i && w.failed != some i then w.regs[i]? else none)
  let t := landed.foldl (fun u r => u.landRole r.2) t
  match w.failed with
  | some f => t.finish 0x63 w.tag 0xC w.target [w32 f]
  | none =>
    if w.late ∨ w.sent.length < w.regs.length then t.finish 0x63 w.tag 0xB w.target []
    else
      let t := match w.step with
        | some g => (t.wr F.PB_DGAIN_GAIN g)
        | none => t
      t.finish 0x63 w.tag 0 w.target []

/-- A buffer taken for a new frame (R324). -/
def State.takeBuffer (s : State) (cfn : Nat) : State :=
  match s.pb.bufs.findIdx? (fun b => b == .free) with
  | some i => { s with pb := { s.pb with bufs := s.pb.bufs.set i (.filling cfn) } }
  | none =>
    match s.pb.bufs.findIdx? (fun b => match b with
      | .ready _ => true
      | _ => false) with
    | some i =>
      let old := match s.pb.bufs.getD i .free with
        | .ready c => c
        | _ => 0
      State.pbDrop { s with pb := { s.pb with bufs := s.pb.bufs.set i (.filling cfn) } } old 4
    | none => s

/-- COMPANION_FRAME_START (R303, R304, R312, R315, R323, R324): `after` ns from now, with the line period in ns. A frame still being
received is broken off by it. -/
def execCompanionFrameStart (after line : Nat) (s : State) : Host.Outcome State Fault Refusal :=
  .next (s.keepQueue (
    let s := s.elapse (ns after + s.tt.clk)
    if s.pb.state < 3 ∨ 5 < s.pb.state ∨ 4 ≤ s.pb.step then s
    else
      let t := s.dropReceiving 3
      let t := if t.pb.state = 4 then { t with pb := { t.pb with cfn := fnNext t.pb.cfn } } else t
      let t := { t with pb := { t.pb with
        vsAt := t.tt.clk, vsTb := t.tt.tb, line := line, receiving := true, opened := none, pclk := true } }
      let t := t.wrs [(F.PB_CFN_CFN, t.pb.cfn), (F.PB_VSTB_LO_TB, t.tt.tb % 2 ^ 32)]
      let t := (t.pb.queue.filter (fun w => w.target == t.pb.cfn)).foldl State.finishSet t
      let t := State.land { t with pb := { t.pb with taken := [] } } t.pb.taken
      let t := t.takeBuffer t.pb.cfn
      if t.pb.now = .idle then t.nextBus else t))

/-- A code of the companion after stage 1 (R318). -/
def State.pbLin (s : State) (code : Nat) : Rat :=
  if s.tst F.PB_CTRL_LIN_EN then
    let n := [8, 10, 12, 14, 16].getD (bits (s.prof 1) 0 3) 16
    let x := code * 2 ^ (16 - n)
    let i := min 63 (x / 1024)
    let k := fun (j : Nat) => bits (s.reg (wkey 0x0B01 j)) 0 24
    let a : Rat := (k i : Nat)
    let b : Rat := (k (i + 1) : Nat)
    let d : Rat := (x - 1024 * i : Nat)
    a + (b - a) * d / 1024
  else code

/-- The nearest whole number to a fraction, a tie away from zero. -/
def nearest (q : Rat) : Int := roundI q.num q.den

/-- The black level of a frame from its optical-black lines, in 1/16 (R319). -/
def State.pbBlack (s : State) (ob : List (List Nat)) : Int :=
  if (s.profLines).2.1 = 0 then (bits (s.prof 7) 0 16 : Nat)
  else
    let all := ob.flatMap (fun l => l.map s.pbLin)
    match s.pb.black with
    | none =>
      if all.length < 256 then (bits (s.prof 7) 0 16 : Nat)
      else nearest (16 * all.foldl (fun a b => a + b) 0 / (all.length : Rat))
    | some b =>
      let q : Rat := (b : Rat)
      let l := all.filter (fun (x : Rat) => decide (16 * x ≤ q + 1024) && decide (q - 1024 ≤ 16 * x))
      if l.length < 256 then b
      else b + nearest ((16 * l.foldl (fun a c => a + c) 0 / (l.length : Rat) - q) / 4)

/-- The filter of the companion at a place: 0 R, 1 G or C, 2 B (R320). -/
def State.pbColour (s : State) (x y : Nat) : Nat :=
  let m := bits (s.prof 1) 8 4
  if m = 8 then 1
  else
    let rx := m % 2
    let ry := m / 2 % 2
    if x % 2 = rx ∧ y % 2 = ry then 0 else if x % 2 ≠ rx ∧ y % 2 ≠ ry then 2 else 1

/-- STA.BGRID of a frame from its active lines (R345). -/
def State.bgridOf (s : State) (act : List (List Nat)) (black : Int) : List Word :=
  let w := bits (s.prof 2) 0 12
  let h := bits (s.prof 2) 16 12
  (List.range 256).flatMap (fun c =>
    let gx := c % 16
    let gy := c / 16
    let xs := (List.range w).filter (fun x => min 15 (x / (w / 16)) == gx)
    let ys := (List.range h).filter (fun y => min 15 (y / (h / 16)) == gy)
    let mean := fun (col : Nat) =>
      let l := ys.flatMap (fun y => (xs.filter (fun x => s.pbColour x y == col)).map (fun x =>
        16 * s.pbLin ((act.getD y []).getD x 0) - black))
      let m : Rat := l.foldl (fun a b => a + b) 0 / (l.length : Rat)
      if l.isEmpty ∨ m ≤ 0 then 0 else logMean m.num.toNat m.den
    [w32 (mean 0 + mean 1 * 2 ^ 16), w32 (mean 2 + xs.length * ys.length * 2 ^ 16)])

/-- A code of the companion after black level, by row (R318). -/
def State.pbLevels (s : State) (act : List (List Nat)) (black : Int) : Array (Array Rat) :=
  (act.map (fun l => (l.map (fun c => s.pbLin c - (black : Rat) / 16)).toArray)).toArray

/-- A pixel after dynamic defect correction (R265, R266, R318). -/
def State.pbDefect (s : State) (raw : Int → Int → Rat) (x y : Nat) : Rat :=
  let q : Int := if bits (s.prof 1) 8 4 = 8 then 1 else 2
  let us := [(q, 0), (-q, 0), (0, q), (0, -q), (q, q), (q, -q), (-q, q), (-q, -q)].map (fun (d : Int × Int) => raw (x + d.1) (y + d.2))
  let m := raw x y
  if s.tst F.PB_CTRL_DYN_EN && flagged (max 1 (s.rd F.PA_DEFECT_DYN_K)) 1 m us then (median us).getD m else m

/-- A line of samples brought to another length by six taps (R318); one of the same length passes. -/
def scaleLine (n : Nat) (l : Array Nat) : List Nat :=
  if l.size = n then l.toList
  else (List.range n).map (fun i =>
    let c := i * l.size / n
    min 1023 (Config.scaled l.size n i ((List.range 6).map (fun k => l.getD (min (l.size - 1) (c + k - 2)) 0))))

/-- A plane of samples scaled across and then down (R318). -/
def scalePlane (w h : Nat) (p : List (List Nat)) : Array (Array Nat) :=
  let a := (p.map (fun l => (scaleLine w l.toArray).toArray)).toArray
  let cols := ((List.range w).map (fun x => (scaleLine h (a.map (fun l => l.getD x 0))).toArray)).toArray
  ((List.range h).map (fun y => ((List.range w).map (fun x => (cols.getD x #[]).getD y 0)).toArray)).toArray

/-- The scaler (R318, R322). -/
def scalePicture (ow oh : Nat) (p : List (List Yuv)) : List (List Yuv) :=
  let half := fun (l : List Nat) => l.zipIdx.filterMap (fun (q : Nat × Nat) => if q.2 % 2 = 0 then some q.1 else none)
  let ys := scalePlane ow oh (p.map (fun l => l.map (fun q => q.y)))
  let us := scalePlane (ow / 2) oh (p.map (fun l => half (l.map (fun q => q.u))))
  let vs := scalePlane (ow / 2) oh (p.map (fun l => half (l.map (fun q => q.v))))
  (List.range oh).map (fun y => (List.range ow).map (fun x =>
    ⟨(ys.getD y #[]).getD x 0, (us.getD y #[]).getD (x / 2) 0, (vs.getD y #[]).getD (x / 2) 0⟩))

/-- The bank of PB.TONE in force, as a staged word of its own (R279, R318). -/
def keyToneB : Nat := 0x10004

/-- The picture of a companion frame (R318 to R322): its active lines under the black level of the frame. -/
def State.pbPicture (s : State) (act : List (List Nat)) (black : Int) (ow oh : Nat) : List (List Yuv) :=
  let v := s.live
  let set := colourSetB v ((v keyToneB).toNat % 2)
  let code := bits (s.prof 1) 8 4
  let mono := code == 8
  let kind := if mono then 3 else code / 4
  let w := bits (s.prof 2) 0 12
  let h := bits (s.prof 2) 16 12
  let per : Int := if mono then 1 else 2
  let lv := s.pbLevels act black
  let inX := fun (x : Int) => (foldEdge 0 ((w : Int) - 1) per x).toNat
  let inY := fun (y : Int) => (foldEdge 0 ((h : Int) - 1) per y).toNat
  let raw := fun (x y : Int) => (lv.getD (inY y) #[]).getD (inX x) 0
  let fixed : Array (Array Rat) := ((List.range h).map (fun y => ((List.range w).map (fun x =>
    carried 23 (carried 20 (s.pbDefect raw x y) * set.wb.getD (s.pbColour x y) 1))).toArray)).toArray
  let side := (List.range 7).map (fun (d : Nat) => (d : Int) - 3)
  let rows := (List.range h).map (fun y => set.pairs 28 ((List.range w).map (fun x =>
    let p : Rgb := if mono then let m := (fixed.getD y #[]).getD x 0; ⟨m, m, m⟩
      else
        let around := side.flatMap (fun b => side.map (fun a => (fixed.getD (inY (y + b)) #[]).getD (inX (x + a)) 0))
        let d := fun (c : Nat) => demosaic kind c ((x + code % 2) % 2) ((y + code / 2 % 2) % 2) around
        ⟨d 0, d 1, d 2⟩
    set.toYuv mono (set.render 25 mono 0 (p.each (carried 24))))))
  if ow = w ∧ oh = h then rows else scalePicture ow oh rows

/-- A frame READY: any older READY picture is superseded (R324). -/
def State.bufferReady (s : State) (cfn : Nat) : State :=
  let old := s.pb.bufs.filterMap (fun b => match b with
    | .ready c => some c
    | _ => none)
  let bufs := s.pb.bufs.map (fun b => match b with
    | .ready _ => BufState.free
    | .filling c => if c = cfn then .ready c else .filling c
    | b => b)
  let held := fun (c : Nat) => bufs.any (fun b => b == .ready c || b == .filling c)
  old.foldl (fun t c => t.pbDrop c 4) { s with pb := { s.pb with bufs := bufs, pics := s.pb.pics.filter (fun p => held p.fn) } }

/-- COMPANION_FRAME_END (R303, R304, R310, R318, R319, R324, R345, R576): the frame as it was received. -/
def execCompanionFrameEnd (frame : CompFrame) (s : State) : Host.Outcome State Fault Refusal :=
  .next (s.keepQueue (
    if !s.pb.receiving then s
    else
      let (emb, ob, h) := s.profLines
      let w := bits (s.prof 2) 0 12
      let act := frame.lines.drop (emb + ob)
      let t := s.setReg R.PB_SIZE (w32 ((act.getLastD []).length % 4096 + act.length % 4096 * 2 ^ 16 + 2 ^ 31))
      if frame.lines.length ≠ emb + ob + h ∨ (frame.lines.all (fun l => l.length == w)) = false then t.dropReceiving 3
      else if frame.overflow then t.dropReceiving 2
      else
        let cfn := if t.pb.state = 3 then 0 else if t.pb.state = 5 then fnNext t.pb.cfn else t.pb.cfn
        let first := t.pb.state == 3
        let run := fun (u : State) =>
          let u := (State.wr { u with pb := { u.pb with receiving := false, state := 4, cfn := cfn } } F.PB_CFN_CFN cfn).faultEnd 16
          if first then u.pbFinal 0 [w32 cfn] else u
        if t.thm.level == 2 then run t.freeFilling
        else
          let black := t.pbBlack ((frame.lines.drop emb).take ob)
          let grid := t.bgridOf act black
          let t : State := { t with
            pb := { t.pb with black := some black },
            pix := { t.pix with bclosed := ((cfn, grid) :: t.pix.bclosed).take 4 } }
          let t := t.setReg R.STA_LASTCFN (w32 cfn)
          let t := if t.tst F.STA_CFG_PUSH_BGRID then t.pushPart cfn 4 grid else t
          if frame.late then t.dropReceiving 1
          else
            let size := t.dispBSize t.live
            let renamed : List BufState := t.pb.bufs.map (fun b => match b with
              | .filling _ => .filling cfn
              | b => b)
            run (State.bufferReady { t with pb := { t.pb with
              bufs := renamed, pics := ⟨cfn, t.pbPicture act black size.1 size.2⟩ :: t.pb.pics } } cfn)))

/-- COMPANION_LOST (R304): no frame start within 2 × FRAME_US. -/
def execCompanionLost (s : State) : Host.Outcome State Fault Refusal :=
  .next (s.keepQueue (
    if s.pb.state ≠ 4 ∨ 4 ≤ s.pb.step then s
    else
      let t := s.elapse (us (20 * bits (s.prof 3) 16 16) + s.pb.vsAt)
      let t := t.dropReceiving 3
      State.faultC { t with pb := { t.pb with state := 5 } } 16))

/-- PCLK_TIMEOUT (R304): no edge of CP_PCLK for 1.0 ms. -/
def execPclkTimeout (s : State) : Host.Outcome State Fault Refusal :=
  .next (s.keepQueue { s with pb := { s.pb with pclk := false } })

/-- PCLK_EDGE (R304). -/
def execPclkEdge (s : State) : Host.Outcome State Fault Refusal :=
  .next (s.keepQueue { s with pb := { s.pb with pclk := true } })

/-! ### Settings -/

/-- Whether a key belongs to Pipeline B's staged settings (R323). -/
def pbKey (k : Nat) : Bool :=
  (decide (0x0B00 ≤ k) && decide (k < 0x0C00)) || k == keyToneB || (decide (wkey 0x0B01 0 ≤ k) && decide (k < wkey 0x0B03 0))

/-- The settings of Pipeline B in a set that a COMMIT event takes wait for the next companion frame start (R323). -/
def State.takePb (s : State) (ov : Overlay) : State :=
  let mine := ov.filter (fun p => pbKey p.1)
  if mine.isEmpty then s
  else
    let all : Overlay := mine.foldl (fun (o : Overlay) (p : Nat × Word) => o.put p.1 p.2) s.pb.taken
    let t : State := { s with pb := { s.pb with taken := all } }
    t.setReg R.PB_APPLYCFN (w32 (if t.pb.state = 4 then fnNext t.pb.cfn else if t.pb.state = 5 then fnNext t.pb.cfn else 0))

/-- The bank of PB.TONE in force. -/
def State.toneBankB (s : State) : Nat := (s.reg keyToneB).toNat % 2

/-- A TABLE_WRITE of PB.LIN: staged (R323). -/
def tblPbLin (start : Nat) (ws : List Word) (s : State) : WRes × State :=
  (.ok, s.stageRun (wkey 0x0B01 start) (ws.map (fun w => keepMask w 0xFFFFFF)))

/-- A TABLE_WRITE of PB.TONE: the words of the staged bank. One that reaches the bank's last word marks it ready for the next
commit: PB.TONE has no load command of its own. -/
def tblPbTone (start : Nat) (ws : List Word) (s : State) : WRes × State :=
  let b := 1 - s.toneBankB
  if (s.pendView keyToneB).toNat % 2 ≠ s.toneBankB then (.refuse 8 0 0, s)
  else if start < 257 * b ∨ 257 * (b + 1) < start + ws.length then (.refuse 4 0x14 0, s)
  else
    let t := s.setRun (wkey 0x0B02 start) (ws.map (fun w => keepMask w 0xFFFF))
    (.ok, if start + ws.length = 257 * (b + 1) then t.stage keyToneB (w32 b) else t)

/-- A write of a register of bank PB (R329 to R336). -/
def wrPb (a : Nat) (v : Word) (s : State) : WRes × State :=
  if a = R.PB_CTRL then wrPbCtrl v s
  else if a = R.PB_OUT then
    if s.outSizeBad v then (.refuse 4 0x63 0, s)
    else
      let t := s.stage a (keepMask v 0x0FFF0FFF)
      match t.rateReason with
      | some r => (.refuse 4 r 0, s)
      | none => (.ok, t)
  else if a = R.PB_DGAIN then
    if bits v 0 16 < 16 ∨ 16384 < bits v 0 16 then (.refuse 4 0x45 0, s) else (.ok, s.stage a (keepMask v 0xFFFF))
  else if a = R.PB_I2CERR then (.ok, if bit v 31 then s.setReg a 0#32 else s)
  else (.ok, s.stage a v)

/-- What the registers of bank PB with a state of their own read as (R330, R336). -/
def viewPb (a : Nat) (s : State) : Option Word :=
  if a = R.PB_STAT then
    some (w32 (s.pb.state + flag s.pb.pclk * 2 ^ 3 + s.pb.queue.length * 2 ^ 4 +
      (if s.pb.profOk then bits (s.prof 0) 0 16 else 0) * 2 ^ 16))
  else if a = R.PB_TONE then
    some (putBits (putBits (keepMask (s.staged a) 0xFFFF) 24 1 s.toneBankB) 25 1
      (flag ((s.staged keyToneB).toNat % 2 != s.toneBankB)))
  else none

/-- A read of PB_VSTB_LO copies the high word of TB at the last frame start (R335). -/
def vstbRead (s : State) : State := s.setReg R.PB_VSTB_HI (w32 (s.pb.vsTb / 2 ^ 32))

/-- PB_VSTB_LO_READ (R335). -/
def execPbVstbLoRead (s : State) : Host.Outcome State Fault Refusal := .next (s.keepQueue (vstbRead s))

end Sys2Proof.Machine
end

