-- ==== Sys2Proof/Machine/Housekeeping.lean ====
section
/-!
DEFINITION. The housekeeping converters, the thermal logic and the lens heater (R561 to R587).
-/

namespace Sys2Proof.Machine

open Sys2Proof (Word Byte Pkt)

/-! ### Channels and sequences -/

/-- Whether a converter reaches a channel (R561). -/
def chConnected (conv ch : Nat) : Bool :=
  if conv = 0 then ([0, 1, 2, 3, 4, 8, 9, 0xA, 0xB, 0xC, 0xD, 0xE, 0x14].contains ch) || (decide (0x18 ≤ ch) && decide (ch ≤ 0x21))
  else ([0, 4, 5, 6, 7, 0xC, 0xF, 0x10, 0x11, 0x12, 0x13, 0x14, 0x15, 0x16, 0x17].contains ch) ||
    (decide (0x18 ≤ ch) && decide (ch ≤ 0x21))

/-- Whether a channel has an open-wire current (R561). -/
def chOpenWire (ch : Nat) : Bool := [0xD, 0xE, 0x10, 0x11, 0x12, 0x13].contains ch

/-- CH, KIND, SETTLE, OW and SLOW of an entry (R562). -/
def seqCh (w : Word) : Nat := bits w 0 6
def seqKind (w : Word) : Nat := bits w 6 2
def seqSettle (w : Word) : Nat := bits w 8 3
def seqOw (w : Word) : Nat := bits w 11 2
def seqSlow (w : Word) : Bool := bit w 13

/-- The entries before the first END, with their indices. -/
def seqEntries (ws : List Word) : List (Nat × Word) :=
  ((List.range 32).map (fun i => (i, ws.getD i 0#32))).takeWhile (fun p => seqKind p.2 != 3)

/-- The sequence of a converter that is in force. -/
def State.seq (s : State) (conv : Nat) : List Word := s.run (wkey (if conv = 0 then widSeqA else widSeqB) 0) 32

/-- The staged sequence of a converter (R570). -/
def State.seqStaged (s : State) (conv : Nat) : List Word := s.run (wkey (0x1100 + conv) 0) 32

/-- The entries of a round (R562). -/
def roundOf (ws : List Word) (slow : Bool) : List (Nat × Word) := (seqEntries ws).filter (fun p => seqSlow p.2 == slow)

/-- The µs that entries take, each after the channel before it (R564); an URGENT_WINDOW entry counts 1. -/
def roundUs : Option Nat → List (Nat × Word) → Nat
  | _, [] => 0
  | prev, p :: ps =>
    let ch := seqCh p.2
    (if seqKind p.2 = 0 ∧ prev ≠ some ch then seqSettle p.2 + 1 else 1) + roundUs (some ch) ps

/-- Whether an entry breaks SEQ_KIND on its own or by what comes before it (R570). -/
def entryBad (conv : Nat) (before : List (Nat × Word)) (w : Word) : Bool :=
  let ch := seqCh w
  let special := decide (seqKind w = 1 ∨ seqKind w = 2)
  let urgentBefore := before.any (fun p => seqKind p.2 == 1)
  !chConnected conv ch ||
  (special && (conv == 1 || seqSlow w || !(decide (8 ≤ ch) && decide (ch ≤ 0xB)))) ||
  (seqKind w == 1 && urgentBefore) || (seqKind w == 2 && !urgentBefore) ||
  seqOw w == 3 || (seqOw w != 0 && !chOpenWire ch)

/-- The index of the first entry of a sequence that breaks SEQ_KIND. -/
def kindBad (conv : Nat) (ws : List Word) : Option Nat :=
  let es := seqEntries ws
  ((List.range es.length).find? (fun i => match es[i]? with
    | some p => entryBad conv (es.take i) p.2
    | none => false)).bind (fun i => (es[i]?).map (fun p => p.1))

/-- Whether a required channel is missing (R570). -/
def coverBad (a b : List Word) (heater : Bool) : Bool :=
  let slowHas := fun ch => (roundOf a true ++ roundOf b true).any (fun p => seqCh p.2 == ch)
  let fastA := fun ch => (roundOf a false).any (fun p => seqCh p.2 == ch)
  !((List.range 10).all (fun i => slowHas (0x18 + i))) || !slowHas 0xC || !slowHas 0xE || !fastA 0 ||
    !([8, 9, 0xA, 0xB].all fastA) || (heater && !((roundOf a true).any (fun p => seqCh p.2 == 0xD)))

/-- The reason and index for which two sequences are refused together (R570). -/
def seqReason (a b : List Word) (heater : Bool) : Option (Nat × Nat) :=
  if coverBad a b heater then some (0x96, 0xFFFF)
  else match kindBad 0 a, kindBad 1 b with
    | some i, _ => some (0x97, i)
    | none, some i => some (0x97, i)
    | none, none =>
      if 64 < roundUs none (roundOf a false) ∨ 64 < roundUs none (roundOf b false) ∨
        200 < roundUs none (roundOf a true) ∨ 200 < roundUs none (roundOf b true) then some (0x98, 0xFFFF)
      else none

/-- Both staged sequences checked, and applied at the next tick (R570). -/
def hkApply (s : State) : WRes × State :=
  match seqReason (s.seqStaged 0) (s.seqStaged 1) (s.tst F.THM_HTR_EN) with
  | some r => (.refuse 4 r.1 r.2, s)
  | none => (.ok, { s with hk := { s.hk with due := some (s.seqStaged 0 ++ s.seqStaged 1) } })

/-- A refused write or check of bank HK sets HK_STAT.ERR (R583). -/
def hkErr (r : WRes × State) (s : State) : WRes × State :=
  match r.1 with
  | .refuse st reason idx => (.refuse st reason idx, s.wrs [(F.HK_STAT_ERR, 1), (F.HK_STAT_REASON, reason)])
  | .ok => r

/-- A write of HK_CTRL: APPLY (R570, R583). -/
def wrHkCtrl (v : Word) (s : State) : WRes × State := if bit v 0 then hkErr (hkApply s) s else (.ok, s)

/-- HK_APPLY (R570). -/
def execHkApply (s : State) : Host.Outcome State Fault Refusal := .next (s.keepQueue (wrHkCtrl 1#32 s).2)

/-- HK_SEQUENCE_LOAD (R570). -/
def srvHkSequenceLoad (k : Pkt) (s : State) : Ans × State :=
  let conv := pf k 0 0 1
  let start := pf k 0 8 5
  let ws := k.payload.drop 1
  if 32 < start + ws.length then s.param 0x13
  else
    let t := s.setRun (wkey (0x1100 + conv) start) (ws.map (fun w => keepMask w 0x3FFF))
    if pf k 0 16 1 = 1 then
      match hkApply t with
      | (.refuse st reason idx, _) => (WRes.refuse st reason idx).ans s
      | (.ok, u) => u.ok []
    else t.ok []

/-! ### Results -/

/-- The result register of an entry (R567). -/
def resReg (conv i : Nat) : Nat := 0x1120 + 32 * conv + i

/-- The value of a key in a list of pairs, 0 where there is none. -/
def lookN (l : List (Nat × Nat)) (k : Nat) : Nat :=
  match l.find? (fun p => p.1 == k) with
  | some p => p.2
  | none => 0

/-- A list of pairs with a key's value replaced. -/
def putN (l : List (Nat × Nat)) (k v : Nat) : List (Nat × Nat) := (k, v) :: l.filter (fun p => p.1 != k)

/-- One conversion stored (R567, R568): the register of its entry, and for the users in hardware the channel's code, unless it
carries OWD_SETTLE or OWA. -/
def State.hkStore (s : State) (conv i : Nat) (w : Word) (code : Nat) (nosync : Bool) (round : Nat) : State :=
  let ch := seqCh w
  let key := 64 * conv + ch
  let settle := if lookN s.hk.ow key = seqOw w then lookN s.hk.owd key else 2
  let old := s.reg (resReg conv i)
  let word := code % 4096 + 2 ^ 12 + flag (bit old 12 || bit old 13) * 2 ^ 13 + flag (settle != 0) * 2 ^ 14 + flag nosync * 2 ^ 15 +
    flag (bit old 16) * 2 ^ 16 + flag (seqOw w != 0) * 2 ^ 17 + ch * 2 ^ 18 + round % 256 * 2 ^ 24
  let usable := settle == 0 && seqOw w == 0
  let t := s.setReg (resReg conv i) (w32 word)
  { t with hk := { t.hk with
      lastCh := t.hk.lastCh.set conv (some ch),
      ow := putN t.hk.ow key (seqOw w), owd := putN t.hk.owd key (settle - 1),
      codes := if usable then putN t.hk.codes key (code % 4096) else t.hk.codes,
      storedAt := putN t.hk.storedAt key t.tt.clk } }

/-- The entries of a round stored with their codes, one for each. -/
def State.hkStoreAll (s : State) (conv round : Nat) : List (Nat × Word) → List (Nat × Bool) → State
  | p :: ps, c :: cs => State.hkStoreAll (s.hkStore conv p.1 p.2 c.1 c.2 round) conv round ps cs
  | _, _ => s

/-- The code that the latest usable conversion of a channel on a converter stored. -/
def State.hkOn (s : State) (conv ch : Nat) : Option Nat :=
  (s.hk.codes.find? (fun p => p.1 == 64 * conv + ch)).map (fun p => p.2)

/-- Whether a code lies beyond ±6 % of a target in µV, at 0.5 mV a code (R633). -/
def watchMiss (code target : Nat) : Bool :=
  let v := 500 * code
  decide (6 * target < 100 * (if v ≤ target then target - v else v - target))

/-- The Prefect's voltage watch (R633): VDD_LOGIC over HKA's fast rounds. -/
def State.watchA (s : State) : State :=
  match s.hkOn 0 0 with
  | none => s
  | some c =>
    let n := if watchMiss c s.coreTarget then s.sec.watchA + 1 else 0
    let t := { s with sec := { s.sec with watchA := n } }
    if 2 ≤ n then t.alarm 1 else t

/-- The Prefect's voltage watch: VLOG_RS over its conversions on HKB. -/
def State.watchB (s : State) : State :=
  match s.hkOn 1 0x16 with
  | none => s
  | some c =>
    let n := if watchMiss c s.coreTarget then s.sec.watchB + 1 else 0
    let t := { s with sec := { s.sec with watchB := n } }
    if 2 ≤ n then t.alarm 1 else t

/-- HTR_G as the heater drives it after an HTR_CS result (R579): I_on is taken while it is high, and a result above HTR_ILIM turns
it off for the rest of the period. -/
def State.heaterSense (s : State) : State :=
  match s.hkOn 1 0x0F with
  | none => s
  | some c =>
    if !s.thm.htrOn then s
    else
      let t := { s with thm := { s.thm with iOn := some c } }
      if 800 * max 1 (bits (s.reg 0x10005) 25 7) < 5 * c then
        State.bump { t with thm := { t.thm with htrOn := false } } F.THM_HTRSTAT_ILIM_CNT
      else t

/-- Whether the power die runs. -/
def State.powered (s : State) : Bool := s.sys.phase != .unpowered

/-- A fast round of a converter stored: a code converted now, or one that URGENT_REQUEST held; the round is counted (R563, R566). -/
def State.storeRound (s : State) (conv : Nat) (codes : List Nat) : State :=
  let es := roundOf (s.seq conv) false
  let code := fun (p : (Nat × Word) × Nat) =>
    if seqKind p.1.2 = 0 then (p.2, false)
    else match s.hk.held with
      | some h => (h.getD (seqCh p.1.2 - 8) 0, false)
      | none => (p.2, true)
  let t := s.hkStoreAll conv (s.hk.fast.getD conv 0) es ((es.zip codes).map code)
  { t with hk := { t.hk with fast := t.hk.fast.set conv (t.hk.fast.getD conv 0 + 1) } }

/-- HK_FAST_ROUND (R563 to R567): a fast round of one converter, with the code of each entry in index order; the phase currents of
HKA are those that the request sampled, else NOSYNC. -/
def execHkFastRound (conv : Nat) (codes : List Nat) (s : State) : Host.Outcome State Fault Refusal :=
  .next (s.keepQueue (
    if !s.powered || 1 < conv then s
    else
      let es := roundOf (s.seq conv) false
      let t := s.storeRound conv codes
      if conv = 0 then
        let urgent := es.any (fun p => seqKind p.2 == 1)
        let t := { t with hk := { t.hk with held := none, urgent := urgent } }
        (t.wr F.HK_STAT_FAST_US (min 63 (roundUs ((s.hk.lastCh.getD conv none)) es))).watchA
      else if es.any (fun p => seqCh p.2 == 0x16) then t.heaterSense.watchB
      else t.heaterSense))

/-- The phase currents sampled where HKA waits in its URGENT_WINDOW entry (R565). -/
def State.sample (s : State) (codes : List Nat) : State :=
  { s with hk := { s.hk with held := some codes, urgent := false } }

/-- URGENT_REQUEST (R565). -/
def execUrgentRequest (codes : List Nat) (s : State) : Host.Outcome State Fault Refusal :=
  .next (s.keepQueue (if s.powered && s.hk.urgent then s.sample codes else s))

/-- UNSOLICITED_URGENT_REQUEST (R566): served where HKA waits, else dropped and counted. -/
def execUnsolicitedUrgentRequest (codes : List Nat) (s : State) : Host.Outcome State Fault Refusal :=
  .next (s.keepQueue (
    if !s.powered then s
    else if s.hk.urgent then s.sample codes
    else s.bump F.HK_URGDROP_COUNT))

/-! ### Plausibility -/

/-- A comparison (R569): its number, the channel reported, the channels whose results it concerns as 64 × converter + channel, the
two codes, and whether they mismatch. -/
structure Comparison where
  id : Nat
  ch : Nat
  of : List Nat
  a : Nat
  b : Nat
  miss : Bool

/-- Whether a converter stored a channel within the last 1.024 ms. -/
def State.fresh1 (s : State) (key : Nat) : Bool :=
  match s.hk.storedAt.find? (fun p => p.1 == key) with
  | some p => decide (s.tt.clk ≤ us 1024 + p.2)
  | none => false

/-- The difference of two codes. -/
def absDiff (a b : Nat) : Nat := if a ≤ b then b - a else a - b

/-- The comparisons that this slow round makes (R569). -/
def State.comparisons (s : State) : List Comparison :=
  let thr := max 1 (s.rd F.HK_PLAUS_THR)
  let ts := 16 * s.rd F.HK_PLAUS_TS_DIFF
  let shared := ([0, 4, 0xC] ++ (List.range 10).map (fun i => 0x18 + i)).filterMap (fun ch =>
    match s.hkOn 0 ch, s.hkOn 1 ch with
    | some a, some b =>
      if s.fresh1 ch && s.fresh1 (64 + ch) then
        some ⟨ch, ch, [ch, 64 + ch], a, b, decide ((if 0x18 ≤ ch then ts else thr) < absDiff a b)⟩
      else none
    | _, _ => none)
  let xref := [0, 1].filterMap (fun conv =>
    match s.hkOn conv 0x14 with
    | some a => if s.fresh1 (64 * conv + 0x14) then some ⟨64 + conv, 0x14, [64 * conv + 0x14], a, 2048,
        decide (thr < absDiff a 2048)⟩ else none
    | none => none)
  let gnd := match s.hkOn 1 0x15 with
    | some a => if s.fresh1 (64 + 0x15) then [⟨66, 0x15, [64 + 0x15], a, 0, decide (thr < a)⟩] else []
    | none => []
  let pairs := [0, 2, 8].filterMap (fun n =>
    let ch := 0x18 + n
    match (s.hkOn 0 ch).orElse (fun _ => s.hkOn 1 ch), (s.hkOn 0 (ch + 1)).orElse (fun _ => s.hkOn 1 (ch + 1)) with
    | some a, some b => some ⟨67 + n, ch, [ch, 64 + ch, ch + 1, 65 + ch], a, b, decide (ts < absDiff a b)⟩
    | _, _ => none)
  shared ++ xref ++ gnd ++ pairs

/-- PLAUS set or cleared in the results of channels. -/
def State.setPlaus (s : State) (keys : List Nat) (v : Nat) : State :=
  (List.range 64).foldl (fun t j =>
    let r := 0x1120 + j
    let w := t.reg r
    if bit w 12 || w != 0#32 then
      (if keys.contains (64 * (j / 32) + bits w 18 6) then t.setReg r (putBits w 16 1 v) else t)
    else t) s

/-- The count that a comparison holds while it stands failed. -/
def plausDown : Nat := 16

/-- One comparison taken into account (R569): its N-th consecutive mismatch is a failure, and a pass clears PLAUS. -/
def State.compare (s : State) (c : Comparison) : State :=
  let n := lookN s.hk.plaus c.id
  if !c.miss then
    let t := { s with hk := { s.hk with plaus := putN s.hk.plaus c.id 0 } }
    if n = 0 then t else t.setPlaus c.of 0
  else
    let fails := decide (n < plausDown ∧ max 1 (s.rd F.HK_PLAUS_N) ≤ n + 1)
    let t := { s with hk := { s.hk with plaus := putN s.hk.plaus c.id (if fails then plausDown else min plausDown (n + 1)) } }
    if fails then
      let t := (t.setPlaus c.of 1).bump F.HK_PLAUSCNT_COUNT
      let t := t.setReg R.HK_PLAUSLAST (w32 (c.ch + c.a * 2 ^ 6 + c.b * 2 ^ 18 + 2 ^ 31))
      (t.event 0x0C [w32 c.ch, w32 (c.a + c.b * 2 ^ 16)]).faultC 12
    else t

/-- Whether a comparison stands failed. -/
def State.plausFailed (s : State) (id : Nat) : Bool := lookN s.hk.plaus id == plausDown

/-- Every comparison of a slow round, and the end of the fault when none stands failed. -/
def State.plausibility (s : State) : State :=
  let t := s.comparisons.foldl State.compare s
  if t.hk.plaus.all (fun p => p.2 != plausDown) then t.faultEnd 12 else t

/-! ### Temperatures -/

/-- A sensor's reading in 1/16 °C (R572): HKA's or HKB's, the later one stored, and where their comparison stands failed the higher. -/
def State.tsReading (s : State) (n : Nat) : Option Int :=
  let ch := 0x18 + n
  let t := fun (c : Nat) => (c : Int) - 1024
  match s.hkOn 0 ch, s.hkOn 1 ch with
  | some a, some b =>
    some (if s.plausFailed ch then max (t a) (t b)
      else if lookN s.hk.storedAt (64 + ch) ≤ lookN s.hk.storedAt ch then t a else t b)
  | some a, none => some (t a)
  | none, some b => some (t b)
  | none, none => none

/-- Whether a reading marks its sensor failed (R572). -/
def tsFailed (t : Int) : Bool := decide (t < -800) || decide (2400 < t)

/-- The usable readings with their sensors. -/
def State.usable (s : State) : List (Nat × Int) :=
  (List.range 10).filterMap (fun n =>
    match s.tsReading n with
    | some t => if tsFailed t then none else some (n, t)
    | none => none)

/-- The highest of readings with its source. -/
def hottest : List (Nat × Int) → Option (Nat × Int)
  | [] => none
  | p :: ps =>
    match hottest ps with
    | some q => if q.2 ≤ p.2 then some p else some q
    | none => some p

/-- The stage temperature in 1/16 °C from the code of TMON_STG (R550). -/
def stageTemp (code : Nat) : Int := (code : Int) - 800

/-- Sixteen times the mean of T_max over the slow rounds that are held, at most 16 (R573). -/
def tfSum (l : List Int) : Int :=
  let n := l.length
  if n = 0 then 0 else (l.foldl (fun a b => a + b) 0) * 16 / n

/-- The rate of rise times 524 in units of 1/16 °C per second times 125: the difference of two Tf sums 256 slow rounds apart (R573). -/
def State.rateDelta (s : State) : Int :=
  match s.thm.tf, s.thm.tf.getLast? with
  | now :: _, some before => if s.thm.tf.length = 257 then now - before else 0
  | _, _ => 0

/-- Whether the rate lies above x/16 °C per second. -/
def State.rateAbove (s : State) (x : Int) : Bool := decide (x * 524 < s.rateDelta * 125)

/-- Stage temperature, the readings and T_max of a slow round (R550, R572, R573, R586). -/
def State.temperatures (s : State) : State :=
  let t := match s.hkOn 0 0xE with
    | some c => s.wr F.PWR_STG_TEMP (unsigned 16 (stageTemp c))
    | none => s
  let stage := signed 16 (t.rd F.PWR_STG_TEMP)
  let warm := decide (16 * (t.rd F.PWR_STG_WARN : Int) < stage)
  let failed := (List.range 10).filter (fun n => match t.tsReading n with
    | some x => tsFailed x
    | none => false)
  let t := t.usable.foldl (fun u p => u.wr ⟨R.THM_TEMP0 + p.1, 0, 16⟩ (unsigned 16 p.2)) t
  let t := t.wr F.THM_STAT_SENS_FAIL (failed.foldl (fun a n => a + 2 ^ n) 0)
  let t := if failed.isEmpty then t.faultEnd 13 else t.faultC 13
  match hottest (t.usable ++ (if warm then [(0xA, stage)] else [])) with
  | none => t
  | some h =>
    let u := t.wrs [(F.THM_MAX_TMAX, unsigned 16 h.2), (F.THM_MAX_SRC, h.1)]
    let u := if signed 16 (u.rd F.THM_PEAK_PEAK) < h.2 then u.wr F.THM_PEAK_PEAK (unsigned 16 h.2) else u
    let l := (h.2 :: u.thm.tmax).take 16
    let u := { u with thm := { u.thm with tmax := l, tf := (tfSum l :: u.thm.tf).take 257 } }
    u.wr F.THM_MAX_RATE (unsigned 12 (clampI (-2048) 2047 (roundI (u.rateDelta * 125) 524)))

/-! ### Throttling -/

/-- T_max in 1/16 °C. -/
def State.tMax (s : State) : Int := signed 16 (s.rd F.THM_MAX_TMAX)

/-- WARN in 1/16 °C. -/
def State.warnLevel (s : State) : Int := 16 * (s.rd F.THM_CFG_WARN : Int)

/-- CLEAR (R574). -/
def State.clearNow (s : State) : Bool := decide (s.tMax < s.warnLevel - 80) && !s.rateAbove 24

/-- The enforcement level of a thermal state (R574). -/
def thmLevel (st : Nat) : Nat := st - 1

/-- THROTTLE_ENFORCED with the level that lands and its frame (R574, R576). -/
def State.landLevel (s : State) (level fn : Nat) : State :=
  let old := s.thm.level
  let shed := if level = 0 then [] else if level = 1 then [0, 1, 2] else [0, 1, 2, 3]
  let t := { s with
    thm := { s.thm with level := level, want := none, land := none },
    out := { s.out with enfShed := shed } }
  State.event t 0x07 [w32 (level + old * 4), w32 fn]

/-- A new enforcement level is decided (R576): in a streaming mode it waits for a COMMIT event, else it acts at once. -/
def State.decideLevel (s : State) (level : Nat) : State :=
  let target := match s.thm.land with
    | some l => l.1
    | none => s.thm.level
  if level = target then { s with thm := { s.thm with want := none } }
  else if streamingMode s.sys.mode && s.sys.phase == .run then { s with thm := { s.thm with want := some (level, s.tt.clk) } }
  else s.landLevel level (if s.tt.started then fnNext s.tt.fn else 0)

/-- A change of the thermal state (R574). -/
def State.thmGo (s : State) (st : Nat) : State :=
  State.decideLevel { s with thm := { s.thm with state := st, since := s.tt.clk, clearAt := none, rateAt := none } } (thmLevel st)

/-- REQUEST is entered with its cause: 0 level, 1 rate (R574). -/
def State.request (s : State) (cause : Nat) : State :=
  let t := { s with thm := { s.thm with
    state := 1, since := s.tt.clk, clearAt := none, rateAt := none, graceAt := s.tt.clk, extended := false } }
  (t.event 0x05 [w32 cause, w32 (t.rd F.THM_MAX_TMAX)]).event 0x06 [w32 (100 * t.rd F.THM_CFG_GRACE)]

/-- How long CLEAR and the rate have held. -/
def State.thmTimers (s : State) : State :=
  { s with thm := { s.thm with
      clearAt := if s.clearNow then (match s.thm.clearAt with | some x => some x | none => some s.tt.clk) else none,
      rateAt := if s.rateAbove 24 then (match s.thm.rateAt with | some x => some x | none => some s.tt.clk) else none } }

/-- Whether the rate has been above 1.5 °C/s at every update for 4.0 s. -/
def State.rateHeld (s : State) : Bool :=
  match s.thm.rateAt with
  | some x => decide (ms 4000 + x ≤ s.tt.clk)
  | none => false

/-- What a slow round changes of the thermal state (R574). -/
def State.throttle (s0 : State) : State :=
  let s := s0.thmTimers
  let jump := s.rateAbove 128
  match s.thm.state with
  | 0 => if jump then s.thmGo 2 else if s.warnLevel ≤ s.tMax then s.request 0 else if s.rateHeld then s.request 1 else s
  | 1 => if jump then s.thmGo 2 else s
  | 2 => if 1840 ≤ s.tMax then s.thmGo 3 else s
  | _ => s

/-- The over-temperature shutdowns (R550, R577): a sensor at 125 °C, or the stage above SHUT, in two consecutive slow rounds. -/
def State.overTemp (s : State) : State :=
  let hot := (List.range 10).filter (fun n => match s.tsReading n with
    | some x => decide (2000 ≤ x)
    | none => false)
  let twice := hot.any (fun n => s.thm.hot.contains n)
  let hotStage := decide (16 * (s.rd F.PWR_STG_SHUT : Int) < signed 16 (s.rd F.PWR_STG_TEMP))
  let n := if hotStage then s.thm.stageHot + 1 else 0
  let t := { s with thm := { s.thm with hot := hot, stageHot := n } }
  if twice then t.shutdown 5 else if 2 ≤ n then t.shutdown 6 else t

/-- The stage has come above PWR_STG.WARN: THERMAL_WARN (R550). -/
def State.stageWarn (s before : State) : State :=
  let above := fun (x : State) => decide (16 * (x.rd F.PWR_STG_WARN : Int) < signed 16 (x.rd F.PWR_STG_TEMP))
  if above s && !above before then s.event 0x05 [0#32, w32 (s.rd F.THM_MAX_TMAX)] else s

/-- GRACE_EXPIRY (R574): the grace timer expires in REQUEST. -/
def execGraceExpiry (s : State) : Host.Outcome State Fault Refusal :=
  .next (s.keepQueue (
    if s.thm.state = 1 then (s.elapse (ms (100 * s.rd F.THM_CFG_GRACE) + s.thm.graceAt)).thmGo 2 else s))

/-- CLEAR_HOLD_EXPIRY (R574): CLEAR has held for 1.0 s in REQUEST, or 10 s in ENF1 or ENF2. -/
def execClearHoldExpiry (s : State) : Host.Outcome State Fault Refusal :=
  .next (s.keepQueue (
    match s.thm.clearAt with
    | none => s
    | some x =>
      let t := fun (d : Nat) => s.elapse (ms d + x)
      match s.thm.state with
      | 1 => (t 1000).thmGo 0
      | 2 => (t 10000).thmGo 0
      | 3 => (t 10000).thmGo 2
      | _ => s))

/-- ENF2_TIMEOUT (R574): ENF1 held for ENF2_S seconds with T_max at WARN or above. -/
def execEnf2Timeout (s : State) : Host.Outcome State Fault Refusal :=
  .next (s.keepQueue (
    if s.thm.state = 2 ∧ s.warnLevel ≤ s.tMax then
      (s.elapse (ms (1000 * max 1 (s.rd F.THM_CFG_ENF2_S)) + s.thm.since)).thmGo 3
    else s))

/-- THROTTLE_ACK (R575). -/
def srvThrottleAck (k : Pkt) (s : State) : Ans × State :=
  if s.thm.state ≠ 1 then s.param 0x94
  else if pf k 0 0 1 = 0 then s.ok []
  else if s.thm.extended then s.param 0x95
  else State.ok { s with thm := { s.thm with graceAt := s.tt.clk, extended := true } } []

/-! ### The heater -/

/-- The NTC's temperature in 1/16 °C times 128, by linear interpolation between the knots of HK.NTC (R582). -/
def State.ntcTemp (s : State) (code : Nat) : Int :=
  let knot := fun (i : Nat) => signed 16 (bits (s.reg (wkey 0x1102 i)) 0 16)
  let i := code / 128
  knot i * 128 + (knot (i + 1) - knot i) * (code % 128 : Nat)

/-- The on-time of a heater period in µs (R579). `cfg` is in the layout of THM_HTR. -/
def State.onTime (s : State) (cfg : Word) (code : Nat) : Nat :=
  let tset : Int := signed 7 (bits cfg 1 7)
  let band := max 1 (bits cfg 8 4)
  let x := clampI 0 (2048 * band : Nat) (2048 * tset - s.ntcTemp code)
  let plim := bits cfg 12 13
  -- p_on in 1/160 mW
  let p := match s.thm.iOn with
    | some i => s.hkCode 0xC * i
    | none => 0
  let num := x.toNat
  let den := 2048 * band
  if p ≤ 160 * plim then roundUp (1024 * num) den else roundUp (1024 * num * 160 * plim) (den * p)

/-- Whether HTR_G may go high (R578). -/
def State.heaterAllowed (s : State) (cfg : Word) : Bool :=
  bit cfg 0 && s.sys.phase != .unpowered && s.sys.phase != .reset && s.sys.mode != 7 && s.thm.level == 0 && !s.tst F.THM_HTRSTAT_NTC_FAULT

/-- A heater period begins (R578 to R580, R582): the configuration written takes effect, and the on-time is computed. -/
def State.heaterPeriod (s : State) : State :=
  let s := s.setReg 0x10005 (s.reg R.THM_HTR)
  let cfg := s.reg 0x10005
  let fail := match s.hkOn 0 0xD with
    | some c => decide (4060 < c) || decide (c < 40)
    | none => false
  let t := s.wr F.THM_HTRSTAT_NTC_FAULT (flag fail)
  let t := if fail then t.faultC 14 else t.faultEnd 14
  let on := match t.hkOn 0 0xD with
    | some c => if t.heaterAllowed cfg then t.onTime cfg c else 0
    | none => 0
  State.wr { t with thm := { t.thm with htrOn := decide (0 < on) } } F.THM_HTRSTAT_ONTIME on

/-- HEATER_PWM_OFF (R579): the on-time of the period ends. -/
def execHeaterPwmOff (s : State) : Host.Outcome State Fault Refusal :=
  .next (s.keepQueue (
    if s.thm.htrOn then
      let t := s.elapse (us (s.rd F.THM_HTRSTAT_ONTIME) + us 1024 * (s.tt.clk / us 1024))
      { t with thm := { t.thm with htrOn := false } }
    else s))

/-- Whether a heater configuration is refused (R580). -/
def heaterBad (w : Word) : Bool := decide (5000 < bits w 12 13) || bits w 8 4 == 0

/-- HEATER_CONFIG (R580). -/
def srvHeaterConfig (k : Pkt) (s : State) : Ans × State := s.underLevel <|
  if heaterBad (pw k 0) then s.param 0x99 else (s.setReg R.THM_HTR (pw k 0)).ok []

/-- Whether a thermal configuration is refused (R585). -/
def thmCfgBad (w : Word) : Bool :=
  decide (bits w 0 7 < 85) || decide (115 < bits w 0 7) || decide (bits w 8 7 < 1) || decide (100 < bits w 8 7)

/-- THERMAL_CONFIG (R585). -/
def srvThermalConfig (k : Pkt) (s : State) : Ans × State :=
  if thmCfgBad (pw k 0) then s.param 0x9A else (s.setReg R.THM_CFG (keepMask (pw k 0) 0xFF7F7F)).ok []

/-- A refused write of bank THM (R585). -/
def thmErr (s : State) (reason : Nat) : WRes × State :=
  (.refuse 4 reason 0, s.wrs [(F.THM_STAT_ERR, 1), (F.THM_STAT_REASON, reason)])

/-- A write of THM_CFG. -/
def wrThmCfg (v : Word) (s : State) : WRes × State :=
  if thmCfgBad v then thmErr s 0x9A else (.ok, s.setReg R.THM_CFG (keepMask v 0xFF7F7F))

/-- A write of THM_HTR. -/
def wrThmHtr (v : Word) (s : State) : WRes × State := if heaterBad v then thmErr s 0x99 else (.ok, s.setReg R.THM_HTR v)

/-! ### The tick -/

/-- A checked pair of sequences takes effect (R570): the registers of the entries that changed are cleared. -/
def State.seqTake (s : State) : State :=
  match s.hk.due with
  | none => s
  | some ws =>
    let old := s.seq 0 ++ s.seq 1
    let t := (s.setRun (wkey widSeqA 0) (ws.take 32)).setRun (wkey widSeqB 0) (ws.drop 32)
    let t := (List.range 64).foldl (fun u j => if old.getD j 0#32 = ws.getD j 0#32 then u else u.setReg (0x1120 + j) 0#32) t
    { t with hk := { t.hk with builtin := false, due := none } }

/-- The slow round of one converter. -/
def State.slowRound (s : State) (conv : Nat) (codes : List Nat) : State :=
  let es := roundOf (s.seq conv) true
  let t := s.hkStoreAll conv (s.hk.slow.getD conv 0) es (codes.map (fun c => (c, false)))
  let t := { t with hk := { t.hk with slow := t.hk.slow.set conv (t.hk.slow.getD conv 0 + 1) } }
  if conv = 1 && es.any (fun p => seqCh p.2 == 0x16) then t.watchB else t

/-- HK_TICK (R563): sequences, slow rounds, plausibility, thermal logic and the heater's period. -/
def execHkTick (codesA codesB : List Nat) (s : State) : Host.Outcome State Fault Refusal :=
  .next (s.keepQueue (
    if !s.powered then s
    else
      let t := s.elapse (us 1024 + us 1024 * (s.tt.clk / us 1024))
      let t := ((t.seqTake.slowRound 0 codesA).slowRound 1 codesB).plausibility
      let t := t.temperatures.stageWarn t
      (t.throttle.heaterPeriod).overTemp))

/-- HK_READ (R571). -/
def srvHkRead (k : Pkt) (s : State) : Ans × State :=
  let conv := pf k 0 0 1
  let i := pf k 0 8 5
  let n := pf k 0 16 6
  if n = 0 ∨ 32 < n ∨ 32 < i + n then s.param 0x13
  else
    let ws := s.run (resReg conv i) n
    let t := if pf k 0 24 1 = 1 then
        (List.range n).foldl (fun u j => u.setReg (resReg conv (i + j)) (clearMask (u.reg (resReg conv (i + j))) 0x3000)) s
      else s
    t.ok ws

/-- What the registers of banks HK and THM read as whose values are not kept whole in the memory (R583, R585). -/
def viewHk (a : Nat) (s : State) : Option Word :=
  if a = R.HK_STAT then some (putBits (s.reg a) 0 1 (flag s.hk.builtin))
  else if a = R.THM_STAT then some (putBits (putBits (s.reg a) 0 2 s.thm.state) 2 1 (flag s.thm.extended))
  else none

end Sys2Proof.Machine
end

