-- ==== Sys2Proof/Machine/Streams.lean ====
section
/-!
DEFINITION. The contents of stream frames: ROWS packets and their rows (R353, R354, R363, R419), the rows of vision (R381 to
R383), the lines of display A (R369, R371, R373, R374), coding (R377 to R380), display B (R376), and headers and footers (R349 to
R352).
-/

namespace Sys2Proof.Machine

open Sys2Proof (Word Byte)

/-! ### Rows and packets -/

/-- A stream frame in progress replaced by a later version of itself. -/
def State.setFrame (s : State) (old new : StreamFrame) : State :=
  { s with out := { s.out with live := s.out.live.map (fun g => if g = old then new else g) } }

/-- The ROWS packet that is being filled is sent (R363). -/
def State.closeRows (s : State) (f : StreamFrame) : StreamFrame × State :=
  let n := f.tags.length - f.first
  if n = 0 then (f, s)
  else ({ f with first := f.tags.length, words := [] }, s.framePacket f 3 (w32 (f.first % 65536 + n * 65536) :: f.words))

/-- A row added to a stream frame (R353, R419, R627): its payload and its tag. -/
def State.addRowTo (s : State) (f : StreamFrame) (ws : List Word) (tag : Word) : StreamFrame × State :=
  let unit := ws ++ [tag]
  let crc := crc32c unit
  let (f, s) := if 4096 < 3 + f.words.length + unit.length + 1 then s.closeRows f else (f, s)
  let f : StreamFrame := { f with
    tags := f.tags ++ [tag], crcs := f.crcs ++ [crc], macs := f.macs ++ s.unitMac f (bytesOf unit),
    words := f.words ++ unit ++ [crc] }
  if 512 ≤ 3 + f.words.length then s.closeRows f else (f, s)

/-! ### The source rows of a picture -/

/-- The array rows y that a row of a window's picture comes from (R226, R232). -/
def pictureRows (v : View) (r : WinRect) (p : Nat) : List Nat :=
  let m := binDiv v
  let f := binFoot v
  let out := f / m
  let qs := if m = 1 then [p] else (List.range m).map (fun i => f * (p / out) + p % out + out * i)
  qs.map (fun q => 4 * r.rows.getD (q / 4) 0 + q % 4)

/-- The row of the (binned) mosaic that is complete with array row `y`, if one is. -/
def mosaicOf (v : View) (y : Nat) : Option Nat :=
  let m := binDiv v
  let f := binFoot v
  let out := f / m
  if m = 1 then some y
  else if out * (m - 1) ≤ y % f then some (y / f * out + (y % f - out * (m - 1)))
  else none

/-- The mosaic columns of a window. -/
def winCols (v : View) (r : WinRect) : List Nat :=
  (List.range (4096 / binDiv v)).filter (fun x =>
    let c := (members v x).headD 0 / 4
    decide (r.bx0 ≤ c) && decide (c < r.bx0 + r.bw))

/-- The samples that a mask takes. -/
def samplesOf (mask : Nat) : List Nat := (List.range 4).filter (fun i => mask.testBit i)

/-- An output row tag (R354). -/
def rowTag (row sample ors gain slip fn : Nat) : Word :=
  w32 (row % 8192 + sample * 2 ^ 13 + ors * 2 ^ 15 + gain * 2 ^ 20 + slip * 2 ^ 22 + fn % 256 * 2 ^ 24)

/-! ### Vision -/

/-- The radiance code of a merged value (R381). -/
def compand (v : View) (m : Nat) : Nat :=
  let n := visDepth v
  let top := 2 ^ n - 1
  let l := logCode m
  match fld v F.OUT_VIS_CURVE with
  | 1 => min (m / 2 ^ fld v F.OUT_VIS_SHIFT) top
  | 2 =>
    let i := min 15 (l / 2560)
    let k := fun j => bits (v (wkey 0x0D01 j)) 0 16
    min top (k i + roundUp ((k (i + 1) - k i) * (l - 2560 * i)) 2560)
  | _ => min top (roundUp l (2 ^ (16 - n)))

/-- Whether vision is raw (R382). -/
def visRaw (v : View) : Bool := fld v F.OUT_VIS_MODE == 1

/-- The row of a vision frame that sample `sample` of array row `y` completes, if it completes one: its words, its tag (R381, R382). -/
def State.visRow (s : State) (v : View) (r : WinRect) (fn y sample : Nat) : Option (List Word × Word) :=
  let mask := vMask v
  let mine := if visRaw v then (fld v F.OUT_VIS_SAMPLESEL).testBit sample else sample == lastSample mask
  match mosaicOf v y with
  | none => none
  | some yy =>
    if !mine || !r.selects (y / 4) then none
    else
      let ys := members v yy
      let row := if binDiv v = 1 then y else binFoot v * (y / binFoot v)
      let gain := fun i => match s.rowOf fn y i with
        | some c => bits c.tag 20 2
        | none => 0
      let cols := winCols v r
      if visRaw v then
        let cells := s.rowCells v (winRects v) fn yy sample
        some (packBits 12 (cols.map (fun x => (cells.getD x (0, 0, false)).2.1)),
          rowTag (row + 48) sample (s.tagOr fn ys [sample]) (gain sample) 0 fn)
      else
        let px := (s.rowPx fn yy).filter (fun p => cols.contains p.x)
        some (packBits (visDepth v) (px.map (fun p => if p.mg.missing then 0 else compand v p.mg.m)),
          rowTag (row + 48) 0 (s.tagOr fn ys (samplesOf mask)) (gain 0) 0 fn)

/-- The window of a stream of a view: of DISP, CODE, or vision window n. -/
def streamWin (v : View) (stream : Nat) : Option WinRect :=
  if stream = 1 then dispWin v
  else if stream = 3 then (winRects v).find? (fun w => w.code)
  else if 0x10 ≤ stream ∧ stream < 0x20 then (winRects v).find? (fun w => w.idx == stream - 0x10)
  else none

/-- The rows of vision frames that a row and sample completes. -/
def State.visRows (s : State) (fn y sample : Nat) : State :=
  let v := s.viewOf fn
  (s.out.live.filter (fun f => 0x10 ≤ f.stream && f.stream < 0x20 && f.fn == fn)).foldl (fun (t : State) f =>
    match (streamWin v f.stream).bind (fun r => t.visRow v r fn y sample) with
    | some (ws, tag) =>
      let (g, u) := t.addRowTo f ws tag
      u.setFrame f g
    | none => t) s

/-! ### Display A -/

/-- The last sample of a window's rows that a stream needs. -/
def lastNeeded (v : View) (stream : Nat) : Nat :=
  let sel := fld v F.OUT_VIS_SAMPLESEL &&& vMask v
  if 0x10 ≤ stream ∧ stream < 0x20 ∧ visRaw v = true ∧ sel ≠ 0 then
    (samplesOf sel).foldl max 0
  else lastSample (vMask v)

/-- The picture rows, first and last, that output line `l` of display A is formed from (R105, R369, R371): two rows around each
source position of the line. -/
def lineRows (v : View) (d : DispView) (l : Nat) : Nat × Nat :=
  let l := if 2 ≤ fld v F.OUT_DFMT_ORIENT then d.oh - 1 - l else l
  let den := max 1 (d.oh - 1)
  let top := d.h - 1
  let row := fun (num dd : Nat) => min top (num / dd)
  if vtst v F.OUT_DFMT_MESH_EN then
    let j := min 63 (64 * l / den)
    let fr := 64 * l - j * den
    let ys := (List.range 65).map (fun i => meshY v i j * (den - fr) + meshY v i (j + 1) * fr)
    let lo := ys.foldl min (ys.headD 0)
    let hi := ys.foldl max 0
    (row lo (16 * den), min top (row hi (16 * den) + 1))
  else
    let n := d.cy * den + l * (d.ch - 1)
    (row n den, min top (row n den + 1))

/-- The array rows that an output line of display A needs. -/
def lineSources (v : View) (r : WinRect) (d : DispView) (l : Nat) : List Nat :=
  let p := lineRows v d l
  ((List.range (p.2 + 1 - p.1)).map (fun i => p.1 + i)).flatMap (pictureRows v r)

/-- Width and lines of a display A frame, in its fallback of half size or not (R368, R387). -/
def dispSize (v : View) (half : Bool) : Nat × Nat :=
  match dispView v with
  | some d => if half then (d.ow / 2, d.oh / 2) else (d.ow, d.oh)
  | none => (0, 0)

/-- Whether display A runs in the half size fallback, or at half rate (R387). -/
def State.halfSize (s : State) (v : View) : Bool := s.out.fallback && !vtst v F.OUT_DFMT_FALLBACK
def State.halfRate (s : State) (v : View) : Bool := s.out.fallback && vtst v F.OUT_DFMT_FALLBACK

/-- The view of display A's lines in the fallback of half size: every mesh node and the output size scaled by 1/2. -/
def dispLineView (v : View) (half : Bool) : Option DispView :=
  (dispView v).map (fun d => if half then { d with ow := d.ow / 2, oh := d.oh / 2 } else d)

/-- Source x of mesh node (i, j) of the bank that a view selects, in 1/16 pixel (R369). -/
def meshX (v : View) (i j : Nat) : Nat := bits (v (wkey 0x0D00 (4225 * ((v keyBank).toNat % 2) + 65 * j + i))) 0 16

/-- The source position of output pixel (x, y) in the processed picture (R369, R371), limited to the window. -/
def sourceOf (v : View) (d : DispView) (x y : Nat) : Rat × Rat :=
  let o := fld v F.OUT_DFMT_ORIENT
  let x := if o % 2 = 1 then d.ow - 1 - x else x
  let y := if 2 ≤ o then d.oh - 1 - y else y
  let dx := max 1 (d.ow - 1)
  let dy := max 1 (d.oh - 1)
  let p : Rat × Rat :=
    if vtst v F.OUT_DFMT_MESH_EN then
      let i := min 63 (64 * x / dx)
      let j := min 63 (64 * y / dy)
      let tx : Rat := ((64 * x - i * dx : Nat) : Rat) / (dx : Rat)
      let ty : Rat := ((64 * y - j * dy : Nat) : Rat) / (dy : Rat)
      let at_ := fun (m : Nat → Nat → Nat) =>
        (((1 - tx) * (1 - ty) * (m i j : Nat) + tx * (1 - ty) * (m (i + 1) j : Nat) + (1 - tx) * ty * (m i (j + 1) : Nat) +
          tx * ty * (m (i + 1) (j + 1) : Nat)) / 16 : Rat)
      (at_ (meshX v), at_ (meshY v))
    else
      ((d.cx : Rat) + ((x * (d.cw - 1) : Nat) : Rat) / (dx : Rat), (d.cy : Rat) + ((y * (d.ch - 1) : Nat) : Rat) / (dy : Rat))
  (minR ((d.w - 1 : Nat) : Rat) (maxR 0 p.1), minR ((d.h - 1 : Nat) : Rat) (maxR 0 p.2))

/-- Y, U and V sampled bilinearly from the 2 × 2 pixels around a position (R369). -/
def sampleAt (d : DispView) (rows : Array (Array Yuv)) (p : Rat × Rat) : Yuv :=
  let ix := p.1.floor.toNat
  let iy := p.2.floor.toNat
  let tx := p.1 - (ix : Rat)
  let ty := p.2 - (iy : Rat)
  let px := fun (i j : Nat) => (rows.getD (min (d.h - 1) (iy + j)) #[]).getD (min (d.w - 1) (ix + i)) ⟨0, 512, 512⟩
  let mix := fun (f : Yuv → Nat) =>
    (1 - tx) * (1 - ty) * (f (px 0 0) : Rat) + tx * (1 - ty) * (f (px 1 0) : Rat) + (1 - tx) * ty * (f (px 0 1) : Rat) +
      tx * ty * (f (px 1 1) : Rat)
  ⟨settle 31 1023 (mix (fun q => q.y)), settle 32 1023 (mix (fun q => q.u)), settle 33 1023 (mix (fun q => q.v))⟩

/-- The chroma of each pixel pair of a line: the mean of the two pixels'. -/
def pairChroma : List Yuv → List (Nat × Nat)
  | a :: b :: l => (settle 34 1023 ((a.u + b.u : Nat) / (2 : Rat)), settle 35 1023 ((a.v + b.v : Nat) / (2 : Rat))) :: pairChroma l
  | [a] => [(a.u, a.v)]
  | [] => []

/-- A sample of 0 to 1 coded in the range of the settings at 10 bits. -/
def codeLevel (narrow : Bool) (q : Rat) : Nat := settle 36 1023 (if narrow then 64 + 876 * q else 1023 * q)

/-- A pixel in RGB at 10 bits, from Y and the mean of two neighbouring chroma samples: the inverse of the matrix of stage 11 (R373). -/
def toRgb (c : ColourSet) (y : Nat) (u w : Rat) : List Nat :=
  let span : Rat := if c.narrow then 896 else 1023
  let l : Rat := if c.narrow then ((y : Rat) - 64) / 876 else (y : Rat) / 1023
  let r := l + 2 * (1 - c.kr) * ((w - 512) / span)
  let b := l + 2 * (1 - c.kb) * ((u - 512) / span)
  let g := (l - c.kr * r - c.kb * b) / (1 - c.kr - c.kb)
  [r, g, b].map (codeLevel c.narrow)

/-- The words of a line in a display format (R373). -/
def lineWords (c : ColourSet) (format : Nat) (l : List Yuv) : List Word :=
  let ch := pairChroma l
  if format = 0 then
    packBits 10 ((l.zipIdx.filter (fun p => p.2 % 2 == 0)).flatMap (fun p =>
      let k := ch.getD (p.2 / 2) (512, 512)
      [k.1, p.1.y, k.2, (l.getD (p.2 + 1) p.1).y]))
  else
    let a := ch.toArray
    let n := a.size
    let rgb := l.zipIdx.flatMap (fun p =>
      let i := p.2 / 2
      let o := if p.2 % 2 = 0 then i - 1 else min (n - 1) (i + 1)
      let k := a.getD i (512, 512)
      let m := a.getD o (512, 512)
      toRgb c p.1.y ((k.1 + m.1 : Nat) / (2 : Rat)) ((k.2 + m.2 : Nat) / (2 : Rat)))
    if format = 1 then packBits 8 (rgb.map (fun x => min 255 (roundUp x 4))) else packBits 30 (groups3 rgb)
where
  /-- Three samples of 10 bits as one number. -/
  groups3 : List Nat → List Nat
    | a :: b :: e :: l => (a + b * 2 ^ 10 + e * 2 ^ 20) :: groups3 l
    | _ => []

/-- One line of a display A frame (R353, R369, R373): formed from the rows of a source picture, black where there is none. `ors` is
the OR of its source rows' tags. -/
def State.dispLine (s : State) (v : View) (f : StreamFrame) (src : Option (Array (Array Yuv))) (ors slip : Nat) : StreamFrame × State :=
  let l := f.tags.length
  let c := colourSetA v ((v keyTone).toNat % 2)
  let px := match dispLineView v (s.halfSize v) with
    | some d => (List.range d.ow).map (fun x =>
        match src with
        | some rows => sampleAt d rows (sourceOf v d x l)
        | none => c.black)
    | none => []
  s.addRowTo { f with slips := f.slips + slip } (lineWords c (fld v F.OUT_DFMT_FORMAT) px) (rowTag l 0 ors 0 slip f.src)

/-- Rows as an array. -/
def pixelRows (rows : List (List Yuv)) : Array (Array Yuv) := (rows.map (fun r => r.toArray)).toArray

/-- The rows of the DISP window's picture of a frame that are in the warp window (R367). -/
def State.dispSource (s : State) (v : View) (r : WinRect) (fn : Nat) : List (List Yuv) := (s.workOf fn).elim [] (fun w => w.crop v r)

/-- The source picture of display A goes on as its frame is completed (R367). -/
def State.keepSource (s : State) (fn : Nat) : State :=
  let v := s.viewOf fn
  match dispWin v with
  | some r => if s.out.srcFn = some fn then { s with out := { s.out with srcPic := s.dispSource v r fn } } else s
  | none => s

/-- The lines of a display A frame from its next one on, as far as their source rows are in the warp window, at most `n` of them. -/
def State.readyLines (s : State) (v : View) (r : WinRect) (d : DispView) (src : Array (Array Yuv)) : Nat → StreamFrame → StreamFrame × State
  | 0, f => (f, s)
  | n + 1, f =>
    let l := f.tags.length
    if d.oh ≤ l then (f, s)
    else if (lineRows v d l).2 < src.size then
      let (g, t) := s.dispLine v f (some src) (s.tagOr f.fn (lineSources v r d l) (samplesOf (vMask v))) 0
      t.readyLines v r d src n g
    else (f, s)

/-- The display A frame of the frame being converted, if it is in progress. -/
def State.dispLive (s : State) (fn : Nat) : Option StreamFrame :=
  s.out.live.find? (fun f => f.stream == 1 && f.fn == fn && !f.rep)

/-- The lines of display A that new rows complete are sent (R374). -/
def State.dispRows (s : State) (fn : Nat) : State :=
  let v := s.viewOf fn
  match s.dispLive fn, dispWin v, dispLineView v (s.halfSize v) with
  | some f, some r, some d =>
    let (g, t) := s.readyLines v r d (pixelRows (s.dispSource v r fn)) (d.oh - f.tags.length) f
    t.setFrame f g
  | _, _, _ => s

/-! ### Headers -/

/-- FLAGS of the header of the frame being read (R351), but for LIT and AUTH. -/
def State.headerFlags (s : State) : Nat :=
  let v := s.live
  let j := s.tnrJ v s.tt.fn
  let seq := match s.exp.seq with
    | some r => r.frames.find? (fun (f : SeqFrame) => f.fn == s.tt.fn)
    | none => none
  let ent := match (seq : Option SeqFrame) with
    | some f => 2 ^ 14 + f.ent % 64 * 2 ^ 15
    | none => 0
  s.sys.mode + s.tt.lock * 2 ^ 4 + flag s.tt.slip * 2 ^ 6 + flag s.tt.absorbing * 2 ^ 7 + flag (j < 3) * 2 ^ 8 + (3 - j) * 2 ^ 9 +
    flag (s.sys.mode == 5) * 2 ^ 13 + ent + flag (s.sys.fw != .running) * 2 ^ 21 + flag (maskCount s.lnk.active < 4) * 2 ^ 23 +
    s.rd F.SP_FAULT_FAULT * 2 ^ 24 + flag (s.tst F.CNV_BAD_FAULT || (s.sys.black && s.sys.mode == 0xB)) * 2 ^ 25

/-- HFC of the reference frame that the frame being read chases (R350). -/
def State.chasedHfc (s : State) : Nat :=
  match s.tt.last with
  | some m =>
    if s.sys.mode = 4 then
      let vt := max 1 (s.rd F.TT_REF_VTOTAL_RL)
      let r := s.rlByRho
      let lines := (s.tt.clk - m.at_) * r.2 / max 1 r.1 + m.line + s.rd F.TT_LEAD_LEAD / 65536
      (m.hfc + roundUp (lines - s.tt.act0) vt) % 65536
    else 0
  | none => 0

/-- The highest of some sensors' readings (R350, R572), in 16 bits. -/
def State.hottestOf (s : State) (mine : Nat → Bool) : Nat :=
  match (s.usable.filter (fun p => mine p.1)).map (fun p => p.2) with
  | a :: l => unsigned 16 (l.foldl max a)
  | [] => 0

/-- The header of the frame being read at its start (R350), without its stream, B_s, LIT, AUTH and CRC; `apply` is the apply FN of
the set in force. -/
def State.headerWords (s : State) (apply : Nat) : List Word :=
  let v := s.live
  let bell := s.sys.mode == 5
  let cur := s.reg R.EXP_CUR
  let wins := (List.range 16).flatMap (fun n =>
    let w := winRect n (v (winAddr n 0)) (v (winAddr n 1)) (v (winAddr n 2))
    [v (winAddr n 0), w32 (w.bw + w.skip * 2 ^ 11 + flag w.disp * 2 ^ 13 + flag w.code * 2 ^ 14 + flag w.vis * 2 ^ 15 + w.bh * 2 ^ 16)])
  let en := (List.range 16).foldl (fun a n => a + flag (bit (v (winAddr n 2)) 0) * 2 ^ n) 0
  [w32 (1 + 2 ^ 16), w32 s.tt.fn, w32 s.tt.rp0Tb, w32 (s.tt.rp0Tb / 2 ^ 32), w32 s.headerFlags, w32 apply,
    w32 (bits cur 0 12 + bits (v R.CNV_RAMP) 0 8 * 2 ^ 12 + bits (v R.CNV_PED) 0 8 * 2 ^ 20),
    w32 (s.rd F.EXP_CURTL_TL + s.effNow * 2 ^ 20), v R.TT_RP, w32 (vVtotal v + s.tt.vcur * 2 ^ 16),
    w32 (vNrow v + fld v F.WIN_BIN_MODE * 2 ^ 13 + en * 2 ^ 16), w32 (if bell then s.rd F.BEL_LAT_SLOTS else 0)] ++ wins ++
  [v R.SP_LAW,
    w32 (fld v F.SP_BAND_BAND + fld v F.SP_CTRL_EN * 2 ^ 6 + fld v F.SP_CTRL_ACTION * 2 ^ 7 + fld v F.SP_CTRL_AE_COMP * 2 ^ 9 +
      fld v F.SP_CTRL_FORCE_K * 2 ^ 10 + s.rd F.SP_STAT_MASKGEN * 2 ^ 14),
    w32 (bits (v R.EXP_MOTION) 0 11), v R.EXP_MTH_HCG, v R.EXP_MTH_LCG, v R.EXP_MTH_LOFIC,
    w32 (fld v F.PA_DGAIN_GAIN + bits (v R.PA_CTRL) 0 9 * 2 ^ 16), v R.PA_WB0, v R.PA_WB1, 0#32, 0#32,
    w32 (if bell then s.bel.lastTb else 0), w32 (if bell then s.bel.lastTb / 2 ^ 32 else 0), s.reg R.TT_PHASE,
    w32 (unsigned 20 s.corrPpm), w32 s.chasedHfc, w32 (s.hottestOf (fun n => n < 2) + s.hottestOf (fun _ => true) * 2 ^ 16)] ++
  List.replicate 66 0#32

/-- The header of a stream frame of the frame being read, when the stream frame begins: B_s, BLC_HOLD, LIT and AUTH as they are
now (R350, R351). -/
def State.headerFor (s : State) (stream : Nat) (auth : Bool) : List Word :=
  let h := (s.out.hdr.modify 4 (fun w => w32 (w.toNat + flag s.pix.held * 2 ^ 11 + flag (s.litFrame s.tt.fn) * 2 ^ 12 + flag auth * 2 ^ 22)))
  let h := (h.set 53 (w32 (s.blackOf 0 + s.blackOf 1 * 2 ^ 16))).set 54 (w32 (s.blackOf 2 + s.blackOf 3 * 2 ^ 16))
  closeHeader stream h

/-! ### Footers -/

/-- How many tags have one of their bits set, saturating at 16 bits. -/
def tagCount (tags : List Word) (i : Nat) : Nat := min 65535 (tags.filter (fun w => bit w i)).length

/-- The first 48 words of a footer (R352). -/
def State.footerWords (s : State) (f : StreamFrame) : List Word :=
  let v := s.viewOf f.fn
  let fails := match streamWin v f.stream with
    | some r => (s.pix.rows.filter (fun c => c.fn == f.fn && c.codes.isEmpty && decide (48 ≤ c.row) && r.selects ((c.row - 48) / 4))).length
    | none => 0
  let px := s.framePx f.fn
  let n := fun i => tagCount f.tags i
  let k := ksumOf (s.appliedRows f.fn)
  let tally := if f.fn = s.tt.fn then s.out.tally else s.out.tallyPrev
  [w32 (2 + f.stream * 2 ^ 8 + 2 ^ 16), w32 (bits (f.hdr.getD 1 0#32) 0 32), w32 (min 65535 f.tags.length + min 65535 f.slips * 2 ^ 16),
    w32 (n 15 + n 16 * 2 ^ 16), w32 (n 17 + n 18 * 2 ^ 16), w32 (n 19 + min 65535 fails * 2 ^ 16),
    w32 (min (2 ^ 24 - 1) (px.filter (fun p => p.mg.motion)).length),
    w32 (if f.stream = 1 ∨ f.stream = 3 then min (2 ^ 24 - 1) (s.dynamicCount f.fn) else 0), w32 (k.1 + k.2 * 2 ^ 24),
    w32 (min 255 tally.uncorr + min 65535 tally.mismatch * 2 ^ 8), w32 (min 65535 (s.lateCount f.fn)), crc32c f.crcs] ++ List.replicate 36 0#32

/-- A stream frame ended with a footer of which the first 48 words are given: its liveness record, its CRC, FOOTER (R352, R364). -/
def State.endFrame (s : State) (f : StreamFrame) (base : List Word) : List Word × State :=
  let (g, t) := s.closeRows f
  let r := match g.auth with
    | some a => t.record g a g.hdr base
    | none => (List.replicate 15 0#32, t)
  let body := base ++ r.1
  let all := body ++ [crc32c body]
  let t := r.2.framePacket g 6 all
  (all, { t with out := { t.out with live := t.out.live.filter (fun x => x != f) } })

/-- What the display monitor and the first-displayable test make of a display A footer (R496, R661). -/
def State.dispEnded (s : State) (f : StreamFrame) : State :=
  let t : State := { s with saf := { s.saf with dispFooterAt := s.tt.clk } }
  let t := if f.rep then t else t.monitorSource f.src
  t.checkDisplayable f.fn

/-- The side data of a vision frame: K of every block of its window, eight to a word (R383). -/
def sideWords (r : WinRect) (rows : List BlockRow) : List Word :=
  r.rows.flatMap (fun b => packBits 4 ((List.range (8 * ceilDiv r.bw 8)).map (fun i =>
    if i < r.bw then mapByte rows (r.bx0 + i) b % 16 else 0)))

/-- Words sent in packets of a type with their byte offsets, 4,096 words each, and each covered as a unit (R363, R419, R627). -/
def State.sendSplit (s : State) (f : StreamFrame) (ptype : Nat) : Nat → Nat → List Word → StreamFrame × State
  | 0, _, _ => (f, s)
  | n + 1, off, ws =>
    if ws.isEmpty then (f, s)
    else
      let g : StreamFrame := { f with macs := f.macs ++ s.unitMac f (bytesOf (ws.take 4093)) }
      (s.framePacket f ptype (w32 off :: ws.take 4093)).sendSplit g ptype n (off + 4 * 4093) (ws.drop 4093)

/-- Whether every row of a window is on the logic die in the sample that ends a stream. -/
def State.winDone (s : State) (v : View) (stream fn : Nat) : Bool :=
  match (streamWin v stream).bind (fun r => r.rows.getLast?) with
  | some b => (s.rowOf fn (4 * b + 3) (lastNeeded v stream)).isSome
  | none => s.framePxDone fn

/-- A vision frame of which every row was sent ends; where it carries side data, once the frame's map is complete (R382, R383). -/
def State.endVision (s : State) (mapDone : Bool) (f : StreamFrame) : State :=
  let v := s.viewOf f.fn
  let side := vtst v F.OUT_VIS_SIDE
  if !s.winDone v f.stream f.fn || (side && !mapDone) then s
  else
    let (g, t) := s.closeRows f
    let t := t.setFrame f g
    let ws := match streamWin v f.stream with
      | some r => if side then sideWords r (s.appliedRows f.fn) else []
      | none => []
    let (h, t) := t.sendSplit g 5 (ws.length / 4093 + 1) 0 ws
    let t := t.setFrame g h
    (t.endFrame h (t.footerWords h)).2

/-- The tags that the rows of a picture would carry, as their source rows have them. -/
def State.pictureTags (s : State) (v : View) (r : WinRect) (fn : Nat) : List Word :=
  (List.range (pictureSize v r).2).map (fun p =>
    let ys := pictureRows v r p
    rowTag p 0 (s.tagOr fn ys (samplesOf (vMask v))) 0 0 fn)

/-- The words of a codestream (R377, R378): of a picture at a rate in 1/16 bpp, `bytes` long, padded to a whole word. -/
def codeStream (pic : List (List Yuv)) (bpp bytes : Nat) : List Word :=
  let p := pic.map (fun r => r.map (fun q => (q.y, q.u, q.v)))
  wordsOf ((List.range bytes).map (Config.codeByte p bpp)) (ceilDiv bytes 4)

/-- A coding frame ends: its codestream, its footer, and the record that the Chalkboard takes (R377 to R380, R576, R644). -/
def State.endCoding (s : State) (f : StreamFrame) : State :=
  let v := s.viewOf f.fn
  match streamWin v 3 with
  | none => s
  | some r =>
    let p := pictureSize v r
    let pic := s.dispSource v r f.fn
    if pic.length < p.2 then s
    else
      let bpp := fld v F.OUT_CODE_BPP
      let bytes := codeBytes bpp p.1 p.2
      let code := codeStream pic bpp bytes
      let g : StreamFrame := { f with tags := s.pictureTags v r f.fn, first := p.2 }
      let (h, t) := (s.setFrame f g).sendSplit g 4 (code.length / 4093 + 1) 0 code
      let (ftr, t) := (t.setFrame g h).endFrame h (t.footerWords h)
      let rb := fld v F.OUT_CODE_REC_BPP
      let own := decide (rb ≠ 0) && t.thm.level == 0
      if 2 ≤ t.thm.level then t
      else
        let n := if own then codeBytes rb p.1 p.2 else bytes
        { t with rec_ := { t.rec_ with
          formed := some ⟨1, f.fn, w32 p.1, n, f.hdr, ftr, if own then codeStream pic rb n else code⟩ } }

/-- A display A frame of which every line was sent ends, and becomes the source of what repeats it (R367, R375). -/
def State.endDispA (s : State) (f : StreamFrame) : State :=
  let v := s.viewOf f.fn
  if f.tags.length < (dispSize v (s.halfSize v)).2 then s
  else
    let (ftr, t) := s.endFrame f (s.footerWords f)
    let pic := match dispWin v with
      | some r => s.dispSource v r f.fn
      | none => []
    State.dispEnded { t with out := { t.out with srcFn := some f.src, srcHdr := f.hdr, srcFtr := ftr, srcPic := pic } } f

/-- The stream frames of a frame that its last conversion completes. -/
def State.endStreams (s : State) (fn : Nat) (mapDone : Bool) : State :=
  (s.out.live.filter (fun f => f.fn == fn && !f.rep)).foldl (fun (t : State) f =>
    if f.stream = 1 then t.endDispA f
    else if f.stream = 3 then t.endCoding f
    else if f.stream = 2 then
      if t.framePxDone fn then (t.endFrame f (t.footerWords f)).2 else t
    else t.endVision mapDone f) s

/-! ### The start of stream frames -/

/-- A stream frame that begins now. -/
def State.newFrame (s : State) (stream src : Nat) (rep : Bool) (onLink : Bool) (hdr : Bool → List Word) : StreamFrame :=
  let a := s.authCtx stream
  ⟨stream, s.tt.fn, src, rep, onLink, 0, a, hdr a.isSome, [], [], [], 0, []⟩

/-- Whether the frame being read has a bit in its list entry: DISP, CODE or VIS (R158); every frame outside a sequence has all. -/
def State.seqBit (s : State) (i : Nat) : Bool :=
  match s.seqEntry s.tt.fn with
  | some w => bit w i
  | none => true

/-- FRAME_START w2 (R363). -/
def sizeWord (w h : Nat) : Word := w32 (w % 8192 + h % 8192 * 2 ^ 16)

/-- Display A repeats its source picture whole (R375). -/
def State.repeatDispA (s : State) : State :=
  match s.out.srcFn with
  | none => s
  | some src =>
    let v := s.live
    let half := s.halfSize v
    let sz := dispSize v half
    let f := s.newFrame 1 src true true (fun _ => s.out.srcHdr)
    let t := s.beginFrame f (sizeWord sz.1 sz.2) (w32 (fld v F.OUT_DFMT_FORMAT + 16 + flag s.out.fallback * 32)) 0
    let pic := pixelRows s.out.srcPic
    let (g, t) := (List.range sz.2).foldl (fun (p : StreamFrame × State) _ => p.2.dispLine v p.1 (some pic) 0 0) (f, t)
    let t := t.setFrame f g
    let t := (t.endFrame g (t.out.srcFtr.take 48)).2
    (t.bump F.OUT_REPEAT_COUNT).dispEnded g

/-- Display A begins its frame of the frame being read (R365, R375, R387), where it sends one. -/
def State.beginDispA (s : State) : State :=
  let v := s.live
  let fn := s.tt.fn
  if !displayRouted v || !s.canSend || (s.sys.black && s.sys.mode == 0xB) || (s.halfRate v && fn % 2 == 1) || (s.dispLive fn).isSome then s
  else if !s.seqBit 16 then s.repeatDispA
  else
    let sz := dispSize v (s.halfSize v)
    let f := s.newFrame 1 fn false true (s.headerFor 1)
    s.beginFrame f (sizeWord sz.1 sz.2) (w32 (fld v F.OUT_DFMT_FORMAT + flag s.out.fallback * 32)) 0

/-- Coding begins its frame (R365, R377). -/
def State.beginCoding (s : State) : State :=
  let v := s.live
  match streamWin v 3 with
  | none => s
  | some r =>
    if !s.seqBit 17 || s.thm.level == 2 then s
    else
      let p := pictureSize v r
      let f := s.newFrame 3 s.tt.fn false (vtst v F.OUT_ROUTE_CODE && !s.streamShed 3 && s.canSend) (s.headerFor 3)
      s.beginFrame f (sizeWord p.1 0) 3#32 (codeBytes (fld v F.OUT_CODE_BPP) p.1 p.2)

/-- Vision begins its frames (R365, R382). -/
def State.beginVision (s : State) : State :=
  let v := s.live
  if !vtst v F.OUT_ROUTE_VIS || s.streamShed 0x10 || !s.canSend || !s.seqBit 18 then s
  else ((winRects v).filter (fun w => w.vis)).foldl (fun (t : State) w =>
    let p := pictureSize v w
    let sel := fld v F.OUT_VIS_SAMPLESEL &&& vMask v
    let raw := visRaw v
    let f := t.newFrame (0x10 + w.idx) t.tt.fn false true (t.headerFor (0x10 + w.idx))
    t.beginFrame f (sizeWord p.1 (if raw then p.2 * maskCount sel else p.2))
      (w32 (if raw then 7 + sel * 2 ^ 8 else [4, 5, 6, 6].getD (fld v F.OUT_VIS_DEPTH) 4)) 0) s

/-- The streams of the frame being read begin. -/
def State.beginStreams (s : State) : State := s.beginDispA.beginCoding.beginVision

/-! ### Display B -/

/-- The header of the display B frame that begins (R350): the array header with the picture's companion fields. -/
def State.headerB (s : State) (cfn : Nat) (auth : Bool) : List Word :=
  let h := s.headerFor 2 auth
  let role := fun n => match s.pb.roles.find? (fun p => p.1 == n) with
    | some p => p.2
    | none => 0#32
  let mine := [w32 cfn, w32 (bits (s.prof 0) 0 16), role 1, role 2, role 3, w32 (s.rd F.PB_DGAIN_GAIN)]
  closeHeader 2 (h.take 61 ++ mine ++ (h.drop 67).take 60)

/-- Display B begins its frame at an array frame start (R324, R376): the newest READY buffer, else the one it last read again. -/
def State.dispBFrame (s : State) : State :=
  let on := s.tst F.OUT_ROUTE_DISPB && !s.streamShed 2 && s.canSend && (s.pb.state == 4 || s.pb.state == 5)
  let ready := s.pb.bufs.findSome? (fun b => match b with
    | .ready c => some c
    | _ => none)
  let sz := s.dispBSize s.live
  let send := fun (t : State) (f : StreamFrame) (rep : Nat) =>
    let u := t.beginFrame f (sizeWord sz.1 sz.2) (w32 (16 * rep)) 0
    let pic := pixelRows t.pb.shown
    let c := colourSetB t.live ((t.live keyToneB).toNat % 2)
    let p := (List.range sz.2).foldl (fun (q : StreamFrame × State) i =>
      let row := pic.getD i #[]
      q.2.addRowTo q.1 (lineWords c 0 ((List.range sz.1).map (fun x => row.getD x c.black))) (rowTag i 0 0 0 0 q.1.fn)) (f, u)
    p.2.setFrame f p.1
  match ready with
  | some c =>
    if !on then s
    else
      let f := s.newFrame 2 s.tt.fn false true (s.headerB c)
      let t : State := { s with pb := { s.pb with
        hdr := f.hdr,
        shown := (s.pb.pics.find? (fun p => p.fn == c)).elim [] (fun p => p.rows),
        bufs := s.pb.bufs.map (fun b => if b = .ready c then .reading c else match b with
          | .reading _ => .free
          | x => x) } }
      send t f 0
  | none =>
    if !on || s.pb.hdr.isEmpty then s
    else
      let f := s.newFrame 2 (bits (s.pb.hdr.getD 1 0#32) 0 32) true true (fun _ => s.pb.hdr)
      let t := send s f 1
      let g := (t.out.live.find? (fun x => x.stream == 2 && x.fn == f.fn && x.rep)).getD f
      ((t.endFrame g (t.footerWords g)).2).bump F.OUT_REPEAT_COUNT

/-! ### The black picture -/

/-- The black picture of LIMP (R498, R661): a display A frame with header and footer, sent at the frame start. -/
def State.blackPicture (s : State) : State :=
  let v := s.live
  if !(s.sys.black && s.sys.mode == 0xB) || !displayRouted v || !s.canSend then s
  else
    let sz := dispSize v (s.halfSize v)
    let f := s.newFrame 1 s.tt.fn false true (s.headerFor 1)
    let t := s.beginFrame f (sizeWord sz.1 sz.2) (w32 (fld v F.OUT_DFMT_FORMAT + flag s.out.fallback * 32)) 0
    let (g, t) := (List.range sz.2).foldl (fun (p : StreamFrame × State) _ => p.2.dispLine v p.1 none 0 0) (f, t)
    let t := t.setFrame f g
    ((t.endFrame g (t.footerWords g)).2).dispEnded g

end Sys2Proof.Machine
end

