-- ==== Sys2Proof/Machine/Modes.lean ====
section
/-!
DEFINITION. The operating modes: changes of mode (R487, R488), SET_MODE and GET_MODE (R491 to R493), entry to LIMP (R507), and
PARKING_WATCH (R505 to R512).
-/

namespace Sys2Proof.Machine

open Sys2Proof (Word Byte Pkt)

/-! ### Changes of mode -/

/-- FN of the next frame started (R112). -/
def State.nextFn (s : State) : Nat := if s.tt.started then fnNext s.tt.fn else 0

/-- When the first RP begins, on the free-running grid, that begins no earlier than `t` (R239, R488). -/
def State.gridRp (s : State) (t : Nat) : Nat :=
  let rp := 16 * s.rpNow
  if rp = 0 then t else s.tt.rp0 + ceilDiv (t - s.tt.rp0) rp * rp

/-- Frames begin to run in a mode entered while none ran (R488): the first event falls at the first RP of the free-running grid at
least 1 RP from now and after a pending set has been taken. In TRIGGERED mode events start them. -/
def State.startFrames (s : State) : State :=
  if s.sys.mode = 5 then { s with tt := { s.tt with startDue := none } }
  else
    let taken := match s.pend with
      | some p => p.reqAt + 16 * p.rp
      | none => 0
    let v := s.pendView
    let first := s.gridRp (max (s.tt.clk + 16 * s.rpNow) taken)
    { s with tt := { s.tt with startDue := some (first + leadSlots v * rpRaw v) } }

/-- TRIGGERED mode is left (R246): held and scheduled events go, and a pass of the sequence list that an event started ends with the
frame in progress. -/
def State.leaveTriggered (s : State) : State :=
  let t := s.bellLeave
  match t.exp.seq with
  | some r =>
    if r.trig then State.seqOver (if r.back then t else { t with taken := t.taken ++ [⟨t.nextFn, r.base⟩] }) r else t
  | none => t

/-- PARKING_WATCH is left, or Recess with STANDBY (R511, R528, R551): the rails leave Recess, and PLL-L and PLL-M lock again. -/
def State.leaveRest (s : State) : State :=
  let t : State := State.allPhases { s with pwr := { s.pwr with recess := false } }
  if s.sys.mode = 7 then
    let t := t.relock 3
    if t.sys.park.idle then (State.relock { t with sys := { t.sys with park := { t.sys.park with idle := false } } } 2) else t
  else t

/-- The lanes and CK go to electrical idle in PARKING_WATCH (R512, R528). -/
def State.lanesIdle (s : State) : State :=
  let t : State := { s with sys := { s.sys with park := { s.sys.park with idle := true } } }
  (t.pllOff 2).linkDown

/-- PARKING_WATCH is entered (R505, R510). -/
def State.enterParking (s : State) : State :=
  let t : State := { s with sys := { s.sys with park := { s.sys.park with
    refs := [], pics := [], since := s.tt.clk, frames := 0, moving := 0, holdoff := 0, tl := s.rd F.EXP_TL_SLOTS,
    lastTraffic := s.tt.clk } } }
  (t.pllOff 3).lanesIdle

/-- A mode takes effect (R487, R488): what leaving the old mode and entering the new one bring, MODE_CHANGED with the FN `fn` of the
first frame of the new mode or of the last frame read, and the answers that wait for it. -/
def State.enterMode (s : State) (m fn : Nat) : State :=
  let old := s.sys.mode
  let t := if old = 8 then s.calAbort else s
  let t := if old = 9 ∧ t.lnk.echo = true then
      State.wr { t with lnk := { t.lnk with echo := false } } F.LNK_LOOP_MODE 0
    else t
  let t := if old = 5 then t.leaveTriggered else t
  let t := if old = 7 ∨ old = 2 then t.leaveRest else t
  let t := if m ≠ 4 ∧ t.tt.lock ≠ 0 then t.lockFree else t
  let t : State := { t with sys := { t.sys with mode := m, prev := old, firstFn := fn, chg := none } }
  let t := t.event 0x11 [w32 (m + old * 16), w32 fn]
  let t := t.finishOp 0x03 0 fn []
  let t := if old = 4 then t.finishOp 0x21 0 fn [] else t
  let t := t.pbMode m
  let t := if (m = 2 ∨ m = 7) ∧ t.sys.fw = .running then t.warmWrite else t
  if m = 7 then t.enterParking else t

/-- A mode that takes effect while no frame runs. -/
def State.enterIdle (s : State) (m : Nat) : State :=
  if streamingMode m then (s.enterMode m s.nextFn).startFrames
  else
    let t := s.enterMode m s.tt.fn
    { t with tt := { t.tt with startDue := none } }

/-- Whether a frame is being read, or one that a Bell event has started is in its LEAD: it completes before a mode ends (R246). -/
def State.frameRuns (s : State) : Bool := s.tt.run || (s.sys.mode == 5 && s.tt.startDue.isSome)

/-- A mode change is decided (R488): it takes effect at once where no frame is being read. -/
def State.decideMode (s : State) (m : Nat) : State :=
  let t := if s.sys.mode = 4 then s.lockFree else s
  if t.frameRuns then { t with sys := { t.sys with chg := some ⟨m, t.tt.clk, none⟩ } } else t.enterIdle m

/-! ### SET_MODE and GET_MODE -/

/-- The targets that SET_MODE may select from a mode (R492). -/
def modeTargets (m : Nat) : List Nat :=
  if m = 2 ∨ m = 3 ∨ m = 4 then [2, 3, 5, 7, 8, 9, 0xA, 0xC]
  else if m = 5 ∨ m = 7 ∨ m = 8 ∨ m = 9 ∨ m = 0xA ∨ m = 0xC then [2, 3]
  else []

/-- SET_MODE once its checks 1 to 5 are passed (R491, R492, R509). -/
def setModeTo (target : Nat) (w1 : Word) (s : State) : Ans × State :=
  if s.lnk.test.isSome || s.lnk.loop.isSome || s.sys.chg.isSome then s.fin 8 []
  else
    let t : State := if target = 7 then
        { s with sys := { s.sys with park := { s.sys.park with
            dth := max 1 (bits w1 0 8), ncell := bits w1 8 16, nfrm := max 1 (bits w1 24 4), autostream := bit w1 28,
            record := bit w1 29 } } }
      else s
    (.later, { t with sys := { t.sys with chg := some ⟨target, t.tt.clk, none⟩ } })

/-- SET_MODE (R491, R492). The change is decided here and made once the command stands among the open ones (`applyMode`). -/
def srvSetMode (k : Pkt) (s : State) : Ans × State :=
  let cur := s.checkMode
  let target := pf k 0 0 4
  if cur = 0xB then s.param 0x16
  else if [0x0, 0x1, 0x4, 0x6, 0xB, 0xD, 0xE, 0xF].contains target then s.param 0x15
  else if target = cur then s.ok []
  else if !(modeTargets cur).contains target then s.param 0x16
  else if target = 7 ∧ pf k 1 8 16 = 0 then s.param 0x15
  else if target = 0xC then s.withTrailer 0x03 k true (setModeTo target 0#32)
  else setModeTo target (pw k 1) s

/-- A mode change that was just decided by a command takes its course (R488). -/
def State.applyMode (s : State) : State :=
  match s.sys.chg with
  | some c => if c.land.isNone && !s.frameRuns && s.sys.phase == .run then
      State.decideMode { s with sys := { s.sys with chg := none } } c.target
    else if s.sys.mode = 4 ∧ s.tt.lock ≠ 0 ∧ c.target ≠ 4 then s.lockFree
    else s
  | none => s

/-- GET_MODE w0 (R493), which SYS_MODE holds (R694). -/
def State.modeWord (s : State) : Word :=
  w32 (s.sys.mode + s.sys.prev * 16 + flag s.sys.warm * 256 + s.sys.hrSrc * 512 + s.sys.image * 2048 +
    (if s.sys.mode = 0xB then s.sys.limpCause else 0) * 4096)

/-- GET_MODE (R493). -/
def srvGetMode (_k : Pkt) (s : State) : Ans × State :=
  s.ok [s.modeWord, w32 s.sys.firstFn, w32 (s.sys.tExp + s.sys.tTake * 65536), w32 (s.sys.firstDisp.getD 0xFFFFFFFF), w32 s.sys.tDisp]

/-! ### LIMP -/

/-- LIMP is entered with the frame that starts (R507): the firmware halts, the boot ROM answers what it had begun and serves from now
on, the Homeroom settings apply, TNR resets, and ROM auto-exposure begins a new run (R497). -/
def State.enterLimp (s : State) (cause : Nat) : State :=
  let t := (s.fwHalt.answerBegun).limpSettings
  let t : State := { t with
    pix := { t.pix with tnrJ := [0, 0], hist := [[], []] },
    sys := { t.sys with fw := .limp, fwReady := false, limpDue := none, limpCause := cause, romAeClose := false, romStepFn := none } }
  (t.enterMode 0xB t.tt.fn).card 0x0B 0xFF []

/-! ### PARKING_WATCH -/

/-- A wake (R511): `cells` moving cells, 0 with `ext` for an external wake. The WAKE event goes before what waits. -/
def State.wake (s : State) (cells : Nat) (ext : Bool) : State :=
  let pl := [w32 cells, w32 (flag ext)]
  let t : State := { s with sys := { s.sys with wakeLow := some s.tt.clk } }
  let t : State :=
    if !t.sys.park.idle then t.event 0x15 pl
    else if t.fe.evMask.testBit 0x15 then t
    else { t with fe := { t.fe with waiting := .event 0x15 1 false (t.tt.fn % 2 ^ 22) pl :: t.fe.waiting } }
  let p := t.sys.park
  let t := if p.record then t.recRaise 1 p.pics p.autostream else t
  let t : State := { t with sys := { t.sys with park := { t.sys.park with
    idle := false, moving := 0, holdoff := p.nfrm, lastTraffic := t.tt.clk } } }
  let t := if p.idle then t.relock 2 else t
  if p.autostream then t.enterIdle 3 else t

/-- EXTERNAL_WAKE (R510): WAKE is held low by another driver for 1.0 ms while the device does not pull it. -/
def execExternalWake (s : State) : Host.Outcome State Fault Refusal :=
  .next (s.keepQueue (
    if s.sys.phase != .run || s.sys.mode != 7 || s.sys.wakeLow.isSome then s
    else (s.elapse (ms 1 + s.tt.clk)).wake 0 true))

/-- WAKE_PULSE_END (R511): the device releases WAKE after 10 ms. -/
def execWakePulseEnd (s : State) : Host.Outcome State Fault Refusal :=
  .next (s.keepQueue (
    match s.sys.wakeLow with
    | some a =>
      let t := s.elapse (ms 10 + a)
      { t with sys := { t.sys with wakeLow := none } }
    | none => s))

/-- PARKING_LINK_IDLE (R512): with AUTOSTREAM 0, 10 s without a command packet, no reply or event waiting. -/
def execParkingLinkIdle (s : State) : Host.Outcome State Fault Refusal :=
  .next (s.keepQueue (
    if s.sys.mode != 7 || s.sys.park.idle || !s.fe.waiting.isEmpty || !s.fe.events.isEmpty then s
    else (s.elapse (ms 10000 + s.sys.park.lastTraffic)).lanesIdle))

/-- A cell value (R505, R340): the log code of the sum in 1/16 count per slot of TL. -/
def cellValue (tl sum : Nat) : Nat := min 65535 (logCode (roundUp (16 * sum) tl))

/-- TL after a cell picture (R505): moved by at most 1 EV towards a mean cell sum of half of full range. -/
def parkTl (tl ped mean : Nat) : Nat :=
  let want := 32 * (4095 - ped)
  clampN 256 (16 * 4160 - 32) (clampN (ceilDiv tl 2) (2 * tl) (if mean = 0 then 2 * tl else roundUp (tl * want) mean))

/-- The frame record of a cell picture (R644): the header of a frame with HCG alone at RP 1.0 µs and VTOTAL 4,160, its cells two to a
word, and a footer without a liveness record. -/
def State.parkRecord (s : State) (tl : Nat) (cells : List Nat) : RecFrame :=
  let h := (((s.headerWords 0).set 6 (w32 (1 + 0xF00 + bits (s.live R.CNV_RAMP) 0 2 * 2 ^ 12 + bits (s.live R.CNV_PED) 0 8 * 2 ^ 20))).set 7
    (w32 tl))
  let h := (h.set 8 (w32 (1280 * 65536))).set 9 (w32 (4160 + 4160 * 65536))
  let f := [w32 (2 + 2 ^ 16), w32 s.tt.fn] ++ List.replicate 61 0#32
  ⟨2, s.tt.fn, w32 (512 + 512 * 65536), 524288, closeHeader 0 h, f ++ [crc32c f], packBits 16 cells⟩

/-- PARKING_FRAME (R505, R510): a cell picture is read, its cells compared with their references, and motion may wake the device.
`sums`: the HCG codes less PED of each cell, summed, in raster order. -/
def execParkingFrame (sums : List Nat) (s : State) : Host.Outcome State Fault Refusal :=
  .next (s.keepQueue (
    if s.sys.phase != .run || s.sys.mode != 7 then s
    else
      let p := s.sys.park
      let t := s.elapse (ms 500 + (ms 500 * p.frames + p.since))
      let t : State := { t with tt := { t.tt with fn := fnNext t.tt.fn, started := true } }
      let vals := sums.map (cellValue p.tl)
      let refs : List Rat := if p.frames = 0 then vals.map (fun v => ((v : Nat) : Rat)) else p.refs
      let moved := (vals.zip refs).filter (fun (q : Nat × Rat) =>
        let d : Rat := (q.1 : Rat) - q.2
        decide (((p.dth * 64 : Nat) : Rat) < (if d < 0 then -d else d)))
      let next := (vals.zip refs).map (fun (q : Nat × Rat) => q.2 + ((q.1 : Rat) - q.2) / 8)
      let ped := bits (t.live R.CNV_PED) 0 8
      let mean := sums.foldl (fun a b => a + b) 0 / max 1 sums.length
      let run := if p.ncell ≤ moved.length ∧ p.holdoff = 0 then p.moving + 1 else 0
      let pics := (p.pics ++ [t.parkRecord p.tl vals])
      let t : State := { t with sys := { t.sys with park := { t.sys.park with
        refs := next, pics := pics.drop (pics.length - 16), frames := p.frames + 1, moving := run, holdoff := p.holdoff - 1,
        tl := parkTl p.tl ped mean } } }
      if p.nfrm ≤ run ∧ 8 ≤ p.frames ∧ p.holdoff = 0 then t.wake moved.length false else t))

end Sys2Proof.Machine
end

