-- ==== Sys2Proof/Machine/Frames.lean ====
section
/-!
DEFINITION. The rows that happen in frames: frame starts and ends (R98, R488), COMMIT events (R112, R504), resets and reads (R41,
R42), strobe and LSTEP (R110, R114), conversions (R61), the closing of statistics sets (R338), and display lines (R374).
-/

namespace Sys2Proof.Machine

open Sys2Proof (Word Byte Pkt RowSample)

/-! ### The start of a frame -/

/-- The sets taken for frame `fn` or one before it come into force (R112, R197, R540). -/
def State.landSets (s : State) (fn : Nat) : State :=
  let mine := s.taken.filter (fun x => seqLe x.fn fn)
  let prev : Overlay := (mine.flatMap (fun x => x.ov.map (fun p => p.1))).map (fun k => (k, s.reg k))
  let old := s.live
  let t : State := { s with
    taken := s.taken.filter (fun x => !seqLe x.fn fn), pix := { s.pix with prevOv := prev } }
  let t := mine.foldl (fun (u : State) x =>
    let gen := u.maskChanges x.ov
    let w := u.land x.ov
    if gen then w.wr F.SP_STAT_MASKGEN (w.rd F.SP_STAT_MASKGEN + 1) else w) t
  let v := t.live
  let t := if rpRaw v != rpRaw old || vW v != vW old then
      t.wr F.TT_QUIET_NSYNC (nsyncFor (t.rd F.PWR_CORE_FSW_KHZ) (rpRaw v) (vW v)) else t
  if mine.isEmpty || t.tt.lock == 0 then t else t.setLead

/-- How many RP the frame that begins may be shortened without a promised frame failing R112 (R98). -/
def State.keepRp (s : State) : Nat :=
  let sets := s.taken.map (fun x => (x.fn, s.tt.clk)) ++
    (match s.pend with
      | some _ => [(s.rd F.TT_APPLYFN_FN, commitTime s (firstCommit s s.tt.clk 8 0))]
      | none => [])
  sets.foldl (fun a p =>
    let m := (p.1 + 2 ^ 32 - s.tt.fn) % 2 ^ 32
    if 8 < m then a
    else
      let v := s.viewFor p.1
      let first := frameStart s m - leadSlots v * rpRaw v
      min a ((first - p.2) / max 1 (16 * s.tt.rpCur))) 32

/-- EXP_CUR and EXP_CURTL of the frame that begins (R141, R151, R180). -/
def State.showExposure (s : State) (effPrev gap : Nat) : State :=
  let v := s.live
  let eff := effDs v effPrev gap
  State.wrs { s with exp := { s.exp with dsEff := eff } } [(F.EXP_CUR_MASK, vMask v), (F.EXP_CUR_Q, vQ v),
      (F.EXP_CUR_KCAP, s.kcapFor s.tt.fn v), (F.EXP_CUR_DSHORT_HI, eff / 256 % 16),
    (F.EXP_CUR_DSHORT_LO, eff % 256), (F.EXP_CURTL_TL, vTl v)]

/-- An enforcement level that lands with the frame (R576). -/
def State.landThermal (s : State) : State :=
  match s.thm.land with
  | some (level, fn) =>
    if seqLe fn s.tt.fn then
      let was := s.thm.level
      let t := (s.landLevel level s.tt.fn).abortShed.showShed
      if was = 2 ∧ level ≠ 2 then t.tnrClear else t
    else s
  | none => s

/-- A frame begins now, its RP 0 due at `at_` (R97, R98): the settings, mode and level that land with it, its blanking, and what every
frame start does. -/
def State.beginFrameNow (s : State) (at_ : Nat) : State :=
  let first := !s.tt.started
  let fn := s.nextFn
  let before := if first then none else some (s.tt.fn, s.live)
  let together := s.tt.run
  let effPrev := if together then s.effNow else 0
  let gap := vGap s.live s.tt.vcur
  -- the frame, its settings and its mode
  let t := s.landSets fn
  let t : State := { t with
    tt := { t.tt with
      fn := fn, started := true, run := true, rp0 := if t.tt.clk ≤ at_ then at_ else t.tt.clk, rp0Tb := t.tt.tb, startDue := none,
      vPrev := t.tt.vcur, joined := together, committed := t.tt.committed - 1 },
    exp := { t.exp with dsPrev := s.effNow },
    out := { t.out with tallyPrev := t.out.tally, tally := Tally.zero } }
  let t := match t.sys.chg with
    | some c => if c.land == some fn then t.enterMode c.target fn else t
    | none => t
  let t := match t.sys.limpDue with
    | some cause => t.enterLimp cause
    | none => t
  let applied := if s.taken.any (fun x => x.fn == fn) || t.sys.mode != s.sys.mode && t.sys.mode == 0xB then fn
    else (s.out.hdr.getD 5 0#32).toNat
  let v := t.live
  let t : State := { t with tt := { t.tt with rpCur := rpRaw v, vcur := vVtotal v } }
  let t := if t.tt.lock = 2 then t.absorb t.keepRp
    else if t.tt.lock = 1 ∧ t.tt.acqStep = 2 then t.acquireLengthen else t
  -- what a frame start does
  let t := t.seqFrame
  let t := match t.exp.seq with
    | some r => if r.trig then { t with bel := { t.bel with lastFn := r.last.getD (fnNext fn) } } else t
    | none => { t with exp := { t.exp with aeTl := vTl t.live } }
  let t := (t.showExposure effPrev gap).cnvFrame
  let t := (if together then t.spFrameEnd else t).spFrame first
  let t := (t.paFrame before (t.sys.mode == 0xB && s.sys.mode != 0xB)).quizFrame
  let t := t.landThermal.frameShed
  let t : State := { t with out := { t.out with hdr := t.headerWords applied } }
  let t : State := if !together || t.sys.mode == 5 then { t with saf := { t.saf with dispFooterAt := t.tt.clk } } else t
  let late := t.out.live.filter (fun f => f.fn != fn && f.fn != (fn + 2 ^ 32 - 1) % 2 ^ 32)
  let t := late.foldl (fun (u : State) f => u.abortFrame 3 f) t
  t.dispBFrame.blackPicture

/-- The pending set taken for the frame that TT_APPLYFN promises (R112). -/
def State.takePending (s : State) : State :=
  match s.pend with
  | some p =>
    State.takePb { s with pend := none, taken := s.taken ++ [⟨s.rd F.TT_APPLYFN_FN, p.ov.filter (fun w => !pbKey w.1)⟩] } p.ov
  | none => s

/-- The pending set is taken while no frame runs (R112): 1 RP after REQ. A frame that was to begin with it waits for it (R488). -/
def State.takeIdle (s : State) : State :=
  match s.pend with
  | some p =>
    if s.tt.run then s
    else
      let t := (s.elapse (p.reqAt + 16 * p.rp)).takePending
      if t.tt.startDue.isSome && t.sys.mode != 5 && t.tt.started && s.rd F.TT_APPLYFN_FN == t.nextFn then t.startFrames else t
  | none => s

/-- PENDING_SET_TAKEN (R112). -/
def execPendingSetTaken (s : State) : Host.Outcome State Fault Refusal := .next (s.keepQueue (s.takeIdle))

/-- Whether the frame after the one being read follows back to back in TRIGGERED mode: an event started it, a pass goes on, or the
mode changes with it. -/
def State.goesOn (s : State) : Bool :=
  let passes := match s.exp.seq with
    | some r => r.trig && r.frames.any (fun f => f.fn == fnNext s.tt.fn)
    | none => false
  let lands := match s.sys.chg with
    | some c => c.land == some (fnNext s.tt.fn) && c.target != 5
    | none => false
  s.tt.startDue.isSome || passes || lands

/-- The end of the frame being read. -/
def State.frameEndAt (s : State) : Nat := s.tt.rp0 + 16 * s.tt.vcur * s.tt.rpCur

/-- Whether the mode change that is decided keeps a further frame from starting (R488): its target reads no frames, or is TRIGGERED
and lands on the next frame. -/
def State.stopsFrames (s : State) : Bool :=
  match s.sys.chg with
  | some c => !streamingMode c.target || (c.target == 5 && c.land == some (fnNext s.tt.fn))
  | none => false

/-- Whether a frame follows the one being read back to back. -/
def State.nextJoins (s : State) : Bool :=
  s.sys.limpDue.isSome || !(s.stopsFrames || (s.sys.mode == 5 && !s.goesOn))

/-- What FRAME_START does (R98, R113, R507): the next frame starts where one follows; LIMP that is due starts one also where none
runs. -/
def State.frameStarts (s : State) : State :=
  let limp := s.sys.limpDue.isSome
  if s.sys.phase != .run then s
  else if s.tt.run then
    if !s.nextJoins then s
    else
      let at_ := max s.frameEndAt (s.tt.startDue.getD 0)
      (s.elapse (onCycle at_)).beginFrameNow at_
  else match s.tt.startDue with
    | some d =>
      let t := match s.pend with
        | some p =>
          if p.reqAt + 16 * p.rp ≤ d || s.sys.mode != 5 then s.takeIdle
          else if s.rd F.TT_APPLYFN_FN == s.nextFn then s.takePending else s
        | none => s
      let at_ := t.tt.startDue.getD d
      (t.elapse (onCycle at_)).beginFrameNow at_
    | none =>
      let at_ := s.gridRp (s.tt.clk + 16 * s.rpNow)
      if limp then (s.elapse (onCycle at_)).beginFrameNow at_ else s

/-- The frame being read ends and none follows it back to back (R67, R181, R204): a shadow table is copied, the errors of the Seating
Plan are judged, and a pass of the sequence list is over. -/
def State.frameStops (s : State) : State :=
  let t := s.calCopy.spFrameEnd.seqIdle
  { t with tt := { t.tt with run := false } }

/-- FRAME_END (R488): the frame being read ends. A change to a non-streaming mode takes effect, and stream frames in progress end in
ABORT; in TRIGGERED mode the array is idle until the next event. -/
def execFrameEnd (s : State) : Host.Outcome State Fault Refusal :=
  .next (s.keepQueue (
    if !s.tt.run then s
    else
      let t := s.elapse (onCycle s.frameEndAt)
      match t.sys.chg with
      | some c =>
        if !streamingMode c.target then (t.abortAll 2).frameStops.enterIdle c.target
        else if t.stopsFrames then t.frameStops.enterIdle 5
        else if t.sys.mode == 5 && !t.goesOn then t.frameStops.enterIdle c.target
        else t
      | none => if t.sys.mode == 5 && !t.goesOn then t.frameStops else t))

/-! ### COMMIT events -/

/-- The apply frame of the COMMIT event of frame fn + m, for sets that change no lead beyond those taken (R112). -/
def State.applyOf (s : State) (m : Nat) (new : View) : Nat :=
  let v := s.viewFor (s.tt.fn + m)
  let rp := if m = 0 then s.tt.rpCur else rpRaw v
  let old := s.takenView
  (s.tt.fn + m + applyAfter (commitTime s m) (frameStart s m) (16 * vVtotal v * rp) (leadSlots old * rp)
    (leadSlots new * rpRaw new)) % 2 ^ 32

/-- The firmware takes over from the boot ROM (R504, R490): it sets the locks of SEC and SAF (R692), and the change to START_MODE
lands on the apply frame of the COMMIT event that preceded. -/
def State.takeOver (s : State) (fn : Nat) : State :=
  let t := s.fwTakes
  let t := t.wrs [(F.SEC_ALARM_LVL_LOCK, 1), (F.SAF_WDOG_LOCK, 1)]
  { t with sys := { t.sys with
      tTake := min 65535 ((t.tt.clk - t.sys.origin) / us 10), chg := some ⟨t.startMode, t.tt.clk, some fn⟩ } }

/-- The COMMIT event of frame fn + m (R112, R488, R504, R576, R668). -/
def State.commitEvent (s : State) (m : Nat) : State :=
  let t := s.elapse (onCycle (commitTime s m))
  let t : State := { t with tt := { t.tt with committed := m + 1 } }
  let romPending := match t.pend with
    | some p => p.byRom
    | none => false
  let now := t.tt.clk
  let rp := 16 * t.tt.rpCur
  let due := match t.pend with
    | some p => if p.reqAt + 16 * p.rp ≤ now then some p else none
    | none => none
  let fn := if due.isSome then t.rd F.TT_APPLYFN_FN else t.applyOf m t.takenView
  let t := if due.isSome then t.takePending else t
  let t : State := match t.sys.chg with
    | some c =>
      if c.land.isNone && streamingMode c.target && decide (c.decided + rp ≤ now) then
        { t with sys := { t.sys with chg := some { c with land := some fn } } }
      else t
    | none => t
  let t := match t.thm.want with
    | some w => if w.2 + rp ≤ now then { t with thm := { t.thm with want := none, land := some (w.1, fn) } } else t
    | none => t
  let t := t.seqCommit m
  let t := if t.sys.fw == .rom && t.sys.fwReady && !romPending then t.takeOver fn else t
  t.switchNow

/-- What COMMIT_EVENT does: the COMMIT event of the frame being read, or of the next one where its template places it before that
frame. -/
def State.commitComes (s : State) : State :=
  if !s.tt.run then s
  else if s.tt.committed = 0 then s.commitEvent 0
  else if s.tt.committed = 1 ∧ commitSlot (s.viewFor (fnNext s.tt.fn)) < 0 then s.commitEvent 1
  else s

/-! ### The frames about now -/

/-- The effective D_S that holds for a view of this or the next frame: what the frame being read has, where its exposure is the same. -/
def State.effFor (s : State) (v : View) : Nat :=
  if v R.EXP_SAMPLES = s.live R.EXP_SAMPLES ∧ v R.EXP_TL = s.live R.EXP_TL ∧ v R.EXP_RATIO = s.live R.EXP_RATIO then s.effNow
  else effDs v s.effNow (vGap s.live s.tt.vcur)

/-- A frame about now: its number, its settings, its effective D_S, the exact time of its RP 0, its RP and its length in RP; and the
exact time and RP of the frame that follows it back to back. -/
structure FrameAt where
  fn : Nat
  v : View
  eff : Nat
  start : Int
  rp : Nat
  vt : Nat
  next : Option (Int × Nat)

/-- The exact time at which the window that begins at RP n of a frame begins, and the RP of the grid that it lies on: past its end, that
of the frame that follows. -/
def FrameAt.window (f : FrameAt) (n : Int) : Int × Nat :=
  match f.next with
  | some (t, rp) => if (f.vt : Int) ≤ n then (t + 16 * (n - f.vt) * rp, rp) else (f.start + 16 * n * f.rp, f.rp)
  | none => (f.start + 16 * n * f.rp, f.rp)

/-- The frame before the one being read, where that one followed back to back; the frame being read; and the next one, where it follows
or its event has been taken. -/
def State.framesAbout (s : State) : List FrameAt :=
  let next := s.nextFn
  let v1 := s.viewFor next
  if s.tt.run then
    let joins := s.nextJoins
    let prev := s.prevView
    let stop : Int := s.frameEndAt
    (if s.tt.joined then
      [⟨(s.tt.fn + 2 ^ 32 - 1) % 2 ^ 32, prev, s.exp.dsPrev, (s.tt.rp0 : Int) - (16 * s.tt.vPrev * rpRaw prev : Nat), rpRaw prev,
          s.tt.vPrev,
        some ((s.tt.rp0 : Int), s.tt.rpCur)⟩] else []) ++
    [⟨s.tt.fn, s.live, s.effNow, s.tt.rp0, s.tt.rpCur, s.tt.vcur, if joins then some (stop, rpRaw v1) else none⟩] ++
    (if joins then [⟨next, v1, s.effFor v1, stop, rpRaw v1, vVtotal v1, none⟩] else [])
  else match s.tt.startDue with
    | some d => [⟨next, v1, s.effFor v1, d, rpRaw v1, vVtotal v1, none⟩]
    | none => []

/-- The exact time of phase 0 of the window that reads the long samples of row y + 48. -/
def FrameAt.longAt (f : FrameAt) (row : Nat) : Option Int := (readRp f.v row).map (fun p => (f.window p).1)

/-- The exact time of phase 0 of the window that reads the short sample of a row, and the RP of its grid. -/
def FrameAt.shortAt (f : FrameAt) (row : Nat) : Option (Int × Nat) :=
  if vShort f.v then (readRp f.v row).map (fun _ => f.window (shortRp f.v f.eff row)) else none

/-- Where the long integration of the blocks of a row at index k begins, in slots from RP 0, for a row read at RP p (R42, R43). -/
def longStart (v : View) (p : Int) (k : Nat) : Int := 16 * p + 4 * vW v - placedLong (vTl v) k

/-- The exact time at which the short integration of the blocks of a row at index k begins (R42, R43). -/
def FrameAt.shortStart (f : FrameAt) (row k : Nat) : Option Int :=
  (f.shortAt row).map (fun w => w.1 + 12 * vW f.v * w.2 - placedShort (vTl f.v) k (vQ f.v) * f.rp)

/-! ### Resets and reads -/

/-- The frame that an event of a read row comes for next, and when: that of the frame being read if it has not passed, else that of
the next frame. `off` places the event in slots from the frame's RP 0 under its settings and the RP at which it reads the row. -/
def State.rowDue (s : State) (row : Nat) (off : View → Int → Int) : Option (Nat × Nat × View) :=
  let of := fun (fn start rp : Nat) (v : View) =>
    (readRp v row).map (fun p => (fn, onCycle ((start : Int) + off v p * (rp : Int)).toNat, v))
  let next := s.nextFn
  let v1 := s.viewFor next
  if s.tt.run then
    match of s.tt.fn s.tt.rp0 s.tt.rpCur s.live with
    | some r => if s.tt.clk ≤ r.2.1 then some r else of next s.frameEndAt (rpRaw v1) v1
    | none => of next s.frameEndAt (rpRaw v1) v1
  else match s.tt.startDue with
    | some d => of next d (rpRaw v1) v1
    | none => none

/-- ROW_RESET (R42, R194): the long integration of a row starts, and with the first row of a block row its indices are issued. -/
def execRowReset (row : Nat) (s : State) : Host.Outcome State Fault Refusal :=
  .next (s.keepQueue (
    match s.rowDue row (fun v p => longStart v p 0) with
    | some (fn, at_, _) =>
      let t := s.elapse at_
      if 48 ≤ row ∧ row % 4 = 0 then t.issueRow fn ((row - 48) / 4) else t
    | none => s))

/-- BLOCK_RESET (R42, R43): SGS falls in the blocks of a row at index k. -/
def execBlockReset (row k : Nat) (s : State) : Host.Outcome State Fault Refusal :=
  .next (s.keepQueue (
    match s.rowDue row (fun v p => longStart v p (min k 15)) with
    | some (_, at_, _) => s.elapse at_
    | none => s))

/-- When the short integration of a row begins next, that of its blocks at k = 0: in the first frame about now for which it has not
passed. -/
def State.shortDue (s : State) (row : Nat) : Option Nat :=
  s.framesAbout.findSome? (fun f => (f.shortStart row 0).bind (fun t =>
    if s.tt.clk ≤ onCycle t.toNat then some (onCycle t.toNat) else none))

/-- SHORT_RESET (R42, R59): the short integration of a row begins: RST opens, and SGS falls in its blocks at k = 0. In the blocks at
higher k SGS falls later, each at its own `FrameAt.shortStart`, as `State.sgs` has it. -/
def execShortReset (row : Nat) (s : State) : Host.Outcome State Fault Refusal :=
  .next (s.keepQueue (
    match s.shortDue row with
    | some at_ => s.elapse at_
    | none => s))

/-- LONG_READ (R41, R56, R110, R195): the read window of a row begins, LSTEP falls, and the row's long samples fill hold banks; with
the first row of a block row the applied-index record arrives. -/
def execLongRead (row : Nat) (record : List (Nat × Bool)) (s : State) : Host.Outcome State Fault Refusal :=
  .next (s.keepQueue (
    if !s.tt.run then s
    else match readRp s.live row with
    | some p =>
      let t := ((s.elapse (s.slotTime (16 * p))).lstepEdge false).fillBanks row p [0, 1, 2]
      if 48 ≤ row ∧ row % 4 = 0 then t.recordRow t.tt.fn ((row - 48) / 4) record else t
    | none => s))

/-- SHORT_READ (R41, R56, R59, R110): phases 12 to 15 read the short sample of a row, and it fills a hold bank. -/
def execShortRead (row : Nat) (s : State) : Host.Outcome State Fault Refusal :=
  .next (s.keepQueue (
    let v := s.live
    if s.tt.run && vShort v then
      match readRp v row with
      | some _ =>
        let n := shortRp v s.effNow row
        ((s.elapse (s.slotTime (16 * n + 12 * vW v))).lstepEdge false).fillBanks row n [3]
      | none => s
    else s))

/-! ### Strobe, SYNC_OUT and LSTEP -/

/-- Whether a frame's strobe events act: not where its context suppresses them (R157). -/
def State.strobeFrame (s : State) (fn : Nat) : Bool :=
  match s.seqFrameAt fn with
  | some f => bit f.ctx 10
  | none => true

/-- Whether a strobe event of a PERIOD and PHASE acts in a frame (R114). -/
def strobeActs (period phase fn : Nat) : Bool := ((fn : Int) - phase) % (period : Int) == 0

/-- The strobe events of a kind in a frame: its FN, when each comes, and whether it acts. -/
def State.strobesOf (s : State) (on : Bool) (fn start rp : Nat) (v : View) : List (Nat × Nat × Bool) :=
  (strobeSlots v on).map (fun p =>
    (fn, onCycle ((start : Int) + p.1 * (rp : Int)).toNat, strobeActs p.2.1 p.2.2 fn && s.strobeFrame fn))

/-- The next strobe event of a kind, of the frame being read or the next one: its frame, when it comes, and whether it acts. -/
def State.strobeDue (s : State) (on : Bool) : Option (Nat × Nat × Bool) :=
  let seen := if on then s.tt.strobeOnAt else s.tt.strobeOffAt
  let next := s.nextFn
  let v1 := s.viewFor next
  let all := (if s.tt.run then s.strobesOf on s.tt.fn s.tt.rp0 s.tt.rpCur s.live ++ s.strobesOf on next s.frameEndAt (rpRaw v1) v1
    else match s.tt.startDue with
      | some d => s.strobesOf on next d (rpRaw v1) v1
      | none => []).filter (fun e => decide (s.tt.clk ≤ e.2.1) && seen != some e.2.1)
  all.foldl (fun (a : Option (Nat × Nat × Bool)) e => match a with
    | some b => if e.2.1 < b.2.1 then some e else a
    | none => some e) none

/-- STROBE_ON (R114, R157, R275): STROBE_OUT is driven on, and the frame is lit. -/
def execStrobeOn (s : State) : Host.Outcome State Fault Refusal :=
  .next (s.keepQueue (
    match s.strobeDue true with
    | some (fn, at_, acts) =>
      let t := s.elapse at_
      let t : State := { t with tt := { t.tt with strobeOnAt := some at_ } }
      if acts then
        let u : State := { t with tt := { t.tt with strobe := true, lit := (fn :: t.tt.lit.filter (fun f => f != fn)).take 4 } }
        if u.tt.run && fn == u.tt.fn then u.wr F.PA_STAT_LIT 1 else u
      else t
    | none => s))

/-- STROBE_OFF (R114, R157). -/
def execStrobeOff (s : State) : Host.Outcome State Fault Refusal :=
  .next (s.keepQueue (
    match s.strobeDue false with
    | some (_, at_, acts) =>
      let t := s.elapse at_
      let t : State := { t with tt := { t.tt with strobeOffAt := some at_ } }
      if acts then { t with tt := { t.tt with strobe := false } } else t
    | none => s))

/-- The level of STROBE_OUT (R114, R120). -/
def State.strobeOut (s : State) : Bool := s.tt.strobe != s.tst F.TT_STROBE_POL

/-- The level of SYNC_OUT (R115), none while it is high impedance. -/
def State.syncOut (s : State) : Option Bool :=
  if s.tst F.TT_SYNC_EN then
    some ((s.tt.run && decide (s.pos < 16 * max 1 (s.rd F.TT_SYNC_WIDTH))) != s.tst F.TT_SYNC_POL)
  else none

/-- The runs of read windows of a frame (R40, R141): of each its first RP from the frame's RP 0 and its length; short-only windows
count. -/
def windowRuns (v : View) (eff : Nat) : List (Int × Nat) :=
  let sw := (readSweeps v).filter (fun p => decide (0 < p.2.2))
  let b := shortBase v eff
  sw.map (fun p => (p.1, p.2.2)) ++
    (if vShort v then sw.map (fun p => (p.1 + (b : Int), p.2.2 + (eff - b))) else [])

/-- The runs of read windows that lie about the frame being read, from its RP 0: those of the frame before it, its own, and those of
the frame that follows. -/
def State.windowRunsNow (s : State) : List (Int × Nat) :=
  let v1 := s.viewFor s.nextFn
  (if s.tt.joined then (windowRuns s.prevView s.exp.dsPrev).map (fun p => (p.1 - (s.tt.vPrev : Int), p.2)) else []) ++
    windowRuns s.live s.effNow ++
    (if s.nextJoins then (windowRuns v1 (s.effFor v1)).map (fun p => (p.1 + (s.tt.vcur : Int), p.2)) else [])

/-- Before which windows LSTEP rises (R110), in RP from the frame's RP 0: the first of the frame and of the one that follows, and the
first after 8 RP or more without a window. -/
def State.lstepWindows (s : State) : List Int :=
  let runs := s.windowRunsNow
  let firstOf := fun (v : View) => (readSweeps v).foldl (fun (a : Option Int) p => some (min p.1 (a.getD p.1))) none
  (firstOf s.live).toList ++ ((firstOf (s.viewFor s.nextFn)).toList.map (fun p => p + (s.tt.vcur : Int))) ++
    (runs.filter (fun p => !runs.any (fun o => decide (o.1 < p.1 ∧ p.1 < o.1 + o.2 + 8)))).map (fun p => p.1)

/-- When LSTEP rises (R101, R110): 2.0 µs before those windows, and at the LSTEP entries of a host's template that have a place. -/
def State.lstepRises (s : State) : List Nat :=
  let own := fun (v : View) (start rp : Nat) => ((vEntries v 0x0B).filter (fun e => !entAuto e.1)).map (fun e =>
    onCycle ((start : Int) + (16 * entPos e.1 + entSlot e.1) * (rp : Int)).toNat)
  let v1 := s.viewFor s.nextFn
  if s.tt.run then
    s.lstepWindows.map (fun p => s.slotTime (16 * p) - us 2) ++ own s.live s.tt.rp0 s.tt.rpCur ++ own v1 s.frameEndAt (rpRaw v1)
  else match s.tt.startDue with
    | some d => (onCycle d - us 2) :: own v1 d (rpRaw v1)
    | none => []

/-- LSTEP (R101, R110, R122, R542): it rises at the next of its times. -/
def execLstep (s : State) : Host.Outcome State Fault Refusal :=
  .next (s.keepQueue (
    let off := !s.tst F.TT_CTRL_LSTEP_EN && (s.sys.mode == 8 || s.sys.mode == 0xA)
    let due := s.lstepRises.filter (fun w => decide (s.tt.clk < w))
    match due.foldl (fun (a : Option Nat) t => some (min t (a.getD t))) none with
    | some w =>
      let t := s.elapse w
      if off then t else t.lstepEdge true
    | none => s))

/-! ### Conversions and statistics -/

/-- The set of a frame closes: with its map, where that is complete, and the side data that waited for it (R201, R338, R383, R496,
R630). -/
def State.closeFrame (s : State) (fn : Nat) : State :=
  let t := s.completeMap fn
  ((t.endStreams fn (t.sp.maps.any (fun m => m.1 == fn))).closeSet fn |>.quizClose fn).checkDisplayable fn

/-- What the last conversion of a frame completes (R180, R189, R295, R69, R660). -/
def State.frameConverted (s : State) (fn : Nat) : State :=
  let px := s.framePx fn
  let t := s.wrs [(F.PA_DEFCNT_COUNT, min (2 ^ 24 - 1) (s.dynamicCount fn)),
    (F.EXP_MOTCNT_COUNT, min (2 ^ 24 - 1) (px.filter (fun p => p.mg.motion)).length)]
  let t : State := match t.workOf fn with
    | some w => t.keepHistory (t.viewOf fn) w
    | none => t
  let t : State := (t.keepSource fn).quizConverters fn
  let t := if t.inBlanking then t.calCopy else t
  let n := if fn = t.tt.fn then t.out.tally.tagErr else t.out.tallyPrev.tagErr
  if 16 < n then t.faultC 20 else t.faultEnd 20

/-- One row and sample on the sample bus, with all that it completes. -/
def State.takeRow (s : State) (r : RowSample) : State :=
  let fn := (s.rowFrame r.prev).1
  let old := (fn + 2 ^ 32 - 2) % 2 ^ 32
  let t := if s.pix.opened.contains old then (s.closeFrame old).bump F.STA_LATECUT_COUNT else s
  let t := t.openSet fn
  let t := if decide (48 ≤ r.row) && !r.prev && !t.pix.rows.any (fun c => c.fn == fn && decide (48 ≤ c.row)) then
      (t.startPicture fn).beginStreams
    else t
  let was := t.framePxDone fn
  let last := r.sample == lastSample (vMask (t.viewOf fn))
  let t := t.convertRow r
  if r.row < 48 then t
  else
    let t := t.visRows fn (r.row - 48) r.sample
    let t := if last then ((t.advancePicture fn).dispRows fn).spLaw fn (r.row - 48) else t
    let t := if !was && t.framePxDone fn then t.frameConverted fn else t
    t.endStreams fn false

/-- CONVERSION_CYCLE (R58, R61): the rows and samples of one conversion cycle reach the logic die. -/
def execConversionCycle (rows : List RowSample) (s : State) : Host.Outcome State Fault Refusal :=
  .next (s.keepQueue (
    if s.sys.phase != .run || !s.tt.started || !(s.tt.run || streamingMode s.sys.mode) then s
    else rows.foldl (fun (t : State) r => t.takeRow r) (s.elapse (s.cycleEnd rows))))

/-- STATS_CUT (R101, R104, R338): the cut of the oldest open set. -/
def execStatsCut (s : State) : Host.Outcome State Fault Refusal :=
  .next (s.keepQueue (
    match s.pix.opened.find? (fun fn => !s.pix.cut.contains fn) with
    | some fn =>
      let v := s.viewOf fn
      let slot := match (vEntries v 9).head? with
        | some e => if entAuto e.1 then 16 * (cutRp v : Int) else 16 * entPos e.1 + entSlot e.1
        | none => 16 * (cutRp v : Int)
      let t := if fn = s.tt.fn then s.elapse (s.slotTime slot)
        else s.toSlot (slot.toNat / 16 - s.tt.vPrev) 0
      { t with pix := { t.pix with cut := t.pix.cut ++ [fn] } }
    | none => s))

/-- STATS_SET_CLOSE (R338): the set whose cut has come and whose last row is merged closes. -/
def execStatsSetClose (s : State) : Host.Outcome State Fault Refusal :=
  .next (s.keepQueue (
    match s.closing with
    | some fn => s.closeFrame fn
    | none => s))

/-! ### Display lines -/

/-- When display line `l` is due (R374): T_dev + H before the start of its reference line. -/
def State.lineDue (s : State) (l : Nat) : Nat :=
  let r := s.rlByRho
  let x : Int := (s.rd F.TT_LEAD_LEAD + l * 65536 : Nat) - signed 32 (s.reg R.TT_PHASE).toNat - (s.rd F.TT_CHASE_H * 256 : Nat)
  ((s.tt.rp0 : Int) + x * (r.1 : Int) / ((65536 * max 1 r.2 : Nat) : Int)).toNat - us 24

/-- The lines of a display A frame up to `l`, those whose source rows are missing with SLIP (R354, R374). -/
def State.dueLines (s : State) (v : View) (r : WinRect) (d : DispView) (l : Nat) : Nat → StreamFrame → StreamFrame × State
  | 0, f => (f, s)
  | n + 1, f =>
    if l < f.tags.length then (f, s)
    else
      let ys := lineSources v r d f.tags.length
      let ok := (s.pll 3).state == 2 && ys.all (fun y => s.rowIn v f.fn y)
      let src := pixelRows (s.dispSource v r f.fn)
      let (g, t) := if ok && decide ((lineRows v d f.tags.length).2 < src.size) then
          s.dispLine v f (some src) (s.tagOr f.fn ys (samplesOf (vMask v))) 0
        else (s.bump F.OUT_SLIP_COUNT).dispLine v f (if s.out.srcFn.isSome then some (pixelRows s.out.srcPic) else none) 0 1
      t.dueLines v r d l n g

/-- DISPLAY_LINE_DUE (R374): in LOCKED mode in TRACK a line of display A falls due. -/
def execDisplayLineDue (line : Nat) (s : State) : Host.Outcome State Fault Refusal :=
  .next (s.keepQueue (
    if !s.tt.run || s.sys.mode != 4 || s.tt.lock != 2 then s
    else
      let t := s.elapse (s.lineDue line)
      let fn := t.tt.fn
      let begun := t.pix.rows.any (fun c => c.fn == fn && decide (48 ≤ c.row))
      let t := if begun then t else t.beginDispA
      let v := t.live
      match t.dispLive fn, dispWin v, dispLineView v (t.halfSize v) with
      | some f, some r, some d =>
        let l := min line (d.oh - 1)
        let (g, t) := t.dueLines v r d l (l + 1) f
        (t.setFrame f g).endDispA g
      | _, _, _ => t))

end Sys2Proof.Machine
end

