-- ==== Sys2Proof/Machine/Gates.lean ====
section
/-!
DEFINITION. The lines between the dies as the state has them at its own time: the gates of the pixel array (R32 to R45, R51), and the
timing wires QUIET and SW_SYNC to the power die with the switching that follows them (R108, R109, R540, R541).
-/

namespace Sys2Proof.Machine

open Sys2Proof (Word)

/-! ### The gates of a row -/

/-- Whether now lies between two exact times, each on its counter cycle (R97). -/
def State.between (s : State) (a b : Int) : Bool := decide (onCycle a.toNat ≤ s.tt.clk) && decide (s.tt.clk < onCycle b.toNat)

/-- Whether the gates are biased: VPIX is on (R45). -/
def State.biased (s : State) : Bool := s.pwr.pgood.testBit 7

/-- A phase of the windows of a frame, in time on a grid of RP `rp` (R40). -/
def FrameAt.phase (f : FrameAt) (rp k : Nat) : Int := ((k * vW f.v * rp : Nat) : Int)

/-- The rows of the array that are never converted: guard rows, as y + 48 (R31, R32). -/
def guardRow (row : Nat) : Bool := decide (4144 ≤ row)

/-- The index at which a block integrates a row in a frame (R42): as recorded, else as issued; 0 for blocks outside the active array. -/
def State.blockK (s : State) (fn row : Nat) (bx : Int) : Nat :=
  if row < 48 ∨ bx < 0 ∨ 1023 < bx then 0
  else
    let by_ := (row - 48) / 4
    match (s.sp.applied ++ s.sp.issued).find? (fun r => r.fn == fn && r.by_ == by_) with
    | some r => r.vals.getD bx.toNat 0 % 16
    | none => 0

/-- Whether a block of the active array is one that failed Roll Call (R37). -/
def State.blockFailed (s : State) (row : Nat) (bx : Int) : Bool :=
  decide (48 ≤ row) && decide (0 ≤ bx) && s.bondFailed bx.toNat ((row - 48) / 4)

/-- An integration: when it begins, when TX ends it, and when SGS is high again (R41, R42). -/
structure Integration where
  start : Int
  stop : Int
  held : Int

/-- The integrations of a row in a block (R41, R42). -/
def State.integrations (s : State) (row : Nat) (bx : Int) : List Integration :=
  s.framesAbout.flatMap (fun f =>
    let k := s.blockK f.fn row bx
    ((f.longAt row).map (fun t =>
      ⟨t + f.phase f.rp 4 - ((placedLong (vTl f.v) k * f.rp : Nat) : Int), t + f.phase f.rp 4, t + f.phase f.rp 5⟩)).toList ++
    (match f.shortAt row, f.shortStart row k with
      | some w, some t => [⟨t, w.1 + f.phase w.2 12, w.1 + f.phase w.2 13⟩]
      | _, _ => []))

/-- Whether ARR_CTRL.SG_HOLD acts as 1 (R51). -/
def State.sgHold (s : State) : Bool := s.tst F.ARR_CTRL_SG_HOLD || !(s.sys.mode == 8 || s.sys.mode == 0xA)

/-- The shutter-gate select of row y + 48 in block column bx (R34, R37, R41, R42, R45, R51); none while the gates are unbiased. High
holds the photodiodes in reset. SGS stays low to the end of phase 4, or 12, in which TX pulses, and is high from the phase after. -/
def State.sgs (s : State) (row : Nat) (bx : Int) : Option Bool :=
  if !s.biased then none
  else if guardRow row || s.blockFailed row bx || s.framesAbout.isEmpty then some true
  else
    let phase : Int := ((vW s.live * s.rpNow : Nat) : Int)
    let ints := s.integrations row bx
    if s.sgHold then some (!ints.any (fun p => s.between p.start p.held))
    else some (ints.any (fun p => s.between (p.start - phase) p.start))

/-- The four lines of a row that its driver drives, and its transfer strobe (R35). -/
structure RowLines where
  rst : Bool
  dcg : Bool
  ls : Bool
  sel : Bool
  tx : Bool
  deriving DecidableEq, Repr

/-- The lines of an idle row (R45). -/
def RowLines.idle : RowLines := ⟨true, true, true, false, false⟩

/-- The lines of row y + 48 (R35, R41, R42, R45); none while the gates are unbiased. -/
def State.rowLines (s : State) (row : Nat) : Option RowLines :=
  if !s.biased then none
  else if guardRow row then some RowLines.idle
  else some (s.framesAbout.foldl (fun (r : RowLines) f =>
    let r := match f.longAt row with
      | some t =>
        let edge := fun k => t + f.phase f.rp k
        { r with
          rst := r.rst && !s.between (edge 0) (edge 10)
          dcg := r.dcg && !s.between (edge 2) (edge 6)
          ls := r.ls && !s.between (edge 4 - ((placedLong (vTl f.v) 0 * f.rp : Nat) : Int)) (edge 8)
          sel := r.sel || s.between (edge 0) (edge 12)
          tx := r.tx || s.between (edge 4) (edge 5) }
      | none => r
    match f.shortAt row, f.shortStart row 0 with
    | some w, some t =>
      let edge := fun k => w.1 + f.phase w.2 k
      { r with
        rst := r.rst && !s.between t (edge 14)
        sel := r.sel || s.between (edge 12) (edge 16)
        tx := r.tx || s.between (edge 12) (edge 13) }
    | _, _ => r) RowLines.idle)

/-! ### The selects of a block -/

/-- Whether the converter die holds TXS and OFS of a quiz block low: from the read window of its first row in the quiz's frame to the end
of its rows' last read (R630). -/
def State.quizHeld (s : State) (bx by_ : Nat) : Bool :=
  s.framesAbout.any (fun f => s.quizBlock f.fn bx by_ &&
    (match f.longAt (4 * by_ + 48) with
      | some t =>
        let ends := (List.range 4).flatMap (fun j =>
          ((f.longAt (4 * by_ + 48 + j)).map (fun u => u + f.phase f.rp 12)).toList ++
          ((f.shortAt (4 * by_ + 48 + j)).map (fun w => w.1 + f.phase w.2 16)).toList)
        s.between t (ends.foldl max t)
      | none => false))

/-- The transfer select of a block (R34, R35, R630); none while the gates are unbiased. -/
def State.txs (s : State) (bx by_ : Nat) : Option Bool := if s.biased then some (!s.quizHeld bx by_) else none

/-- The overflow select of a block (R34, R45, R51, R630); none while the gates are unbiased. -/
def State.ofs (s : State) (bx by_ : Nat) : Option Bool :=
  if s.biased then
    some (s.tst F.ARR_CTRL_LOFIC_EN && !s.quizHeld bx by_ &&
      (List.range 4).any (fun j => (s.integrations (4 * by_ + 48 + j) bx).any (fun p => s.between p.start p.stop)))
  else none

/-- Whether the transfer gates of a block's pixels in row j pulse: the strobe of the row and the select of the block together (R35). -/
def State.txGate (s : State) (bx by_ j : Nat) : Option Bool :=
  match s.rowLines (4 * by_ + 48 + j), s.txs bx by_ with
  | some r, some t => some (r.tx && t)
  | _, _ => none

/-- Which level a row's selected pixel carries in each phase of its window (R41): the sample, and whether it is the signal's. -/
def phaseLevel (k : Nat) : Nat × Bool :=
  if k < 2 then (1, false) else if k < 4 then (0, false) else if k < 6 then (0, true) else if k < 8 then (1, true)
  else if k < 10 then (2, true) else if k < 12 then (2, false) else if k < 14 then (3, true) else (3, false)

/-- What the outputs PXO of a block's pixels in row j carry (R34, R41): a sample, and whether it is its signal level; none while the row
is not selected. Where TXS is low no charge is transferred, and they carry the reset level (R35). -/
def State.pxo (s : State) (bx by_ j : Nat) : Option (Nat × Bool) :=
  let row := 4 * by_ + 48 + j
  let held := s.txs bx by_ == some false
  if !s.biased then none
  else s.framesAbout.findSome? (fun f =>
    (List.range 16).findSome? (fun k =>
      let at_ := if k < 12 then (f.longAt row).map (fun t => (t, f.rp)) else f.shortAt row
      at_.bind (fun w =>
        if s.between (w.1 + f.phase w.2 k) (w.1 + f.phase w.2 (k + 1)) then
          let l := phaseLevel k
          some (l.1, l.2 && !held)
        else none)))

/-- Where a pixel of row y + 48 in block column bx stands in the order of R44: 2 to 6 from its long integration to its short read; none
where its PD is held in reset between frames, steps 7 and 1. -/
def State.pixelStep (s : State) (row : Nat) (bx : Int) : Option Nat :=
  s.framesAbout.findSome? (fun f =>
    let k := s.blockK f.fn row bx
    (f.longAt row).bind (fun t =>
      let ended := t + f.phase f.rp 4
      let read := t + f.phase f.rp 12
      if s.between (ended - ((placedLong (vTl f.v) k * f.rp : Nat) : Int)) ended then some 2
      else if s.between ended read then some 3
      else match f.shortAt row, f.shortStart row k with
        | some w, some b =>
          let e := w.1 + f.phase w.2 12
          if s.between read b then some 4
          else if s.between b e then some 5
          else if s.between e (w.1 + f.phase w.2 16) then some 6 else none
        | _, _ => none))

/-! ### QUIET and SW_SYNC -/

/-- The first conversion start of a window and, for the samples that are taken in it, the ends of the phases that capture them (R56,
R58). -/
structure WindowTimes where
  conv : Int
  edges : List Int

/-- The phases at whose ends the levels of a sample are captured (R41). -/
def capturePhases (sample : Nat) : List Nat := [[3, 5], [1, 7], [9, 11], [13, 15]].getD sample []

/-- Whether the window that begins at RP n of a frame reads a short sample (R41, R59). -/
def FrameAt.readsShort (f : FrameAt) (n : Int) : Bool :=
  let sw := readSweeps f.v
  let b : Int := shortBase f.v f.eff
  let at_ := fun (m : Int) (moved : Bool) => match sweepRow sw (m - b) with
    | some i => r59Clash f.v sw i m == moved
    | none => false
  vShort f.v && (at_ n false || at_ (n - 1) true)

/-- The windows of a frame that can act on now: those that begin within 13 RP of it. -/
def FrameAt.windowsNear (f : FrameAt) (now : Int) : List WindowTimes :=
  let w := vW f.v
  let mask := vMask f.v
  let base := fun (t : Int) (rp : Nat) => (now - t) / ((16 * max 1 rp : Nat) : Int)
  let bases := base f.start f.rp :: (f.next.map (fun q => base q.1 q.2 + f.vt)).toList
  let near : List Int := bases.flatMap (fun b => (List.range 14).map (fun i => b + ((i : Nat) : Int) - 12))
  near.filterMap (fun n =>
    let long := (sweepRow (readSweeps f.v) n).isSome
    let short := f.readsShort n
    let taken := (List.range 4).filter (fun x => mask.testBit x && (if x = 3 then short else long))
    if taken.isEmpty then none
    else
      let at_ := f.window n
      some ⟨(f.window (conversionRp w f.vt n)).1, taken.flatMap (fun x => (capturePhases x).map (fun k => at_.1 + f.phase at_.2 (k + 1)))⟩)

/-- The conversion cycles of the converters about now: those of windows, of tracking in the blanking (R68), and of a full calibration
(R67). -/
def State.cyclesNear (s : State) (ws : List WindowTimes) : List Int :=
  let track := trackStart s.live s.effNow
  let w := vW s.live
  ws.map (fun x => x.conv) ++
    (if s.tt.run && s.tst F.CNV_CTRL_TRACK_EN && decide (track + 2 * w ≤ s.tt.vcur) then
      [track, track + w].map (fun n => (s.tt.rp0 : Int) + ((16 * n * s.tt.rpCur : Nat) : Int)) else []) ++
    (if s.cnv.calBusy then
      let k := (s.tt.clk - s.cnv.calAt) / us 4
      [k, k + 1].map (fun n => ((s.cnv.calAt + us 4 * n : Nat) : Int))
    else [])

/-- The spans about now in which the converters are sensitive (R61, R109): steps 1, 2 and 4 of a cycle, and 40 ns before a capture. -/
def State.busyNear (s : State) : List (Int × Int) :=
  let ws := s.framesAbout.flatMap (fun f => f.windowsNear s.tt.clk)
  ((s.cyclesNear ws).flatMap (fun c => [(c, c + (ns 350 : Int)), (c + (ns 550 : Int), c + (ns 3750 : Int))])) ++
    (ws.flatMap (fun x => x.edges.map (fun e => (e - (ns 40 : Int), e))))

/-- A time that no span about now reaches. -/
def State.farAhead (s : State) : Int := s.tt.clk + ms 1000

/-- The spans about now in which the converters allow a switch (R109): nothing in them is busy, they last 64 ns or more, and their edges
are rounded inward to the counter grid. Whether a span lasts 64 ns is judged before its edges are rounded: DEDUCED, assumption 65. -/
def State.calmSpans (s : State) : List (Int × Int) :=
  let busy := s.busyNear
  let up := fun (t : Int) => -(-t / (cycleUnits : Int)) * (cycleUnits : Int)
  let down := fun (t : Int) => t / (cycleUnits : Int) * (cycleUnits : Int)
  (0 :: busy.map (fun p => p.2)).filterMap (fun a =>
    let b := busy.foldl (fun m p => if a ≤ p.1 then min m p.1 else m) s.farAhead
    if busy.any (fun p => decide (p.1 ≤ a ∧ a < p.2)) || decide (b - a < (ns 64 : Int)) then none else some (up a, down b))

/-- The spans in which the QUIET entries of the template let QUIET be high (R101): with AUTO 1 in the whole frame, else in the slots that
they name. The built template has one with AUTO 1 (R104). -/
def State.entrySpans (s : State) : List (Int × Int) :=
  let es := vEntries s.live 8
  if !s.tt.run || (vTemplate s.live).isEmpty || es.any (fun e => entAuto e.1) then [(0, s.farAhead)]
  else es.map (fun e =>
    let p := 16 * entPos e.1 + entSlot e.1
    (s.slotTime p, s.slotTime (p + bits e.2 0 8)))

/-- The spans about now in which QUIET is high (R101, R109): always, where QUIET_EN 0 holds it high. -/
def State.quietSpans (s : State) : List (Int × Int) :=
  if !s.tst F.TT_CTRL_QUIET_EN && (s.sys.mode == 8 || s.sys.mode == 0xA) then [(0, s.farAhead)]
  else s.calmSpans.flatMap (fun p => s.entrySpans.map (fun q => (max p.1 q.1, min p.2 q.2)))

/-- The level of QUIET (R101, R109, R541); none while the logic die that drives it is without power or in reset. -/
def State.quiet (s : State) : Option Bool :=
  if !s.up then none else some (s.quietSpans.any (fun p => decide (p.1 ≤ s.tt.clk ∧ (s.tt.clk : Int) < p.2)))

/-- Rising edges of SW_SYNC per conversion interval (R135). -/
def State.nsync (s : State) : Nat := max 1 (s.rd F.TT_QUIET_NSYNC)

/-- When SW_SYNC rises in the conversion interval that a time lies in (R109, R540): evenly spaced on the counter grid from the conversion
start on; while no frame runs, on the grid that the last one left. -/
def State.swSyncEdges (s : State) (t : Nat) : List Nat :=
  let rp := s.rpNow
  let len := 16 * vW s.live * max 1 rp
  let start := s.tt.rp0 + (t - s.tt.rp0) / len * len
  ((List.range s.nsync).map (fun k => onCycle (start + k * len / s.nsync))).filter (fun e =>
    !s.tt.run || decide (e < s.frameEndAt))

/-! ### The switching outputs -/

/-- Whether a switching output is enabled: a core phase that is not shed (R542), or a channel whose rail is on (R539). -/
def State.swEnabled (s : State) (n : Nat) : Bool :=
  if n < 4 then s.pwr.pgood.testBit 0 && (s.rd F.PWR_SHED_ACTIVE).testBit n
  else if n = 9 then s.pwr.vcmpOn
  else s.pwr.pgood.testBit (n - 3)

/-- The edges of the power die's own oscillator at FSW_KHZ between two times, which stand in for SW_SYNC where the timing wires failed
(R498). -/
def State.ownEdges (s : State) (from_ upto : Nat) : List Nat :=
  let period := max 1 (ms 1 / max 1 (s.rd F.PWR_CORE_FSW_KHZ))
  let first := from_ / period
  (List.range (upto / period - first + 1)).map (fun k => (first + k) * period + Config.ownPhase % period)

/-- The spans in which the power die takes QUIET as high (R498, R541). -/
def State.swQuiet (s : State) : List (Int × Int) := if s.wiresFailed then [(0, s.farAhead)] else s.quietSpans

/-- The pulses of an output that fall due after a time (R541): core phase n 10 ns × n after each edge of SW_SYNC; each with its demand. -/
def State.swDue (s : State) (n from_ : Nat) : List (Nat × Nat) :=
  let offset := if n < 4 then ns (10 * n) else 0
  let edges := if s.wiresFailed then s.ownEdges (from_ - offset) (s.tt.clk - offset)
    else s.swSyncEdges (from_ - offset) ++ s.swSyncEdges (s.tt.clk - offset)
  (edges.eraseDups.map (fun e => e + offset)).filterMap (fun e =>
    if from_ < e ∧ e ≤ s.tt.clk then some (e, ns (Config.demand n e)) else none)

/-- The earliest instant from a time on at which an output may turn on: QUIET is high with 20 ns of it left (R541). -/
def turnOn (spans : List (Int × Int)) (now : Nat) : Option Nat :=
  spans.foldl (fun (a : Option Nat) p =>
    let t := max p.1.toNat now
    if ((t + ns 20 : Nat) : Int) ≤ p.2 then some (min t (a.getD t)) else a) none

/-- The instant with QUIET high that is nearest to a wanted one and not before `least`, the earlier of two that are equally near (R541). -/
def turnOff (spans : List (Int × Int)) (least : Nat) (want : Int) : Nat :=
  ((spans.foldl (fun (a : Option Int) p =>
    let lo := max p.1 (least : Int)
    if p.2 ≤ lo then a
    else
      let t := max lo (min want (p.2 - 1))
      match a with
      | some b => if (t - want).natAbs < (b - want).natAbs ∨ ((t - want).natAbs = (b - want).natAbs ∧ t < b) then some t else some b
      | none => some t) none).getD (least : Int)).toNat

/-- An output from a time on, up to `upto` (R541): it turns on as soon as it may and is due, and pulses that fall due while it waits or is
on add up. At most `k` events. -/
def SwOut.go (spans : List (Int × Int)) (upto : Nat) : Nat → List (Nat × Nat) → Nat → SwOut → SwOut
  | 0, _, _, o => o
  | k + 1, due, now, o =>
    let on := if o.due = 0 then none else (turnOn spans now).filter (fun t => decide (t ≤ upto))
    let next := due.head?
    match on, next with
    | none, none => o
    | none, some e => SwOut.go spans upto k due.tail now { o with due := o.due + e.2 }
    | some t, e =>
      if (e.map (fun p => decide (p.1 ≤ t))).getD false then
        SwOut.go spans upto k due.tail now { o with due := o.due + (e.map (fun p => p.2)).getD 0 }
      else
        let want : Int := (t : Int) + o.due + o.carry
        let off := turnOff spans (t + ns 20) want
        SwOut.go spans upto k due off ⟨0, clampI (-(ns 200 : Int)) (ns 200) (want - off), some (t, off)⟩

/-- What the time from `from_` to now brings to the switching outputs (R541): each places the pulses due by the spans of QUIET. In Recess
that is suspended (R551), and an output that is not enabled does not switch. -/
def State.swSlot (s : State) (from_ : Nat) : State :=
  let idle : SwOut := ⟨0, 0, none⟩
  { s with sw := (List.range 10).map (fun n =>
      if s.pwr.recess || !s.swEnabled n then idle
      else
        let o := s.sw.getD n idle
        let due := s.swDue n from_
        o.go s.swQuiet s.tt.clk (2 * due.length + 2) due (max from_ ((o.pulse.map (fun p => p.2)).getD 0)) ) }

/-- What the time from `from_` to now brings to the heater's gate: it follows the PWM at an instant with QUIET high (R578). -/
def State.htrSlot (s : State) (from_ : Nat) : State :=
  if s.swQuiet.any (fun p => decide (p.1 ≤ s.tt.clk ∧ (from_ : Int) < p.2)) then { s with thm := { s.thm with gate := s.thm.htrOn } } else s

/-- HTR_G, high for true (R578): low at once where the heater may not run. -/
def State.htrG (s : State) : Bool := s.thm.gate && s.heaterAllowed (s.reg 0x10005)

/-- Whether the high side of a switching output is on now. -/
def State.swOn (s : State) (n : Nat) : Bool :=
  match s.sw[n]? with
  | some ⟨_, _, some p⟩ => decide (p.1 ≤ s.tt.clk ∧ s.tt.clk < p.2)
  | _ => false

end Sys2Proof.Machine
end

