-- ==== Sys2Proof/Machine/Interconnect.lean ====
section
/-!
DEFINITION. The interconnect to the DRAM (R17 to R20, R697): its classes, credits and entries, the arbiter, and the wait counters of bank
SYS.
-/

namespace Sys2Proof.Machine

/-- The classes 1 to 5 (R17): reserved entries, and the guaranteed share in 0.1 GB/s. -/
def icnClasses : List (Nat × Nat) := [(1024, 80), (384, 16), (768, 40), (512, 20), (384, 8)]

/-- The entries of the shared pool (R17). -/
def icnPool : Nat := 1024

/-- The reserved entries of a class. -/
def icnReserved (c : Nat) : Nat := (icnClasses.getD (c - 1) (0, 0)).1

/-- The guaranteed share of a class in 0.1 GB/s. -/
def icnShare (c : Nat) : Nat := (icnClasses.getD (c - 1) (0, 0)).2

/-- The credit that a byte takes: credit is kept in 0.1 GB/s for 1/25 of a unit of `clk`. -/
def icnByte : Nat := 10 * nsUnits25

/-- The most that a class's bucket holds: 4 µs of its rate (R18). -/
def icnBucket (c : Nat) : Nat := icnShare c * 4000 * nsUnits25

/-- Each class earns credit at its guaranteed rate up to now (R18). -/
def State.icnEarn (s : State) : State :=
  let d := s.tt.clk - s.icn.since
  { s with icn := { s.icn with
      since := s.tt.clk,
      credit := (List.range 5).map (fun i => min (icnBucket (i + 1)) (s.icn.credit.getD i 0 + icnShare (i + 1) * 25 * d)) } }

/-- Whether the class of a request has credit: the request is in-share (R18). -/
def State.icnInShare (s : State) (r : IcnReq) : Bool := s.icn.credit.getD (r.cls - 1) 0 != 0

/-- Whether a reserved entry of a class is free (R17). -/
def State.icnOwnFree (s : State) (c : Nat) : Bool :=
  decide ((s.icn.taken.filter (fun r => r.cls == c && !r.pooled)).length < icnReserved c)

/-- Whether an entry that a class may use is free (R17, R18). -/
def State.icnFree (s : State) (c : Nat) : Bool :=
  s.icnOwnFree c || decide ((s.icn.taken.filter (fun r => r.pooled)).length < icnPool)

/-- The request that the arbiter grants next (R18): of those with a free entry the in-share requests go first, then the lowest class,
then the oldest. -/
def State.icnNext (s : State) : Option IcnReq :=
  let ready := s.icn.waiting.filter (fun r => s.icnFree r.cls)
  let of := fun (l : List IcnReq) => (List.range 5).findSome? (fun i => l.find? (fun r => r.cls == i + 1))
  match of (ready.filter s.icnInShare) with
  | some r => some r
  | none => of ready

/-- One arbitration cycle (R18, R20): the request takes a reserved entry of its class, else one of the pool, and its bytes take credit. -/
def State.icnGrant (s : State) : State :=
  match s.icnNext with
  | none => s
  | some r =>
    let left := s.icn.credit.getD (r.cls - 1) 0 - r.bytes * icnByte
    { s with icn := { s.icn with
        credit := s.icn.credit.set (r.cls - 1) left, waiting := s.icn.waiting.erase r,
        taken := s.icn.taken ++ [{ r with pooled := !s.icnOwnFree r.cls, inShare := s.icnInShare r }] } }

/-- The wait counter of a class (R697). -/
def waitReg (c : Nat) : Nat := R.SYS_WAIT1 + (c - 1)

/-- A request made (R20). -/
def State.icnRequest (s : State) (cls bytes : Nat) : State :=
  { s with icn := { s.icn with waiting := s.icn.waiting ++ [⟨cls, bytes, s.tt.clk, false, false⟩] } }

/-- A request counted that waits for a free entry (R697). -/
def State.icnWaits (s : State) (r : IcnReq) : State := s.bump ⟨waitReg r.cls, 0, 16⟩

/-- A transaction's data is returned or its write acknowledged (R20, R697): its entry is free, and the longest wait is kept. -/
def State.icnDone (s : State) (r : IcnReq) : State :=
  let f : Fld := ⟨waitReg r.cls, 16, 12⟩
  let wait := min 4095 ((s.tt.clk - r.at_) / ns 10)
  State.wr { s with icn := { s.icn with taken := s.icn.taken.erase r } } f (max (s.rd f) wait)

/-- Whether a transaction has to have its first data by now: an in-share request of class 1 waits at most 1.5 µs (R20). -/
def State.icnDue (s : State) (r : IcnReq) : Bool := r.cls == 1 && r.inShare && decide (r.at_ + ns 1500 ≤ s.tt.clk)

/-- What the time since the last slot without a command brings to the interconnect: transactions end, requests are made, and the arbiter
grants all that it can. Which ones end and which are made the spec leaves to the traffic: free values (`Config.icnEnds`,
`Config.icnTraffic`; assumption 61). -/
def State.icnSlot (s : State) : State :=
  let n := s.free
  let t := State.icnEarn { s with free := n + 1 }
  let ends := ((List.range t.icn.taken.length).zip t.icn.taken).filter (fun p => Config.icnEnds n p.1 || t.icnDue p.2)
  let t := ends.foldl (fun (u : State) p => u.icnDone p.2) t
  let made := (Config.icnTraffic n).map (fun p => (p.1 % 5 + 1, p.2))
  let old := t.icn.waiting.length
  let t := made.foldl (fun (u : State) p => u.icnRequest p.1 p.2) t
  let fresh := t.icn.waiting.drop old
  let t := iter State.icnGrant t.icn.waiting.length t
  (fresh.filter (fun r => t.icn.waiting.contains r)).foldl State.icnWaits t

end Sys2Proof.Machine
end

