-- ==== Sys2Proof/Machine/Registers.lean ====
section
/-!
DEFINITION. The register and table paths (R482 to R485): what every register reads as, what a write that reaches it does under the
checks of its chapter, and the memory windows.
-/

namespace Sys2Proof.Machine

open Sys2Proof (Word Pkt)

/-! ### What registers read as -/

/-- SYS_STAT (R695). -/
def State.viewSysStat (s : State) : Word :=
  w32 (flag (s.sys.fw == .running) + flag s.sec.sess.isSome * 2 + flag (s.reg R.SAF_ACTIVE != 0#32) * 4 + flag (s.thm.state != 0) * 8 +
    flag (s.sys.phase == .run && decide (popcount (w32 s.lnk.active) < 4)) * 16 + flag s.pend.isSome * 32 + flag (s.rec_.mount == 2) * 64)

/-- The tags whose final reply waits for the link. -/
def State.waitingTags (s : State) : List Nat :=
  s.fe.waiting.filterMap (fun c => match c with
    | .reply _ tag _ st _ _ => if st = 1 then none else some tag
    | .event _ _ _ _ _ => none)

/-- The busy tags (R461): of packets that are held, and of commands whose final reply has not been sent. -/
def State.busy (s : State) : List Nat :=
  s.fe.held.map (fun h => h.pkt.tag) ++ s.fe.opn.map (fun o => o.tag) ++ s.waitingTags

/-- The number of busy tags (R461). -/
def State.busyTags (s : State) : Nat := s.busy.length

/-- What the registers of banks SYS and CMD read as whose values are not kept whole in the memory (R694, R695, R701). -/
def viewSys (a : Nat) (s : State) : Option Word :=
  if a = R.SYS_MODE then some s.modeWord
  else if a = R.SYS_STAT then some s.viewSysStat
  else if a = R.CMD_LASTSEQ then some (w32 s.fe.lastSeqVal)
  else if a = R.CMD_BUSY then some (w32 s.busyTags)
  else if a = R.CMD_CREDREL then some (w32 (s.fe.hdrRel + s.fe.payRel * 65536))
  else if a = R.CMD_EVMASK then some (w32 s.fe.evMask)
  else none

/-- SEQ_STAT (R181): RUNNING from the first to the last sequence frame. -/
def State.viewSeqStat (s : State) : Word :=
  let w := s.reg R.SEQ_STAT
  match s.exp.seq with
  | some r => putBits (putBits w 7 1 (flag (s.tt.started && seqLe r.start s.tt.fn))) 14 1 (flag r.last.isSome)
  | none => w

/-- What registers of CNV, SEQ, WIN and BEL read as whose values are not kept whole in the memory (R82, R181, R252, R256, R257). -/
def viewArray (a : Nat) (s : State) : Option Word :=
  if a = R.CNV_CAL then some (putBits (s.reg a) 1 1 (flag s.cnv.calBusy))
  else if a = R.SEQ_STAT then some s.viewSeqStat
  else if a = R.WIN_STAT then some (w32 (vNrow s.live + vVmin s.live * 65536))
  else if a = R.BEL_STAT then
    some (putBits (s.reg a) 0 3 (flag s.bel.busy + flag s.bel.queue.isSome * 2 + flag s.bel.sched.isSome * 4))
  else if a = R.BEL_LAST_LO then some (w32 s.bel.lastTb)
  else none

/-- What a register of each bank reads as where its value is not kept whole in the memory. -/
def viewBank (a : Nat) (s : State) : Option Word :=
  match a / 256 with
  | 0x00 => viewSys a s
  | 0x01 => viewSys a s
  | 0x02 => viewTt a s
  | 0x04 => viewArray a s
  | 0x06 => viewArray a s
  | 0x07 => if a = R.SP_STAT then some s.viewSpStat else none
  | 0x08 => viewArray a s
  | 0x09 => viewArray a s
  | 0x0A => if a = R.PA_TONE then some s.viewPaTone else none
  | 0x0B => viewPb a s
  | 0x0C => if a = R.STA_STAT then some s.viewStat else none
  | 0x0D => if a = R.OUT_STAT then some s.viewOutStat else none
  | 0x0E => viewLnk a s
  | 0x0F => viewClk a s
  | 0x10 => viewPwr a s
  | 0x11 => viewHk a s
  | 0x12 => viewHk a s
  | 0x13 => viewOtp a s
  | 0x14 => viewSec a s
  | 0x15 => viewRec a s
  | 0x16 => viewSaf a s
  | _ => none

/-- What an assigned register reads as (R11, R111): staged fields as staged, WO fields as 0. -/
def State.view (s : State) (d : RegDesc) : Word := clearMask ((viewBank d.addr s).getD (s.staged d.addr)) d.wo

/-- Whether an address is assigned (R482, R691): a chapter names a register there, or it lies in bank TST. -/
def assigned (a : Nat) : Bool := (findReg a).isSome || a / 256 == 0x17

/-- The modes in which the contents of bank TST are not disclosed (R691). -/
def tstOpen (mode : Nat) : Bool := [0x8, 0x9, 0xA].contains mode

/-- A register read, with what reading it changes: the copies of R88, R257, R335 and R450. An address that is not assigned reads 0;
so does bank TST, but in the modes in which its contents are not disclosed, where it reads as a free value. -/
def readReg (a : Nat) (s : State) : Word × State :=
  match findReg a with
  | none => if a / 256 = 0x17 ∧ tstOpen s.sys.mode = true then s.fresh else (0#32, s)
  | some d =>
    (s.view d,
      if a = R.TT_TB_LO then tbLoRead s
      else if a = R.BEL_LAST_LO then belLastRead s
      else if a = R.PB_VSTB_LO then vstbRead s
      else if a = R.LNK_PRBSBITS_LO then prbsBitsRead s
      else s)

/-! ### Writes -/

/-- Whether the lock of a bank is set (R691). -/
def State.bankLocked (s : State) (bank : Nat) : Bool :=
  match bank with
  | 0x03 => bit (s.reg R.ARR_CTRL) 31
  | 0x04 => bit (s.reg R.CNV_CTRL) 31
  | 0x10 => bit (s.reg R.PWR_CORE) 31
  | 0x14 => bit (s.reg R.SEC_ALARM_LVL) 31
  | 0x16 => bit (s.reg R.SAF_WDOG) 31
  | _ => false

/-- The word that a write of `v` under `mask` brings to a register that reads `old` (R11, R482): RW and RWL fields merged, RWL fields
under their lock as they are, W1C, W1S and WO fields `v` AND `mask`, and 0 elsewhere. -/
def RegDesc.incoming (d : RegDesc) (locked : Bool) (old v mask : Word) : Word :=
  let merged := (old &&& ~~~ mask) ||| (v &&& mask)
  keepMask merged d.rw ||| keepMask (if locked then old else merged) d.rwl ||| keepMask (v &&& mask) (d.w1c ||| d.w1s ||| d.wo)

/-- A register whose writable fields are all RWL (R483). -/
def RegDesc.allRwl (d : RegDesc) : Bool := d.rwl != 0 && d.rw ||| d.w1c ||| d.w1s ||| d.wo == 0

/-- A counter (R85, R216, R675): CLR is its one writable field. -/
def RegDesc.isCounter (d : RegDesc) : Bool := d.wo == 0x80000000 && d.rw ||| d.rwl ||| d.w1c ||| d.w1s == 0

/-- A write of a register that acts by its type codes alone (R11): a counter's CLR sets it to 0; else its RW and RWL fields take
their values, staged ones in the staged set. -/
def plainWrite (d : RegDesc) (w : Word) (s : State) : State :=
  if d.isCounter then (if bit w 31 then s.setReg d.addr 0#32 else s)
  else
    let m := (d.rw ||| d.rwl) &&& (2 ^ 32 - 1 - d.stg)
    let t := if m = 0 then s else s.setReg d.addr (clearMask (s.reg d.addr) m ||| keepMask w m)
    if d.stg = 0 then t else t.stage d.addr (keepMask w d.stg)

/-- W1C, W1S and RWS fields take their ones (R11). TT_COMMIT.REQ, which the pending set holds (R111, R132), is set by `bankWrite`. -/
def onesWrite (d : RegDesc) (w : Word) (s : State) : State :=
  if d.w1c ||| d.w1s = 0 ∨ d.addr = R.TT_COMMIT then s
  else s.setReg d.addr (clearMask (s.reg d.addr) (w.toNat &&& d.w1c) ||| keepMask w d.w1s)

/-- A write of TT_STROBE, which mirrors STROBE_CONFIG w0 (R136), under the checks of that command. -/
def wrTtStrobe (v : Word) (s : State) : WRes × State :=
  match srvStrobeConfig ⟨0, 0, false, 0, 0, [v, s.staged keyStrobe1, s.staged keyStrobe2]⟩ s with
  | (.done 0 _ _, t) => (.ok, t)
  | _ => (.refuse 4 0x2C 0, s)

/-- A write of PWR_RECESS.STBY (R551, R559): in STANDBY, 0 ends Recess. -/
def wrPwrRecess (d : RegDesc) (v : Word) (s : State) : WRes × State :=
  let t := plainWrite d v s
  (.ok, if !bit v 0 && t.sys.mode == 0x2 && t.pwr.recess then State.allPhases { t with pwr := { t.pwr with recess := false } } else t)

/-- A write that reaches a register, with the word it brings, under the checks and staging of its chapter. -/
def bankWrite (d : RegDesc) (locked : Bool) (w : Word) (s : State) : WRes × State :=
  let a := d.addr
  let plain : WRes × State := (.ok, plainWrite d w s)
  if d.isCounter || d.rw ||| d.rwl ||| d.wo ||| d.w1s == 0 then plain
  else match a / 256 with
  | 0x02 =>
    if a = R.TT_CTRL then wrTtCtrl w s
    else if a = R.TT_RP ∨ a = R.TT_VTOTAL then wrRate a w s
    else if a = R.TT_CHASE then wrTtChase w s
    else if a = R.TT_COMMIT then if bit w 0 then wrTtCommit s else (.ok, s)
    else if a = R.TT_STROBE then wrTtStrobe w s
    else plain
  | 0x04 =>
    if a = R.CNV_RAMP ∨ a = R.CNV_PED then wrCnvRamp a w s
    else if a = R.CNV_CAL then wrCnvCal w s
    else plain
  | 0x05 => wrExp a w s
  | 0x06 => if a = R.SEQ_CTRL then wrSeqCtrl w s else plain
  | 0x07 => wrSp a w s
  | 0x08 => wrWin a w s
  | 0x09 => wrBelCfg w s
  | 0x0A => wrPa a w s
  | 0x0B => wrPb a w s
  | 0x0C => wrSta a w s
  | 0x0D => wrOut a w s
  | 0x0E =>
    if a = R.LNK_CFG then wrLnkCfg w s
    else if R.LNK_FFE0 ≤ a ∧ a ≤ R.LNK_FFE0 + 3 then wrLnkFfe (a - R.LNK_FFE0) w s
    else if a = R.LNK_TEST then wrLnkTest w s
    else if a = R.LNK_LOOP then wrLnkLoop w s
    else plain
  | 0x0F =>
    if a = R.CLK_OUT0 then wrClkOut0 w s
    else if a = R.CLK_OUT1 then wrClkOut1 w s
    else if 0x0F10 ≤ a then wrClkPll ((a - 0x0F10) / 4) w s
    else plain
  | 0x10 =>
    if a = R.PWR_CORE then wrPwrCore w locked s
    else if a = R.PWR_VCMP then wrPwrVcmp w s
    else if a = R.PWR_SHED then wrPwrShed w s
    else if a = R.PWR_RECESS then wrPwrRecess d w s
    else plain
  | 0x11 => if a = R.HK_CTRL then wrHkCtrl w s else plain
  | 0x12 => if a = R.THM_CFG then wrThmCfg w s else if a = R.THM_HTR then wrThmHtr w s else plain
  | 0x15 => wrRec a w s
  | 0x16 => if a = R.SAF_WDOG then wrSafWdog w locked s else plain
  | _ => plain

/-- A write of `v` under `mask` to an address (R482, R483). An address that no chapter assigns takes nothing; SYS_CTRL.SOFT_RESET acts
once the write is answered, so not here. -/
def writeReg (a : Nat) (v mask : Word) (s : State) : WRes × State :=
  match findReg a with
  | none => (.ok, s)
  | some d =>
    let locked := s.bankLocked (a / 256)
    if locked && d.allRwl then (.refuse 7 0 0, s)
    else
      let w := d.incoming locked (s.view d) v mask
      match bankWrite d locked w s with
      | (.ok, t) => (.ok, onesWrite d w t)
      | r => r

/-- Every bit of a word. -/
def allOnes : Word := 0xFFFFFFFF#32

/-! ### Register commands -/

/-- REG_READ (R482). -/
def srvRegRead (k : Pkt) (s : State) : Ans × State :=
  let a := pf k 0 0 16
  if !assigned a then s.param 0x11
  else
    let r := readReg a s
    r.2.ok [r.1]

/-- REG_WRITE (R482). -/
def srvRegWrite (k : Pkt) (s : State) : Ans × State := s.underLevel <|
  let a := pf k 0 0 16
  if !assigned a then s.param 0x11
  else
    let r := writeReg a (pw k 1) allOnes s
    WRes.ans r.2 r.1

/-- REG_MODIFY (R482): the reply carries the value read before the write. -/
def srvRegModify (k : Pkt) (s : State) : Ans × State := s.underLevel <|
  let a := pf k 0 0 16
  if !assigned a then s.param 0x11
  else
    let old := readReg a s
    let r := writeReg a (pw k 2) (pw k 1) old.2
    match r.1 with
    | .ok => r.2.ok [old.1]
    | e => e.ans r.2

/-- Registers read one after another, in address order. -/
def readRun : Nat → Nat → State → List Word × State
  | 0, _, s => ([], s)
  | n + 1, a, s =>
    let r := readReg a s
    let rest := readRun n (a + 1) r.2
    (r.1 :: rest.1, rest.2)

/-- REG_READ_BLOCK (R482). -/
def srvRegReadBlock (k : Pkt) (s : State) : Ans × State :=
  let a := pf k 0 0 16
  let n := pf k 1 0 9
  if n = 0 ∨ 256 < n ∨ 256 < a % 256 + n then s.param 0x13
  else
    let r := readRun n a s
    r.2.ok r.1

/-- Words written to registers one after another, until one is refused (R482): its status, reason and place. -/
def writeRun : List Word → Nat → Nat → State → Option (Nat × Nat × Nat) × State
  | [], _, _, s => (none, s)
  | v :: vs, a, i, s =>
    match writeReg a v allOnes s with
    | (.ok, t) => writeRun vs (a + 1) (i + 1) t
    | (.refuse st reason _, t) => (some (st, reason, i), t)

/-- REG_WRITE_BLOCK (R482). -/
def srvRegWriteBlock (k : Pkt) (s : State) : Ans × State := s.underLevel <|
  let a := pf k 0 0 16
  let ws := k.payload.drop 1
  if 256 < a % 256 + ws.length then s.param 0x13
  else
    match writeRun ws a 0 s with
    | (none, t) => t.ok []
    | (some (st, reason, i), t) => t.fin st [w32 ((if st = 4 ∨ st = 9 then reason % 65536 else 0) + i * 65536)]

/-! ### Memory windows -/

/-- The words of a window, by its ID (R484, R500, R536, R562, R582). -/
def windowWords (wid : Nat) : Option Nat :=
  match wid with
  | 0x0001 => some 128
  | 0x0200 => some 513
  | 0x0400 => some converters
  | 0x0500 => some 512
  | 0x0600 => some 32
  | 0x0601 => some 64
  | 0x0700 => some 2097152
  | 0x0701 => some 262144
  | 0x0702 => some 262144
  | 0x0A00 => some 132
  | 0x0A01 => some 8192
  | 0x0A02 => some 514
  | 0x0B00 => some 512
  | 0x0B01 => some 65
  | 0x0B02 => some 514
  | 0x0C00 => some 32768
  | 0x0C01 => some 256
  | 0x0C02 => some 256
  | 0x0C03 => some 256
  | 0x0C04 => some 512
  | 0x0D00 => some 8450
  | 0x0D01 => some 17
  | 0x0F00 => some 64
  | 0x1100 => some 32
  | 0x1101 => some 32
  | 0x1102 => some 33
  | _ => none

/-- Windows that no TABLE_WRITE reaches (R210, R348). -/
def readOnlyWindow (wid : Nat) : Bool := wid == 0x0702 || wid / 256 == 0x0C

/-- Windows whose staged values a TABLE_READ returns (R111). -/
def stagedWindow (wid : Nat) : Bool := [0x0500, 0x0701, 0x0A00, 0x0A01, 0x0B01, 0x0D01].contains wid

/-- A TABLE_WRITE of SEQ.CTX: every context that it reaches is checked as SEQ_CONTEXT_WRITE checks one (R162, R171), and a run that is
refused changes nothing. -/
def tblSeqCtx (start : Nat) (ws : List Word) (s : State) : WRes × State :=
  let word := fun (i : Nat) => if start ≤ i then ws.getD (i - start) (s.reg (wkey 0x0600 i)) else s.reg (wkey 0x0600 i)
  let first := start / 2
  let last := (start + ws.length - 1) / 2
  let step := fun (r : WRes × State) (c : Nat) =>
    match r.1 with
    | .ok => ctxWrite c (word (2 * c), word (2 * c + 1)) r.2
    | _ => r
  let alone := ((List.range (last + 1 - first)).map (fun i => first + i)).foldl step
    (.ok, { s with exp := { s.exp with seq := none } })
  match alone with
  | (.ok, t) =>
    match ctxWrite last (word (2 * last), word (2 * last + 1)) { t with exp := s.exp } with
    | (.ok, u) => (.ok, u)
    | (e, _) => (e, s)
  | (e, _) => (e, s)

/-- A TABLE_WRITE that reaches a window, as one unit (R485). -/
def windowWrite (wid start : Nat) (ws : List Word) (s : State) : WRes × State :=
  match wid with
  | 0x0200 => (.ok, s.setRun (wkey widTplBuf start) ws)
  | 0x0400 => tblCorr start ws s
  | 0x0500 => (.ok, s.stageRun (wkey wid start) ws)
  | 0x0600 => tblSeqCtx start ws s
  | 0x0601 => listWrite start false false ws s
  | 0x0700 => tblCtx start ws s
  | 0x0701 => tblMask start ws s
  | 0x0A00 => tblPa wid start ws s
  | 0x0A01 => tblPa wid start ws s
  | 0x0A02 => tblPaTone start ws s
  | 0x0B00 => tblProfile start ws s
  | 0x0B01 => tblPbLin start ws s
  | 0x0B02 => tblPbTone start ws s
  | 0x0D00 => tblMesh start ws s
  | 0x0D01 => tblCompand start ws s
  | 0x0F00 => tblPlans start ws s
  | 0x1102 => (.ok, s.setRun (wkey wid start) (ws.map (fun w => keepMask w 0xFFFF)))
  | _ => (.ok, s.setRun (wkey wid start) (ws.map (fun w => keepMask w 0x3FFF)))

/-- TABLE_WRITE (R485). TT.TEMPLATE is written up to word 504 (R102). -/
def srvTableWrite (k : Pkt) (s : State) : Ans × State :=
  let wid := pf k 0 0 16
  let start := pf k 1 0 22
  let ws := k.payload.drop 2
  match windowWords wid with
  | none => s.param 0x12
  | some n =>
    if (if wid = 0x0200 then 505 else n) < start + ws.length then s.param 0x13
    else if readOnlyWindow wid then s.param 0x14
    else if wid = 0x0001 then tblHomeroom k.tag start ws s
    else
      let r := windowWrite wid start ws s
      WRes.ans r.2 r.1

/-- A POP_QUIZ entry (R101, R102, R630): KIND 0x0C at the read window of row 4by; its word 1, set by the Prefect, is free. -/
def quizEntry (by_ : Nat) (s : State) : (Word × Word) × State :=
  let rp := (readRp s.live (4 * by_ + 48)).getD 0
  let r := s.fresh
  ((fillEntry (w32 (0x0C * 2 ^ 21)) (16 * rp), r.1), r.2)

/-- The POP_QUIZ entries inserted for the frame being read (R102, R630): one for each quiz block. -/
def State.quizEntries (s : State) : List (Word × Word) × State :=
  match s.sec.quizzes.find? (fun q => q.fn == s.tt.fn) with
  | some q => q.blocks.foldl (fun (r : List (Word × Word) × State) b =>
      let e := quizEntry b.by_ r.2
      (r.1 ++ [e.1], e.2)) ([], s)
  | none => ([], s)

/-- The words that a TABLE_READ returns; none where nothing is there yet to read. -/
def windowRead (wid start n : Nat) (s : State) : Option (List Word) × State :=
  match wid with
  | 0x0001 => (some ((s.homeroom.drop start).take n), s)
  | 0x0200 =>
    let q := s.quizEntries
    (some (((templateWords s.live q.1).drop start).take n), q.2)
  | 0x0400 => (some (readCorr start n s), s)
  | 0x0700 =>
    let r := readCtxTable start n s
    (some r.1, r.2)
  | 0x0702 => (readMap start n s, s)
  | 0x0C00 => (readStat 0 start n s, s)
  | 0x0C01 => (readStat 1 start n s, s)
  | 0x0C02 => (readStat 2 start n s, s)
  | 0x0C03 => (readStat 3 start n s, s)
  | 0x0C04 => (readStat 4 start n s, s)
  | _ =>
    (some ((List.range n).map (fun i => if stagedWindow wid then s.staged (wkey wid (start + i)) else s.reg (wkey wid (start + i)))), s)

/-- TABLE_READ (R485). -/
def srvTableRead (k : Pkt) (s : State) : Ans × State :=
  let wid := pf k 0 0 16
  let start := pf k 1 0 22
  let n := pf k 2 0 9
  match windowWords wid with
  | none => s.param 0x12
  | some size =>
    if n = 0 ∨ 256 < n ∨ size < start + n then s.param 0x13
    else
      match windowRead wid start n s with
      | (some ws, t) => t.ok ws
      | (none, t) => t.fin 6 []

/-! ### The register rows of the table -/

/-- REGISTER_WRITE (R11): a write that reaches a register. A write of 1 to SYS_CTRL.SOFT_RESET is SYS_CTRL_SOFT_RESET. -/
def execRegisterWrite (addr : Nat) (value : Word) (s : State) : Host.Outcome State Fault Refusal :=
  .next (s.keepQueue (writeReg addr value allOnes s).2)

/-- PROF_CHECK (R309): a write of PB_CTRL with PROF_CHECK at 1. -/
def execProfCheck (value : Word) (s : State) : Host.Outcome State Fault Refusal :=
  .next (s.keepQueue (wrPbCtrl (putBits value 7 1 1) s).2)

/-- COUNTER_CLR (R85): a write of 1 to the CLR bit of a counter; what is no counter is not changed. -/
def execCounterClr (addr : Nat) (s : State) : Host.Outcome State Fault Refusal :=
  .next (s.keepQueue (
    match findReg addr with
    | some d => if d.isCounter then s.setReg d.addr 0#32 else s
    | none => s))

/-- LOCK_SET (R691): a write of 1 to the LOCK bit of a bank's lock register, its other fields unchanged. -/
def execLockSet (addr : Nat) (s : State) : Host.Outcome State Fault Refusal :=
  .next (s.keepQueue (
    if [R.ARR_CTRL, R.CNV_CTRL, R.PWR_CORE, R.SEC_ALARM_LVL, R.SAF_WDOG].contains addr then
      s.setReg addr (s.reg addr ||| 0x80000000#32)
    else s))

end Sys2Proof.Machine
end

