-- ==== Sys2Proof/Machine/FrontEnd.lean ====
section
/-!
DEFINITION. The command front end and the program behind it (R29, R452 to R481, R489, R490): the commands with their lengths and
legal modes, the checks of R458, credits, tags, the order in which held packets are served, and the commands of group System that
are this chapter's own.
-/

namespace Sys2Proof.Machine

open Sys2Proof (Word Byte Pkt)

/-! ### The commands of group System -/

/-- What the register at an address reads as. -/
def State.readAt (s : State) (a : Nat) : Word := ((findReg a).map s.view).getD 0#32

/-- GET_IDENTITY (R698). -/
def srvGetIdentity (_k : Pkt) (s : State) : Ans × State :=
  let hr := s.homeroom
  s.ok [s.readAt R.SYS_ID, s.readAt R.ARR_ID, s.readAt R.SYS_UID_LO, s.readAt R.SYS_UID_HI, s.readAt R.SAF_FWSTAT,
    s.readAt R.OTP_FW_VERSION, s.readAt R.OTP_KEY_EPOCH, if s.sys.hrSrc = 2 then 0#32 else w32 (bits (hr.getD 0 0#32) 16 16)]

/-- GET_STATUS (R699). -/
def srvGetStatus (_k : Pkt) (s : State) : Ans × State :=
  s.ok [s.readAt R.SYS_STAT, s.readAt R.SYS_MODE, w32 s.tt.fn, s.readAt R.TT_STAT, s.readAt R.LNK_STAT, s.readAt R.SAF_ACTIVE,
    s.readAt R.THM_MAX, s.readAt R.PWR_STAT, s.readAt R.SEC_STAT, s.readAt R.REC_STAT]

/-- EVENT_MASK (R480): bits 0, 0x0B and 0x14 read 0. -/
def srvEventMask (k : Pkt) (s : State) : Ans × State :=
  let m := clearMask (pw k 0) 0x100801
  State.ok { s with fe := { s.fe with evMask := m.toNat } } [m]

/-- PING (R477): the payload echoed. -/
def srvPing (k : Pkt) (s : State) : Ans × State := s.ok k.payload

/-- HALL_PASS_QUERY (R468). -/
def srvHallPassQuery (_k : Pkt) (s : State) : Ans × State :=
  s.ok [w32 (4096 + 2048 * 65536), w32 (s.fe.hdrRel + s.fe.payRel * 65536), w32 (s.fe.held.length + s.fe.lastSeqVal * 65536)]

/-! ### SOFT_RESET -/

/-- Every event of the queue becomes a formed packet, in order (R476). -/
def State.formEvents (s : State) : State :=
  if s.canSend then s.flush
  else match s.fe.events with
    | [] => s
    | e :: es =>
      let form := fun (lost : Bool) (x : EvEntry) => Ctl.event x.code x.count lost x.fn x.payload
      { s with fe := { s.fe with waiting := s.fe.waiting ++ form s.fe.lost e :: es.map (form false), events := [], lost := false } }

/-- What SOFT_RESET does to the front end and the session once it is answered (R476, R480, R486, R603, R622, R652). -/
def State.clearFrontEnd (s : State) : State :=
  let t := s.dropTags
  let t : State := { t with
    fe := { t.fe with held := [], opn := [], events := [], lost := false, hdrRel := 0, payRel := 0, lastSeq := none, evMask := 0 },
    bel := { t.bel with
      raised := t.bel.raised.map (fun e => { e with tag := none }), queue := t.bel.queue.map (fun e => { e with tag := none }),
      sched := t.bel.sched.map (fun p => (p.1, p.2 + 4096)) },
    otp := { t.otp with job := none },
    sec := { t.sec with hand := none, finish := none, arrivals := [] } }
  let t := (List.range 9).foldl (fun (u : State) i => u.setReg (R.CMD_FRAMING + i) 0#32) t
  t.endSession.fwHalt

/-- SOFT_RESET after its answer (R700): a firmware restart that is no fault; in LIMP a new start from step 3 of R495 (R508). -/
def State.softReset (s : State) : State :=
  let t := s.clearFrontEnd
  if s.sys.fw == .limp then
    let u := t.intoReset
    let u : State := { u with
      fe := { u.fe with waiting := t.fe.waiting, out := t.fe.out }, sys := { u.sys with origin := t.tt.clk },
      tt := { u.tt with tb := t.tt.tb, tbRem := t.tt.tbRem } }
    u.bootFrom (t.tst F.CLK_CFG_REFSRC) none t.rec_.present
  else if s.sys.takenOver then
    { t with sys := { t.sys with fw := .restarting, fwReady := false } }
  else t

/-- Whether a register command sets SYS_CTRL.SOFT_RESET, which acts once the write is answered OK (R696). -/
def softAsked (op : Nat) (k : Pkt) : Bool :=
  let a := pf k 0 0 16
  if op = 0x11 then a == R.SYS_CTRL && bit (pw k 1) 0
  else if op = 0x12 then a == R.SYS_CTRL && bit (pw k 1 &&& pw k 2) 0
  else if op = 0x14 then decide (a ≤ R.SYS_CTRL) && bit (pw k (1 + R.SYS_CTRL - a)) 0
  else op == 0x05

/-- SOFT_RESET is answered OK before it acts (R476). -/
def srvSoftReset (_k : Pkt) (s : State) : Ans × State := s.ok []

/-! ### Lengths and modes -/

/-- A command: its opcode, the shortest and longest L of check 7 of R458, and what serving it does. -/
structure Cmd where
  op : Nat
  lo : Nat
  hi : Nat
  srv : Pkt → State → Ans × State

/-- The commands of groups System, Register and Timetable. -/
def commandsA : List Cmd :=
  [⟨0x00, 0, 256, srvPing⟩, ⟨0x01, 0, 0, srvGetIdentity⟩, ⟨0x02, 0, 0, srvGetStatus⟩, ⟨0x03, 1, 7, srvSetMode⟩,
   ⟨0x04, 0, 0, srvGetMode⟩, ⟨0x05, 0, 0, srvSoftReset⟩, ⟨0x06, 1, 1, srvEventMask⟩, ⟨0x08, 0, 0, srvHallPassQuery⟩,
   ⟨0x10, 1, 1, srvRegRead⟩, ⟨0x11, 2, 2, srvRegWrite⟩, ⟨0x12, 3, 3, srvRegModify⟩, ⟨0x13, 2, 2, srvRegReadBlock⟩,
   ⟨0x14, 2, 255, srvRegWriteBlock⟩, ⟨0x15, 3, 256, srvTableWrite⟩, ⟨0x16, 3, 3, srvTableRead⟩, ⟨0x17, 0, 0, srvSettingsCommit⟩,
   ⟨0x20, 2, 2, srvSetFrameRate⟩, ⟨0x21, 4, 4, srvLockReference⟩, ⟨0x22, 0, 0, srvGetTimebase⟩, ⟨0x23, 2, 256, srvEventTableLoad⟩,
   ⟨0x24, 1, 3, srvStrobeConfig⟩]

/-- The commands of groups Exposure, Seating Plan, Windows and Bell, Pipelines, and Outputs. -/
def commandsB : List Cmd :=
  [⟨0x30, 4, 4, srvAeConfig⟩, ⟨0x31, 2, 2, srvSetExposure⟩, ⟨0x32, 5, 5, srvHdrConfig⟩, ⟨0x33, 3, 3, srvSeqContextWrite⟩,
   ⟨0x34, 1, 65, srvSeqListLoad⟩, ⟨0x35, 2, 2, srvSeqStart⟩, ⟨0x36, 1, 1, srvSeqStop⟩, ⟨0x37, 1, 1, srvFlickerConfig⟩,
   ⟨0x40, 1, 1, srvSpEnable⟩, ⟨0x41, 3, 3, srvSpLawConfig⟩, ⟨0x42, 3, 3, srvSpMaskLoad⟩, ⟨0x43, 1, 1, srvSpOverride⟩,
   ⟨0x44, 3, 3, srvSpMapRead⟩, ⟨0x50, 4, 4, srvWindowSet⟩, ⟨0x51, 1, 1, srvWindowClear⟩, ⟨0x52, 1, 1, srvBinningSet⟩,
   ⟨0x53, 1, 1, srvTriggerConfig⟩, ⟨0x54, 2, 2, srvTriggerFire⟩, ⟨0x60, 4, 4, srvPipeAConfig⟩, ⟨0x61, 3, 3, srvPipeBConfig⟩,
   ⟨0x62, 1, 255, srvCompanionProfileLoad⟩, ⟨0x63, 5, 35, srvCompanionRegAccess⟩, ⟨0x64, 2, 256, srvToneCurveLoad⟩,
   ⟨0x65, 8, 8, srvCcmSet⟩, ⟨0x66, 1, 1, srvTnrConfig⟩, ⟨0x68, 2, 2, srvStatsConfig⟩, ⟨0x69, 3, 3, srvStatsRead⟩,
   ⟨0x70, 1, 1, srvOutputRoute⟩, ⟨0x71, 4, 4, srvDisplayFormat⟩, ⟨0x72, 1, 255, srvWarpMeshLoad⟩, ⟨0x73, 1, 1, srvCodingConfig⟩,
   ⟨0x74, 1, 18, srvVisionFormat⟩, ⟨0x75, 1, 1, srvStreamPriority⟩]

/-- The commands of groups Link, Power, OTP and Security. -/
def commandsC : List Cmd :=
  [⟨0x80, 0, 0, srvLinkStatus⟩, ⟨0x81, 1, 1, srvLinkRate⟩, ⟨0x82, 1, 1, srvLaneMap⟩, ⟨0x83, 1, 2, srvFfeRequest⟩,
   ⟨0x84, 2, 2, srvPrbsConfig⟩, ⟨0x85, 1, 1, srvPrbsRead⟩, ⟨0x86, 2, 2, srvLoopback⟩, ⟨0x90, 0, 0, srvPowerStatus⟩,
   ⟨0x91, 2, 2, srvRailConfig⟩, ⟨0x92, 1, 33, srvHkSequenceLoad⟩, ⟨0x93, 1, 1, srvHkRead⟩, ⟨0x94, 1, 1, srvThermalConfig⟩,
   ⟨0x95, 1, 1, srvThrottleAck⟩, ⟨0x96, 1, 1, srvHeaterConfig⟩, ⟨0x97, 1, 1, srvReportCardRead⟩, ⟨0x98, 5, 5, srvReportCardClear⟩,
   ⟨0xA0, 2, 2, srvOtpRead⟩, ⟨0xA1, 7, 22, srvOtpProgram⟩, ⟨0xA2, 6, 6, srvOtpFuseLock⟩, ⟨0xA3, 7, 7, srvCounterAdvance⟩,
   ⟨0xA4, 0, 0, srvOtpStatus⟩, ⟨0xB0, 6, 17, srvAuthHello⟩, ⟨0xB1, 6, 38, srvAuthFinish⟩, ⟨0xB2, 6, 6, srvLivenessConfig⟩,
   ⟨0xB3, 5, 5, srvNoncePush⟩, ⟨0xB4, 2, 5, srvPopQuiz⟩, ⟨0xB5, 0, 0, srvAlarmStatus⟩, ⟨0xB6, 6, 6, srvAlarmClear⟩]

/-- The commands of groups Recorder, Firmware and Diagnostics. -/
def commandsD : List Cmd :=
  [⟨0xC0, 1, 6, srvRecMount⟩, ⟨0xC1, 2, 7, srvRecConfig⟩, ⟨0xC2, 2, 2, srvRecEvent⟩, ⟨0xC3, 2, 2, srvRecIndexRead⟩,
   ⟨0xC4, 3, 3, srvRecClipRead⟩, ⟨0xC5, 7, 7, srvRecErase⟩, ⟨0xC6, 0, 0, srvRecUnmount⟩, ⟨0xD0, 7, 7, srvFwStageBegin⟩,
   ⟨0xD1, 7, 255, srvFwStageChunk⟩, ⟨0xD2, 0, 0, srvFwStageVerify⟩, ⟨0xD3, 6, 6, srvFwSwitch⟩, ⟨0xD4, 0, 0, srvFwInfo⟩,
   ⟨0xE0, 1, 1, srvSelftestRun⟩, ⟨0xE1, 0, 0, srvFaultRead⟩, ⟨0xE2, 1, 1, srvFaultClear⟩, ⟨0xE3, 1, 1, srvEccStatus⟩,
   ⟨0xE4, 0, 0, srvRollCallResult⟩]

/-- The command with an opcode. -/
def findCmd (op : Nat) : Option Cmd := (commandsA ++ commandsB ++ commandsC ++ commandsD).find? (fun c => c.op == op)

/-- The read commands of R489. -/
def readCommands : List Nat :=
  [0x10, 0x13, 0x16, 0x44, 0x69, 0x80, 0x85, 0x90, 0x93, 0x97, 0xA0, 0xA4, 0xB5, 0xD0, 0xD1, 0xD2, 0xD4, 0xE1, 0xE3, 0xE4]

/-- The columns STANDBY to SERVICE (modes 0x2 to 0xC) of a row of the matrix of R489, by the upper digit of the opcode: 2 for Y, 1 for
R, 0 for a dash. -/
def legalRow (group : Nat) : List Nat :=
  match group with
  | 0x0 => [2, 2, 2, 2, 2, 2, 2, 2, 2, 2, 2]
  | 0x1 => [2, 2, 2, 2, 2, 1, 2, 2, 2, 1, 2]
  | 0x2 => [2, 2, 2, 2, 2, 0, 2, 0, 2, 0, 0]
  | 0x3 => [2, 2, 2, 2, 2, 0, 2, 0, 2, 0, 0]
  | 0x4 => [2, 2, 2, 2, 2, 0, 2, 0, 2, 1, 0]
  | 0x5 => [2, 2, 2, 2, 2, 0, 0, 0, 2, 0, 0]
  | 0x6 => [2, 2, 2, 2, 2, 0, 2, 0, 2, 1, 0]
  | 0x7 => [2, 2, 2, 2, 2, 0, 2, 0, 2, 0, 0]
  | 0x9 => [2, 2, 2, 2, 2, 2, 2, 2, 2, 1, 2]
  | 0xA => [1, 1, 1, 1, 1, 1, 1, 1, 1, 1, 2]
  | 0xB => [2, 2, 2, 2, 2, 2, 2, 0, 2, 1, 2]
  | 0xC => [2, 2, 2, 2, 2, 2, 0, 0, 0, 0, 0]
  | 0xD => [2, 2, 2, 2, 2, 2, 2, 0, 2, 1, 2]
  | 0xE => [2, 2, 2, 2, 2, 2, 2, 2, 2, 1, 2]
  | _ => []

/-- Check 8 of R458: whether a command is legal in a mode, by R489 with its exceptions and R438. Exceptions that lie in one command's
chapter are checked there. FFE_REQUEST stands in every mode (R438). -/
def legalIn (op mode : Nat) : Bool :=
  if op = 0x22 ∨ op = 0x80 ∨ op = 0x83 ∨ op = 0x85 then true
  else if op = 0x21 then mode == 0x3 || mode == 0x4
  else if op = 0x81 ∨ op = 0x82 then mode == 0x2 || mode == 0x9 || mode == 0xC
  else if op = 0x84 ∨ op = 0x86 then mode == 0x9
  else match (legalRow (op / 16)).getD (mode - 2) 0 with
    | 2 => true
    | 1 => readCommands.contains op
    | _ => false

/-- The form of a packet whose length follows from its field values, where its own service does not check it (R120, R441, R458, R491). -/
def formOk (op : Nat) (k : Pkt) : Bool :=
  let n := k.payload.length
  if op = 0x03 then n == (if pf k 0 0 4 = 7 then 2 else if pf k 0 0 4 = 0xC then 6 else 1)
  else if op = 0x24 then
    match pf k 0 0 2 with
    | 0 => n == 1
    | 1 => n == 2
    | 2 => n == 3
    | _ => true
  else if op = 0x83 then pf k 0 4 2 == 1 || pf k 0 4 2 == 3 || n == 2
  else true

/-! ### Answers -/

/-- STATE is answered with the mode, and counted (R459). -/
def State.countState (s : State) (st : Nat) (pl : List Word) : List Word × State :=
  if st = 5 ∧ pl = [] then ([w32 s.checkMode], s.bump F.CMD_STATE_COUNT) else (pl, s)

/-- An answer sent (R472): the command has been opened, and a final reply frees its tag. -/
def State.answer (s : State) (op : Nat) (k : Pkt) (a : Ans) : State :=
  let t : State := { s with fe := { s.fe with opn := s.fe.opn ++ [⟨op, k.tag, k.gen⟩] } }
  match a with
  | .done st fn pl =>
    let r := t.countState st pl
    r.2.finish op k.tag st fn r.1
  | .both st fn pl => (t.reply op k.tag k.gen 1 t.tt.fn []).finish op k.tag st fn pl
  | .accepted pl => t.reply op k.tag k.gen 1 t.tt.fn pl
  | .later => t

/-- What follows a command that is answered: SET_MODE and LOCK_REFERENCE may change the mode at once, TRIGGER_FIRE raises its event, and
SOFT_RESET acts. -/
def State.afterwards (s : State) (op : Nat) (k : Pkt) (a : Ans) : State :=
  if op = 0x03 ∨ op = 0x21 then s.applyMode
  else if op = 0x54 then fireNow k s
  else match a with
    | .done 0 _ _ => if softAsked op k then s.softReset else s
    | _ => s

/-- A command begun (checks 8 and 9 of R458) and answered. -/
def State.serve (s : State) (op : Nat) (k : Pkt) : State :=
  match findCmd op with
  | none => s
  | some c =>
    if !legalIn op s.checkMode then s.answer op k (.done 5 s.tt.fn [])
    else if !formOk op k then s.answer op k (.done 3 s.tt.fn [])
    else
      let r := c.srv k (if softAsked op k then s.formEvents else s)
      (r.2.answer op k r.1).afterwards op k r.1

/-! ### The receive buffer -/

/-- The header credits and payload units that a packet of length L is charged (R460, R464, R467). -/
def charge (op l : Nat) : Nat × Nat :=
  if op = 0x00 ∨ op = 0x08 then (0, 0) else if 256 < l then (1, 0) else (1, ceilDiv l 32)

/-- Credits released (R465). -/
def State.release (s : State) (c : Nat × Nat) : State :=
  { s with fe := { s.fe with hdrRel := (s.fe.hdrRel + c.1) % 65536, payRel := (s.fe.payRel + c.2) % 65536 } }

/-- The credits free in the receive buffer (R466). -/
def State.creditsFree (s : State) : Nat × Nat :=
  let cs := s.fe.held.map (fun h => charge h.op h.pkt.payload.length)
  (4096 - (cs.map (fun c => c.1)).foldl (fun a b => a + b) 0, 2048 - (cs.map (fun c => c.2)).foldl (fun a b => a + b) 0)

/-- Whether a command that has not sent its final reply holds back a barrier packet: those that the front end serves itself do not, but
for a TRIGGER_FIRE accepted before the packet (R473). -/
def Held.waitsFor (h : Held) (op tag : Nat) : Bool := !([0x00, 0x08, 0x54].contains op) || (op == 0x54 && h.fires.contains tag)

/-- Whether a barrier packet still waits (R473): until every command accepted before it has sent its final reply. -/
def State.barrier (s : State) (h : Held) : Bool :=
  h.pkt.order && (s.fe.opn.any (fun o => h.waitsFor o.op o.tag) || s.fe.waiting.any (fun c => match c with
    | .reply op tag _ st _ _ => st != 1 && h.waitsFor op tag
    | .event _ _ _ _ _ => false))

/-- The oldest held packet is taken, if the program behind the front end can take it (R29, R473). -/
def State.takeHeld (s : State) : State :=
  match s.fe.held with
  | [] => s
  | h :: hs =>
    if !s.serverUp || s.barrier h then s
    else
      let t : State := { s with fe := { s.fe with held := hs } }
      (t.release (charge h.op h.pkt.payload.length)).serve h.op h.pkt

/-- Held packets are taken for as long as they can be. -/
def State.pump (s : State) : State := iter State.takeHeld s.fe.held.length s

/-! ### Arrival -/

/-- SEQ of a packet that passed its CRC (R457). -/
def State.noteSeq (s : State) (seq : Nat) : State :=
  let t := match s.fe.lastSeq with
    | some p => if (p + 1) % 65536 = seq then s else s.bump F.CMD_SEQGAP_COUNT
    | none => s
  { t with fe := { t.fe with lastSeq := some seq, lastSeqVal := seq } }

/-- w0 of the events that name a packet (R481). -/
def packetWord (op : Nat) (k : Pkt) : Word := w32 (k.tag + k.gen * 2 ^ 12 + op * 2 ^ 16)

/-- A packet that passes checks 1 to 7: the front end serves PING, HALL_PASS_QUERY and TRIGGER_FIRE itself (R474), and all others are
held until the program behind it takes them. The TB at which a NONCE_PUSH came is kept (R628). -/
def State.accept (s : State) (op : Nat) (k : Pkt) : State :=
  if op = 0x00 then s.answer op k (srvPing k s).1
  else if op = 0x08 then s.answer op k (srvHallPassQuery k s).1
  else if op = 0x54 then
    let r := srvTriggerFire k (s.release (charge op k.payload.length))
    (r.2.answer op k r.1).afterwards op k r.1
  else
    let fires := (s.fe.opn.filter (fun o => o.op == 0x54)).map (fun o => o.tag)
    let t : State := { s with fe := { s.fe with held := s.fe.held ++ [⟨op, k, fires⟩] } }
    let t : State := if op = 0xB3 then { t with sec := { t.sec with arrivals := t.sec.arrivals ++ [(k.tag, t.tt.tb)] } } else t
    t.pump

/-- A reply that checks 4 to 7 decide, after the packet's credits are released (R458). -/
def State.turnAway (s : State) (op : Nat) (k : Pkt) (st : Nat) (pl : List Word) : State :=
  (s.release (charge op k.payload.length)).answer op k (.done st s.tt.fn pl)

/-- Checks 2 to 7 of R458 on a packet whose CRC is good. -/
def State.checked (s : State) (op : Nat) (k : Pkt) : State :=
  let n := k.payload.length
  let c := charge op n
  let free := s.creditsFree
  if free.1 < c.1 ∨ free.2 < c.2 then
    State.event ((s.bump F.CMD_CREDITVIOL_COUNT).release c) 0x02 [packetWord op k, w32 (free.1 + free.2 * 65536)]
  else if s.busy.contains k.tag then
    State.event ((s.bump F.CMD_TAGCOL_COUNT).release c) 0x01 [packetWord op k]
  else if 256 < n then
    State.turnAway ((s.bump F.CMD_LENSKIP_COUNT).event 0x12 [packetWord op k, w32 n]) op k 3 []
  else match findCmd op with
    | none => State.turnAway (s.bump F.CMD_UNKOP_COUNT) op k 2 []
    | some cmd =>
      if k.rsvd ≠ 0 then s.turnAway op k 4 [0x10#32]
      else if n < cmd.lo ∨ cmd.hi < n then s.turnAway op k 3 []
      else s.accept op k

/-- A packet whose CRC is good has arrived. In PARKING_WATCH it counts as traffic, and with the lanes idle it wakes the device (R510,
R512). -/
def State.arrived (s : State) (op : Nat) (k : Pkt) : State :=
  let s := if s.sys.mode = 7 then
      let t := if s.sys.park.idle then s.wake 0 true else s
      { t with sys := { t.sys with park := { t.sys.park with lastTraffic := t.tt.clk } } }
    else s
  (s.noteSeq k.seq).checked op k

/-- Framing is lost (R454, R481). -/
def State.framingLost (s : State) (cause : Nat) : State :=
  let t := s.bump F.CMD_FRAMING_COUNT
  t.event 0x13 [w32 (t.rd F.CMD_FRAMING_COUNT), w32 cause]

/-- BC_ECHO (R363, R436): the content characters of a received frame go out again as a packet of stream 0x30. -/
def State.echoFrame (s : State) (cs : List Byte) : State :=
  if s.lnk.echo then
    let pad := cs ++ List.replicate (4 * ceilDiv cs.length 4 - cs.length) 0#8
    s.streamPacket 0x30 9 (if s.tt.run then s.tt.fn else 0) (w32 cs.length :: wordsOf pad (ceilDiv cs.length 4))
  else s

/-- The content characters of a frame that holds one packet (R455). -/
def packetChars (op : Nat) (k : Pkt) : List Byte :=
  let ws := w32 (op * 2 ^ 24 + k.tag * 2 ^ 12 + k.gen * 2 ^ 8 + k.rsvd % 128 * 2 + flag k.order) ::
    w32 (k.payload.length * 2 ^ 22 + k.rsvd / 128 * 2 ^ 16 + k.seq) :: k.payload
  bytesOf (ws ++ [crc32c ws])

/-- A packet as a frame of its own brings it to the front end: its fields in their widths, and no longer than a frame can hold
(R452, R455, R460). It comes only to a device that is out of reset. -/
def arrive (op : Nat) (k : Pkt) (s : State) : State :=
  if s.sys.phase == .unpowered || s.sys.phase == .reset then s
  else if 257 < k.payload.length then State.framingLost (s.bump F.LNK_LONGFRM_COUNT) 2
  else
    let p : Pkt := { k with tag := k.tag % 4096, gen := k.gen % 16, rsvd := k.rsvd % 8192, seq := k.seq % 65536 }
    (s.echoFrame (packetChars op p)).arrived op p

/-! ### Frames of the back channel -/

/-- The words of bytes, as many as are whole. -/
def wordsOfBytes (bs : List Byte) : List Word := wordsOf bs (bs.length / 4)

/-- The packet with these words before its CRC (R455), with its opcode. -/
def packetOf (ws : List Word) : Nat × Pkt :=
  let a := ws.getD 0 0#32
  let b := ws.getD 1 0#32
  (bits a 24 8, ⟨bits a 12 12, bits a 8 4, bit a 0, bits a 1 7 + bits b 16 6 * 128, bits b 0 16, ws.drop 2⟩)

/-- The packets of a frame, from the words of its content that have not been looked at (R452 to R456). `tail`: how many characters
follow the last whole word; `ended`: whether K29.7 ended the frame. Each packet takes at least one of the `n` steps. -/
def framePackets : Nat → List Word → Nat → Bool → State → State
  | 0, _, _, _, s => s
  | n + 1, ws, tail, ended, s =>
    let cut := if ended then 1 else 2
    if ws.length < 2 then
      if ws.length = 0 ∧ tail = 0 ∧ ended = true then s else s.framingLost cut
    else
      let l := bits (ws.getD 1 0#32) 22 10
      if ws.length < l + 3 then s.framingLost (if ended && tail == 0 then 0 else cut)
      else
        let body := ws.take (l + 2)
        if crc32c body = ws.getD (l + 2) 0#32 then
          let p := packetOf body
          framePackets n (ws.drop (l + 3)) tail ended (s.arrived p.1 p.2)
        else s.bump F.CMD_CRCERR_COUNT

/-- BACK_CHANNEL_FRAME (R421, R422, R452 to R456): the content characters of a frame, and whether K29.7 ended it; a frame that was not
ended is one that reached 1,040 characters. -/
def execBackChannelFrame (chars : List Byte) (ended : Bool) (s : State) : Host.Outcome State Fault Refusal :=
  .next (s.keepQueue (
    if s.sys.phase == .unpowered || s.sys.phase == .reset then s
    else
      let whole := ended && decide (chars.length ≤ 1040)
      let cs := if whole then chars else chars.take 1040
      let t := (if whole then s else s.bump F.LNK_LONGFRM_COUNT).echoFrame cs
      framePackets 261 (wordsOfBytes cs) (cs.length % 4) whole t))

/-- SYS_CTRL_SOFT_RESET (R696): the write of 1 to SYS_CTRL.SOFT_RESET acts as SOFT_RESET, its own command being answered. -/
def execSysCtrlSoftReset (s : State) : Host.Outcome State Fault Refusal :=
  .next (s.keepQueue (if s.sys.phase == .unpowered || s.sys.phase == .reset then s else s.formEvents.softReset))

/-! ### Rows after which held packets are taken -/

/-- FIRMWARE_READY (R503, R504, R665), after which a restarted firmware takes what is held (R29). -/
def execFirmwareReady (s : State) : Host.Outcome State Fault Refusal := .next (s.keepQueue s.firmwareReady.pump)

/-- COMMIT_EVENT (R112, R465, R504): where the firmware takes over with it, it takes what is held. -/
def execCommitEvent (s : State) : Host.Outcome State Fault Refusal := .next (s.keepQueue s.commitComes.pump)

/-- FRAME_START (R98, R507): with LIMP the boot ROM takes what is held. -/
def execFrameStart (s : State) : Host.Outcome State Fault Refusal := .next (s.keepQueue s.frameStarts.pump)

/-! ### The clock -/

/-- What one sub-row slot brings while no command waits: the lanes carry what waits, the interconnect goes on, the switching outputs give
their pulses and the heater's gate follows its PWM, and the program behind the front end takes the oldest held packet. A power-down that
waited for the eMMC goes on. -/
def State.tick (s : State) : State :=
  let t := s.elapse (s.tt.clk + max 1 s.slot)
  let t := if t.pwr.down.isSome then t.emmcIdle else t
  if t.sys.phase == .unpowered || t.sys.phase == .reset then t
  else (((t.lanesSlot (max 1 s.slot)).icnSlot.swSlot s.tt.clk).htrSlot s.tt.clk).takeHeld

end Sys2Proof.Machine
end

