-- ==== Sys2Proof/Machine/Commands.lean ====
section
/-!
DEFINITION. The 99 commands: each is the arrival of its packet (R452 to R458). What serving it does is its `srv` function, which
`commandsA` to `commandsD` give by opcode.
-/

namespace Sys2Proof.Machine

open Sys2Proof (Pkt)

/-! ### System -/

/-- PING (0x00, R477). -/
def execPing (k : Pkt) (s : State) : Host.Outcome State Fault Refusal := .next (s.keepQueue (arrive 0x00 k s))

/-- GET_IDENTITY (0x01, R698). -/
def execGetIdentity (k : Pkt) (s : State) : Host.Outcome State Fault Refusal := .next (s.keepQueue (arrive 0x01 k s))

/-- GET_STATUS (0x02, R699). -/
def execGetStatus (k : Pkt) (s : State) : Host.Outcome State Fault Refusal := .next (s.keepQueue (arrive 0x02 k s))

/-- SET_MODE (0x03, R492). -/
def execSetMode (k : Pkt) (s : State) : Host.Outcome State Fault Refusal := .next (s.keepQueue (arrive 0x03 k s))

/-- GET_MODE (0x04, R493). -/
def execGetMode (k : Pkt) (s : State) : Host.Outcome State Fault Refusal := .next (s.keepQueue (arrive 0x04 k s))

/-- SOFT_RESET (0x05, R700). -/
def execSoftReset (k : Pkt) (s : State) : Host.Outcome State Fault Refusal := .next (s.keepQueue (arrive 0x05 k s))

/-- EVENT_MASK (0x06, R480). -/
def execEventMask (k : Pkt) (s : State) : Host.Outcome State Fault Refusal := .next (s.keepQueue (arrive 0x06 k s))

/-- HALL_PASS_QUERY (0x08, R468). -/
def execHallPassQuery (k : Pkt) (s : State) : Host.Outcome State Fault Refusal := .next (s.keepQueue (arrive 0x08 k s))

/-! ### Register -/

/-- REG_READ (0x10, R482). -/
def execRegRead (k : Pkt) (s : State) : Host.Outcome State Fault Refusal := .next (s.keepQueue (arrive 0x10 k s))

/-- REG_WRITE (0x11, R482). -/
def execRegWrite (k : Pkt) (s : State) : Host.Outcome State Fault Refusal := .next (s.keepQueue (arrive 0x11 k s))

/-- REG_MODIFY (0x12, R482). -/
def execRegModify (k : Pkt) (s : State) : Host.Outcome State Fault Refusal := .next (s.keepQueue (arrive 0x12 k s))

/-- REG_READ_BLOCK (0x13, R482). -/
def execRegReadBlock (k : Pkt) (s : State) : Host.Outcome State Fault Refusal := .next (s.keepQueue (arrive 0x13 k s))

/-- REG_WRITE_BLOCK (0x14, R482). -/
def execRegWriteBlock (k : Pkt) (s : State) : Host.Outcome State Fault Refusal := .next (s.keepQueue (arrive 0x14 k s))

/-- TABLE_WRITE (0x15, R485). -/
def execTableWrite (k : Pkt) (s : State) : Host.Outcome State Fault Refusal := .next (s.keepQueue (arrive 0x15 k s))

/-- TABLE_READ (0x16, R485). -/
def execTableRead (k : Pkt) (s : State) : Host.Outcome State Fault Refusal := .next (s.keepQueue (arrive 0x16 k s))

/-- SETTINGS_COMMIT (0x17, R111). -/
def execSettingsCommit (k : Pkt) (s : State) : Host.Outcome State Fault Refusal := .next (s.keepQueue (arrive 0x17 k s))

/-! ### Timetable -/

/-- SET_FRAME_RATE (0x20, R116). -/
def execSetFrameRate (k : Pkt) (s : State) : Host.Outcome State Fault Refusal := .next (s.keepQueue (arrive 0x20 k s))

/-- LOCK_REFERENCE (0x21, R117). -/
def execLockReference (k : Pkt) (s : State) : Host.Outcome State Fault Refusal := .next (s.keepQueue (arrive 0x21 k s))

/-- GET_TIMEBASE (0x22, R118). -/
def execGetTimebase (k : Pkt) (s : State) : Host.Outcome State Fault Refusal := .next (s.keepQueue (arrive 0x22 k s))

/-- EVENT_TABLE_LOAD (0x23, R119). -/
def execEventTableLoad (k : Pkt) (s : State) : Host.Outcome State Fault Refusal := .next (s.keepQueue (arrive 0x23 k s))

/-- STROBE_CONFIG (0x24, R120). -/
def execStrobeConfig (k : Pkt) (s : State) : Host.Outcome State Fault Refusal := .next (s.keepQueue (arrive 0x24 k s))

/-! ### Exposure -/

/-- AE_CONFIG (0x30, R164). -/
def execAeConfig (k : Pkt) (s : State) : Host.Outcome State Fault Refusal := .next (s.keepQueue (arrive 0x30 k s))

/-- SET_EXPOSURE (0x31, R165). -/
def execSetExposure (k : Pkt) (s : State) : Host.Outcome State Fault Refusal := .next (s.keepQueue (arrive 0x31 k s))

/-- HDR_CONFIG (0x32, R166). -/
def execHdrConfig (k : Pkt) (s : State) : Host.Outcome State Fault Refusal := .next (s.keepQueue (arrive 0x32 k s))

/-- SEQ_CONTEXT_WRITE (0x33, R168). -/
def execSeqContextWrite (k : Pkt) (s : State) : Host.Outcome State Fault Refusal := .next (s.keepQueue (arrive 0x33 k s))

/-- SEQ_LIST_LOAD (0x34, R169). -/
def execSeqListLoad (k : Pkt) (s : State) : Host.Outcome State Fault Refusal := .next (s.keepQueue (arrive 0x34 k s))

/-- SEQ_START (0x35, R160). -/
def execSeqStart (k : Pkt) (s : State) : Host.Outcome State Fault Refusal := .next (s.keepQueue (arrive 0x35 k s))

/-- SEQ_STOP (0x36, R163). -/
def execSeqStop (k : Pkt) (s : State) : Host.Outcome State Fault Refusal := .next (s.keepQueue (arrive 0x36 k s))

/-- FLICKER_CONFIG (0x37, R167). -/
def execFlickerConfig (k : Pkt) (s : State) : Host.Outcome State Fault Refusal := .next (s.keepQueue (arrive 0x37 k s))

/-! ### Seating Plan -/

/-- SP_ENABLE (0x40, R205). -/
def execSpEnable (k : Pkt) (s : State) : Host.Outcome State Fault Refusal := .next (s.keepQueue (arrive 0x40 k s))

/-- SP_LAW_CONFIG (0x41, R206). -/
def execSpLawConfig (k : Pkt) (s : State) : Host.Outcome State Fault Refusal := .next (s.keepQueue (arrive 0x41 k s))

/-- SP_MASK_LOAD (0x42, R207). -/
def execSpMaskLoad (k : Pkt) (s : State) : Host.Outcome State Fault Refusal := .next (s.keepQueue (arrive 0x42 k s))

/-- SP_OVERRIDE (0x43, R208). -/
def execSpOverride (k : Pkt) (s : State) : Host.Outcome State Fault Refusal := .next (s.keepQueue (arrive 0x43 k s))

/-- SP_MAP_READ (0x44, R209). -/
def execSpMapRead (k : Pkt) (s : State) : Host.Outcome State Fault Refusal := .next (s.keepQueue (arrive 0x44 k s))

/-! ### Windows and the Bell -/

/-- WINDOW_SET (0x50, R247). -/
def execWindowSet (k : Pkt) (s : State) : Host.Outcome State Fault Refusal := .next (s.keepQueue (arrive 0x50 k s))

/-- WINDOW_CLEAR (0x51, R248). -/
def execWindowClear (k : Pkt) (s : State) : Host.Outcome State Fault Refusal := .next (s.keepQueue (arrive 0x51 k s))

/-- BINNING_SET (0x52, R249). -/
def execBinningSet (k : Pkt) (s : State) : Host.Outcome State Fault Refusal := .next (s.keepQueue (arrive 0x52 k s))

/-- TRIGGER_CONFIG (0x53, R250). -/
def execTriggerConfig (k : Pkt) (s : State) : Host.Outcome State Fault Refusal := .next (s.keepQueue (arrive 0x53 k s))

/-- TRIGGER_FIRE (0x54, R251). -/
def execTriggerFire (k : Pkt) (s : State) : Host.Outcome State Fault Refusal := .next (s.keepQueue (arrive 0x54 k s))

/-! ### Pipelines -/

/-- PIPE_A_CONFIG (0x60, R285). -/
def execPipeAConfig (k : Pkt) (s : State) : Host.Outcome State Fault Refusal := .next (s.keepQueue (arrive 0x60 k s))

/-- TONE_CURVE_LOAD (0x64, R286). -/
def execToneCurveLoad (k : Pkt) (s : State) : Host.Outcome State Fault Refusal := .next (s.keepQueue (arrive 0x64 k s))

/-- CCM_SET (0x65, R287). -/
def execCcmSet (k : Pkt) (s : State) : Host.Outcome State Fault Refusal := .next (s.keepQueue (arrive 0x65 k s))

/-- TNR_CONFIG (0x66, R288). -/
def execTnrConfig (k : Pkt) (s : State) : Host.Outcome State Fault Refusal := .next (s.keepQueue (arrive 0x66 k s))

/-- PIPE_B_CONFIG (0x61, R326). -/
def execPipeBConfig (k : Pkt) (s : State) : Host.Outcome State Fault Refusal := .next (s.keepQueue (arrive 0x61 k s))

/-- COMPANION_PROFILE_LOAD (0x62, R327). -/
def execCompanionProfileLoad (k : Pkt) (s : State) : Host.Outcome State Fault Refusal := .next (s.keepQueue (arrive 0x62 k s))

/-- COMPANION_REG_ACCESS (0x63, R328). -/
def execCompanionRegAccess (k : Pkt) (s : State) : Host.Outcome State Fault Refusal := .next (s.keepQueue (arrive 0x63 k s))

/-- STATS_CONFIG (0x68, R347). -/
def execStatsConfig (k : Pkt) (s : State) : Host.Outcome State Fault Refusal := .next (s.keepQueue (arrive 0x68 k s))

/-- STATS_READ (0x69, R348). -/
def execStatsRead (k : Pkt) (s : State) : Host.Outcome State Fault Refusal := .next (s.keepQueue (arrive 0x69 k s))

/-! ### Outputs -/

/-- OUTPUT_ROUTE (0x70, R390). -/
def execOutputRoute (k : Pkt) (s : State) : Host.Outcome State Fault Refusal := .next (s.keepQueue (arrive 0x70 k s))

/-- DISPLAY_FORMAT (0x71, R391). -/
def execDisplayFormat (k : Pkt) (s : State) : Host.Outcome State Fault Refusal := .next (s.keepQueue (arrive 0x71 k s))

/-- WARP_MESH_LOAD (0x72, R392). -/
def execWarpMeshLoad (k : Pkt) (s : State) : Host.Outcome State Fault Refusal := .next (s.keepQueue (arrive 0x72 k s))

/-- CODING_CONFIG (0x73, R393). -/
def execCodingConfig (k : Pkt) (s : State) : Host.Outcome State Fault Refusal := .next (s.keepQueue (arrive 0x73 k s))

/-- VISION_FORMAT (0x74, R394). -/
def execVisionFormat (k : Pkt) (s : State) : Host.Outcome State Fault Refusal := .next (s.keepQueue (arrive 0x74 k s))

/-- STREAM_PRIORITY (0x75, R395). -/
def execStreamPriority (k : Pkt) (s : State) : Host.Outcome State Fault Refusal := .next (s.keepQueue (arrive 0x75 k s))

/-! ### Link -/

/-- LINK_STATUS (0x80, R439). -/
def execLinkStatus (k : Pkt) (s : State) : Host.Outcome State Fault Refusal := .next (s.keepQueue (arrive 0x80 k s))

/-- LINK_RATE (0x81, R440). -/
def execLinkRate (k : Pkt) (s : State) : Host.Outcome State Fault Refusal := .next (s.keepQueue (arrive 0x81 k s))

/-- LANE_MAP (0x82, R440). -/
def execLaneMap (k : Pkt) (s : State) : Host.Outcome State Fault Refusal := .next (s.keepQueue (arrive 0x82 k s))

/-- FFE_REQUEST (0x83, R441). -/
def execFfeRequest (k : Pkt) (s : State) : Host.Outcome State Fault Refusal := .next (s.keepQueue (arrive 0x83 k s))

/-- PRBS_CONFIG (0x84, R442). -/
def execPrbsConfig (k : Pkt) (s : State) : Host.Outcome State Fault Refusal := .next (s.keepQueue (arrive 0x84 k s))

/-- PRBS_READ (0x85, R442). -/
def execPrbsRead (k : Pkt) (s : State) : Host.Outcome State Fault Refusal := .next (s.keepQueue (arrive 0x85 k s))

/-- LOOPBACK (0x86, R442). -/
def execLoopback (k : Pkt) (s : State) : Host.Outcome State Fault Refusal := .next (s.keepQueue (arrive 0x86 k s))

/-! ### Power, thermal and housekeeping -/

/-- POWER_STATUS (0x90, R554). -/
def execPowerStatus (k : Pkt) (s : State) : Host.Outcome State Fault Refusal := .next (s.keepQueue (arrive 0x90 k s))

/-- RAIL_CONFIG (0x91, R545). -/
def execRailConfig (k : Pkt) (s : State) : Host.Outcome State Fault Refusal := .next (s.keepQueue (arrive 0x91 k s))

/-- REPORT_CARD_READ (0x97, R553). -/
def execReportCardRead (k : Pkt) (s : State) : Host.Outcome State Fault Refusal := .next (s.keepQueue (arrive 0x97 k s))

/-- REPORT_CARD_CLEAR (0x98, R553). -/
def execReportCardClear (k : Pkt) (s : State) : Host.Outcome State Fault Refusal := .next (s.keepQueue (arrive 0x98 k s))

/-- HK_SEQUENCE_LOAD (0x92, R570). -/
def execHkSequenceLoad (k : Pkt) (s : State) : Host.Outcome State Fault Refusal := .next (s.keepQueue (arrive 0x92 k s))

/-- HK_READ (0x93, R571). -/
def execHkRead (k : Pkt) (s : State) : Host.Outcome State Fault Refusal := .next (s.keepQueue (arrive 0x93 k s))

/-- THERMAL_CONFIG (0x94, R585). -/
def execThermalConfig (k : Pkt) (s : State) : Host.Outcome State Fault Refusal := .next (s.keepQueue (arrive 0x94 k s))

/-- THROTTLE_ACK (0x95, R575). -/
def execThrottleAck (k : Pkt) (s : State) : Host.Outcome State Fault Refusal := .next (s.keepQueue (arrive 0x95 k s))

/-- HEATER_CONFIG (0x96, R580). -/
def execHeaterConfig (k : Pkt) (s : State) : Host.Outcome State Fault Refusal := .next (s.keepQueue (arrive 0x96 k s))

/-! ### OTP -/

/-- OTP_READ (0xA0, R605). -/
def execOtpRead (k : Pkt) (s : State) : Host.Outcome State Fault Refusal := .next (s.keepQueue (arrive 0xA0 k s))

/-- OTP_PROGRAM (0xA1, R606). -/
def execOtpProgram (k : Pkt) (s : State) : Host.Outcome State Fault Refusal := .next (s.keepQueue (arrive 0xA1 k s))

/-- OTP_FUSE_LOCK (0xA2, R607). -/
def execOtpFuseLock (k : Pkt) (s : State) : Host.Outcome State Fault Refusal := .next (s.keepQueue (arrive 0xA2 k s))

/-- COUNTER_ADVANCE (0xA3, R608). -/
def execCounterAdvance (k : Pkt) (s : State) : Host.Outcome State Fault Refusal := .next (s.keepQueue (arrive 0xA3 k s))

/-- OTP_STATUS (0xA4, R609). -/
def execOtpStatus (k : Pkt) (s : State) : Host.Outcome State Fault Refusal := .next (s.keepQueue (arrive 0xA4 k s))

/-! ### Security -/

/-- AUTH_HELLO (0xB0, R621). -/
def execAuthHello (k : Pkt) (s : State) : Host.Outcome State Fault Refusal := .next (s.keepQueue (arrive 0xB0 k s))

/-- AUTH_FINISH (0xB1, R621). -/
def execAuthFinish (k : Pkt) (s : State) : Host.Outcome State Fault Refusal := .next (s.keepQueue (arrive 0xB1 k s))

/-- LIVENESS_CONFIG (0xB2, R625). -/
def execLivenessConfig (k : Pkt) (s : State) : Host.Outcome State Fault Refusal := .next (s.keepQueue (arrive 0xB2 k s))

/-- NONCE_PUSH (0xB3, R628). -/
def execNoncePush (k : Pkt) (s : State) : Host.Outcome State Fault Refusal := .next (s.keepQueue (arrive 0xB3 k s))

/-- POP_QUIZ (0xB4, R635). -/
def execPopQuiz (k : Pkt) (s : State) : Host.Outcome State Fault Refusal := .next (s.keepQueue (arrive 0xB4 k s))

/-- ALARM_STATUS (0xB5, R635). -/
def execAlarmStatus (k : Pkt) (s : State) : Host.Outcome State Fault Refusal := .next (s.keepQueue (arrive 0xB5 k s))

/-- ALARM_CLEAR (0xB6, R634). -/
def execAlarmClear (k : Pkt) (s : State) : Host.Outcome State Fault Refusal := .next (s.keepQueue (arrive 0xB6 k s))

/-! ### Recorder -/

/-- REC_MOUNT (0xC0, R655). -/
def execRecMount (k : Pkt) (s : State) : Host.Outcome State Fault Refusal := .next (s.keepQueue (arrive 0xC0 k s))

/-- REC_CONFIG (0xC1, R655). -/
def execRecConfig (k : Pkt) (s : State) : Host.Outcome State Fault Refusal := .next (s.keepQueue (arrive 0xC1 k s))

/-- REC_EVENT (0xC2, R650). -/
def execRecEvent (k : Pkt) (s : State) : Host.Outcome State Fault Refusal := .next (s.keepQueue (arrive 0xC2 k s))

/-- REC_INDEX_READ (0xC3, R655). -/
def execRecIndexRead (k : Pkt) (s : State) : Host.Outcome State Fault Refusal := .next (s.keepQueue (arrive 0xC3 k s))

/-- REC_CLIP_READ (0xC4, R654). -/
def execRecClipRead (k : Pkt) (s : State) : Host.Outcome State Fault Refusal := .next (s.keepQueue (arrive 0xC4 k s))

/-- REC_ERASE (0xC5, R655). -/
def execRecErase (k : Pkt) (s : State) : Host.Outcome State Fault Refusal := .next (s.keepQueue (arrive 0xC5 k s))

/-- REC_UNMOUNT (0xC6, R655). -/
def execRecUnmount (k : Pkt) (s : State) : Host.Outcome State Fault Refusal := .next (s.keepQueue (arrive 0xC6 k s))

/-! ### Firmware -/

/-- FW_STAGE_BEGIN (0xD0, R667). -/
def execFwStageBegin (k : Pkt) (s : State) : Host.Outcome State Fault Refusal := .next (s.keepQueue (arrive 0xD0 k s))

/-- FW_STAGE_CHUNK (0xD1, R667). -/
def execFwStageChunk (k : Pkt) (s : State) : Host.Outcome State Fault Refusal := .next (s.keepQueue (arrive 0xD1 k s))

/-- FW_STAGE_VERIFY (0xD2, R670). -/
def execFwStageVerify (k : Pkt) (s : State) : Host.Outcome State Fault Refusal := .next (s.keepQueue (arrive 0xD2 k s))

/-- FW_SWITCH (0xD3, R668). -/
def execFwSwitch (k : Pkt) (s : State) : Host.Outcome State Fault Refusal := .next (s.keepQueue (arrive 0xD3 k s))

/-- FW_INFO (0xD4, R670). -/
def execFwInfo (k : Pkt) (s : State) : Host.Outcome State Fault Refusal := .next (s.keepQueue (arrive 0xD4 k s))

/-! ### Diagnostics -/

/-- SELFTEST_RUN (0xE0, R670). -/
def execSelftestRun (k : Pkt) (s : State) : Host.Outcome State Fault Refusal := .next (s.keepQueue (arrive 0xE0 k s))

/-- FAULT_READ (0xE1, R670). -/
def execFaultRead (k : Pkt) (s : State) : Host.Outcome State Fault Refusal := .next (s.keepQueue (arrive 0xE1 k s))

/-- FAULT_CLEAR (0xE2, R670). -/
def execFaultClear (k : Pkt) (s : State) : Host.Outcome State Fault Refusal := .next (s.keepQueue (arrive 0xE2 k s))

/-- ECC_STATUS (0xE3, R670). -/
def execEccStatus (k : Pkt) (s : State) : Host.Outcome State Fault Refusal := .next (s.keepQueue (arrive 0xE3 k s))

/-- ROLL_CALL_RESULT (0xE4, R499). -/
def execRollCallResult (k : Pkt) (s : State) : Host.Outcome State Fault Refusal := .next (s.keepQueue (arrive 0xE4 k s))

end Sys2Proof.Machine
end

