-- ==== Sys2Proof/Machine/Dispatch.lean ====
section
/-!
DEFINITION. The meaning of every command: one arm per constructor of `Instr`, in the order of the table.
-/

namespace Sys2Proof.Machine

def exec (i : Instr) (s : State) : Host.Outcome State Fault Refusal :=
  match i with
  | .ping k => Sys2Proof.Machine.execPing k s
  | .getIdentity k => Sys2Proof.Machine.execGetIdentity k s
  | .getStatus k => Sys2Proof.Machine.execGetStatus k s
  | .setMode k => Sys2Proof.Machine.execSetMode k s
  | .getMode k => Sys2Proof.Machine.execGetMode k s
  | .softReset k => Sys2Proof.Machine.execSoftReset k s
  | .eventMask k => Sys2Proof.Machine.execEventMask k s
  | .hallPassQuery k => Sys2Proof.Machine.execHallPassQuery k s
  | .regRead k => Sys2Proof.Machine.execRegRead k s
  | .regWrite k => Sys2Proof.Machine.execRegWrite k s
  | .regModify k => Sys2Proof.Machine.execRegModify k s
  | .regReadBlock k => Sys2Proof.Machine.execRegReadBlock k s
  | .regWriteBlock k => Sys2Proof.Machine.execRegWriteBlock k s
  | .tableWrite k => Sys2Proof.Machine.execTableWrite k s
  | .tableRead k => Sys2Proof.Machine.execTableRead k s
  | .settingsCommit k => Sys2Proof.Machine.execSettingsCommit k s
  | .setFrameRate k => Sys2Proof.Machine.execSetFrameRate k s
  | .lockReference k => Sys2Proof.Machine.execLockReference k s
  | .getTimebase k => Sys2Proof.Machine.execGetTimebase k s
  | .eventTableLoad k => Sys2Proof.Machine.execEventTableLoad k s
  | .strobeConfig k => Sys2Proof.Machine.execStrobeConfig k s
  | .aeConfig k => Sys2Proof.Machine.execAeConfig k s
  | .setExposure k => Sys2Proof.Machine.execSetExposure k s
  | .hdrConfig k => Sys2Proof.Machine.execHdrConfig k s
  | .seqContextWrite k => Sys2Proof.Machine.execSeqContextWrite k s
  | .seqListLoad k => Sys2Proof.Machine.execSeqListLoad k s
  | .seqStart k => Sys2Proof.Machine.execSeqStart k s
  | .seqStop k => Sys2Proof.Machine.execSeqStop k s
  | .flickerConfig k => Sys2Proof.Machine.execFlickerConfig k s
  | .spEnable k => Sys2Proof.Machine.execSpEnable k s
  | .spLawConfig k => Sys2Proof.Machine.execSpLawConfig k s
  | .spMaskLoad k => Sys2Proof.Machine.execSpMaskLoad k s
  | .spOverride k => Sys2Proof.Machine.execSpOverride k s
  | .spMapRead k => Sys2Proof.Machine.execSpMapRead k s
  | .windowSet k => Sys2Proof.Machine.execWindowSet k s
  | .windowClear k => Sys2Proof.Machine.execWindowClear k s
  | .binningSet k => Sys2Proof.Machine.execBinningSet k s
  | .triggerConfig k => Sys2Proof.Machine.execTriggerConfig k s
  | .triggerFire k => Sys2Proof.Machine.execTriggerFire k s
  | .pipeAConfig k => Sys2Proof.Machine.execPipeAConfig k s
  | .toneCurveLoad k => Sys2Proof.Machine.execToneCurveLoad k s
  | .ccmSet k => Sys2Proof.Machine.execCcmSet k s
  | .tnrConfig k => Sys2Proof.Machine.execTnrConfig k s
  | .pipeBConfig k => Sys2Proof.Machine.execPipeBConfig k s
  | .companionProfileLoad k => Sys2Proof.Machine.execCompanionProfileLoad k s
  | .companionRegAccess k => Sys2Proof.Machine.execCompanionRegAccess k s
  | .statsConfig k => Sys2Proof.Machine.execStatsConfig k s
  | .statsRead k => Sys2Proof.Machine.execStatsRead k s
  | .outputRoute k => Sys2Proof.Machine.execOutputRoute k s
  | .displayFormat k => Sys2Proof.Machine.execDisplayFormat k s
  | .warpMeshLoad k => Sys2Proof.Machine.execWarpMeshLoad k s
  | .codingConfig k => Sys2Proof.Machine.execCodingConfig k s
  | .visionFormat k => Sys2Proof.Machine.execVisionFormat k s
  | .streamPriority k => Sys2Proof.Machine.execStreamPriority k s
  | .linkStatus k => Sys2Proof.Machine.execLinkStatus k s
  | .linkRate k => Sys2Proof.Machine.execLinkRate k s
  | .laneMap k => Sys2Proof.Machine.execLaneMap k s
  | .ffeRequest k => Sys2Proof.Machine.execFfeRequest k s
  | .prbsConfig k => Sys2Proof.Machine.execPrbsConfig k s
  | .prbsRead k => Sys2Proof.Machine.execPrbsRead k s
  | .loopback k => Sys2Proof.Machine.execLoopback k s
  | .powerStatus k => Sys2Proof.Machine.execPowerStatus k s
  | .railConfig k => Sys2Proof.Machine.execRailConfig k s
  | .reportCardRead k => Sys2Proof.Machine.execReportCardRead k s
  | .reportCardClear k => Sys2Proof.Machine.execReportCardClear k s
  | .hkSequenceLoad k => Sys2Proof.Machine.execHkSequenceLoad k s
  | .hkRead k => Sys2Proof.Machine.execHkRead k s
  | .thermalConfig k => Sys2Proof.Machine.execThermalConfig k s
  | .throttleAck k => Sys2Proof.Machine.execThrottleAck k s
  | .heaterConfig k => Sys2Proof.Machine.execHeaterConfig k s
  | .otpRead k => Sys2Proof.Machine.execOtpRead k s
  | .otpProgram k => Sys2Proof.Machine.execOtpProgram k s
  | .otpFuseLock k => Sys2Proof.Machine.execOtpFuseLock k s
  | .counterAdvance k => Sys2Proof.Machine.execCounterAdvance k s
  | .otpStatus k => Sys2Proof.Machine.execOtpStatus k s
  | .authHello k => Sys2Proof.Machine.execAuthHello k s
  | .authFinish k => Sys2Proof.Machine.execAuthFinish k s
  | .livenessConfig k => Sys2Proof.Machine.execLivenessConfig k s
  | .noncePush k => Sys2Proof.Machine.execNoncePush k s
  | .popQuiz k => Sys2Proof.Machine.execPopQuiz k s
  | .alarmStatus k => Sys2Proof.Machine.execAlarmStatus k s
  | .alarmClear k => Sys2Proof.Machine.execAlarmClear k s
  | .recMount k => Sys2Proof.Machine.execRecMount k s
  | .recConfig k => Sys2Proof.Machine.execRecConfig k s
  | .recEvent k => Sys2Proof.Machine.execRecEvent k s
  | .recIndexRead k => Sys2Proof.Machine.execRecIndexRead k s
  | .recClipRead k => Sys2Proof.Machine.execRecClipRead k s
  | .recErase k => Sys2Proof.Machine.execRecErase k s
  | .recUnmount k => Sys2Proof.Machine.execRecUnmount k s
  | .fwStageBegin k => Sys2Proof.Machine.execFwStageBegin k s
  | .fwStageChunk k => Sys2Proof.Machine.execFwStageChunk k s
  | .fwStageVerify k => Sys2Proof.Machine.execFwStageVerify k s
  | .fwSwitch k => Sys2Proof.Machine.execFwSwitch k s
  | .fwInfo k => Sys2Proof.Machine.execFwInfo k s
  | .selftestRun k => Sys2Proof.Machine.execSelftestRun k s
  | .faultRead k => Sys2Proof.Machine.execFaultRead k s
  | .faultClear k => Sys2Proof.Machine.execFaultClear k s
  | .eccStatus k => Sys2Proof.Machine.execEccStatus k s
  | .rollCallResult k => Sys2Proof.Machine.execRollCallResult k s
  | .registerWrite addr value => Sys2Proof.Machine.execRegisterWrite addr value s
  | .cnvCalStart value => Sys2Proof.Machine.execCnvCalStart value s
  | .ttCommitReq => Sys2Proof.Machine.execTtCommitReq s
  | .tplCheck value => Sys2Proof.Machine.execTplCheck value s
  | .seqCtrlStart value => Sys2Proof.Machine.execSeqCtrlStart value s
  | .seqCtrlStop value => Sys2Proof.Machine.execSeqCtrlStop value s
  | .companionEnable value => Sys2Proof.Machine.execCompanionEnable value s
  | .companionDisable value => Sys2Proof.Machine.execCompanionDisable value s
  | .profCheck value => Sys2Proof.Machine.execProfCheck value s
  | .hkApply => Sys2Proof.Machine.execHkApply s
  | .lnkTestStart value => Sys2Proof.Machine.execLnkTestStart value s
  | .lnkLoopWrite value => Sys2Proof.Machine.execLnkLoopWrite value s
  | .lnkCfgWrite value => Sys2Proof.Machine.execLnkCfgWrite value s
  | .relock pll value => Sys2Proof.Machine.execRelock pll value s
  | .sysCtrlSoftReset => Sys2Proof.Machine.execSysCtrlSoftReset s
  | .kick => Sys2Proof.Machine.execKick s
  | .counterClr addr => Sys2Proof.Machine.execCounterClr addr s
  | .lockSet addr => Sys2Proof.Machine.execLockSet addr s
  | .otpLockWrite value => Sys2Proof.Machine.execOtpLockWrite value s
  | .ttTbLoRead => Sys2Proof.Machine.execTtTbLoRead s
  | .belLastLoRead => Sys2Proof.Machine.execBelLastLoRead s
  | .pbVstbLoRead => Sys2Proof.Machine.execPbVstbLoRead s
  | .lnkPrbsbitsLoRead => Sys2Proof.Machine.execLnkPrbsbitsLoRead s
  | .vinRise vin => Sys2Proof.Machine.execVinRise vin s
  | .uvlo vin => Sys2Proof.Machine.execUvlo vin s
  | .vinHi vin => Sys2Proof.Machine.execVinHi vin s
  | .surge vin => Sys2Proof.Machine.execSurge vin s
  | .surgeRecovery vin => Sys2Proof.Machine.execSurgeRecovery vin s
  | .resetNAssert => Sys2Proof.Machine.execResetNAssert s
  | .resetRelease refclk measuredKhz emmc => Sys2Proof.Machine.execResetRelease refclk measuredKhz emmc s
  | .softStartStep => Sys2Proof.Machine.execSoftStartStep s
  | .softStartTimeout rail => Sys2Proof.Machine.execSoftStartTimeout rail s
  | .railFault rail => Sys2Proof.Machine.execRailFault rail s
  | .railOv rail => Sys2Proof.Machine.execRailOv rail s
  | .hiccupRestart rail => Sys2Proof.Machine.execHiccupRestart rail s
  | .vcmdDone rail => Sys2Proof.Machine.execVcmdDone rail s
  | .vcmdTimeout rail => Sys2Proof.Machine.execVcmdTimeout rail s
  | .vidFrame bits => Sys2Proof.Machine.execVidFrame bits s
  | .phaseShed => Sys2Proof.Machine.execPhaseShed s
  | .shedAbort => Sys2Proof.Machine.execShedAbort s
  | .shedHoldExpiry => Sys2Proof.Machine.execShedHoldExpiry s
  | .thermalComparatorTrip sensor => Sys2Proof.Machine.execThermalComparatorTrip sensor s
  | .pllLockDone pll band kvco roll => Sys2Proof.Machine.execPllLockDone pll band kvco roll s
  | .lossOfLock pll => Sys2Proof.Machine.execLossOfLock pll s
  | .referenceLost => Sys2Proof.Machine.execReferenceLost s
  | .referenceReturn => Sys2Proof.Machine.execReferenceReturn s
  | .dramReady pass us selftests => Sys2Proof.Machine.execDramReady pass us selftests s
  | .quickCalibration sums => Sys2Proof.Machine.execQuickCalibration sums s
  | .firmwareReady => Sys2Proof.Machine.execFirmwareReady s
  | .takeoverTimeout => Sys2Proof.Machine.execTakeoverTimeout s
  | .backChannelFrame chars ended => Sys2Proof.Machine.execBackChannelFrame chars ended s
  | .mark after line hfc crc => Sys2Proof.Machine.execMark after line hfc crc s
  | .markMissed => Sys2Proof.Machine.execMarkMissed s
  | .coastTimeout => Sys2Proof.Machine.execCoastTimeout s
  | .acquireTimeout => Sys2Proof.Machine.execAcquireTimeout s
  | .lstate b ack crc => Sys2Proof.Machine.execLstate b ack crc s
  | .laneReadd lane => Sys2Proof.Machine.execLaneReadd lane s
  | .hostSilent => Sys2Proof.Machine.execHostSilent s
  | .bcIdle chars violation => Sys2Proof.Machine.execBcIdle chars violation s
  | .bcAdaptWindow transitions violation steps => Sys2Proof.Machine.execBcAdaptWindow transitions violation steps s
  | .eyeMonitor height width => Sys2Proof.Machine.execEyeMonitor height width s
  | .linkActive => Sys2Proof.Machine.execLinkActive s
  | .trainTimeout => Sys2Proof.Machine.execTrainTimeout s
  | .ffeApply lane => Sys2Proof.Machine.execFfeApply lane s
  | .testEnd => Sys2Proof.Machine.execTestEnd s
  | .frameStart => Sys2Proof.Machine.execFrameStart s
  | .commitEvent => Sys2Proof.Machine.execCommitEvent s
  | .rowReset row => Sys2Proof.Machine.execRowReset row s
  | .blockReset row k => Sys2Proof.Machine.execBlockReset row k s
  | .shortReset row => Sys2Proof.Machine.execShortReset row s
  | .longRead row record => Sys2Proof.Machine.execLongRead row record s
  | .shortRead row => Sys2Proof.Machine.execShortRead row s
  | .popQuizEvent n => Sys2Proof.Machine.execPopQuizEvent n s
  | .strobeOn => Sys2Proof.Machine.execStrobeOn s
  | .strobeOff => Sys2Proof.Machine.execStrobeOff s
  | .lstep => Sys2Proof.Machine.execLstep s
  | .statsCut => Sys2Proof.Machine.execStatsCut s
  | .conversionCycle rows => Sys2Proof.Machine.execConversionCycle rows s
  | .offsetTracking sums => Sys2Proof.Machine.execOffsetTracking sums s
  | .statsSetClose => Sys2Proof.Machine.execStatsSetClose s
  | .aeRun => Sys2Proof.Machine.execAeRun s
  | .awbRun => Sys2Proof.Machine.execAwbRun s
  | .displayLineDue line => Sys2Proof.Machine.execDisplayLineDue line s
  | .dstall => Sys2Proof.Machine.execDstall s
  | .bellTake => Sys2Proof.Machine.execBellTake s
  | .trigInEdge after falling held => Sys2Proof.Machine.execTrigInEdge after falling held s
  | .triggerAtReached => Sys2Proof.Machine.execTriggerAtReached s
  | .bellBusyEnd => Sys2Proof.Machine.execBellBusyEnd s
  | .calibrationComplete sums => Sys2Proof.Machine.execCalibrationComplete sums s
  | .companionPowerupDelay => Sys2Proof.Machine.execCompanionPowerupDelay s
  | .companionStartTimeout => Sys2Proof.Machine.execCompanionStartTimeout s
  | .companionPowerdownDelay => Sys2Proof.Machine.execCompanionPowerdownDelay s
  | .companionFrameStart after line => Sys2Proof.Machine.execCompanionFrameStart after line s
  | .companionFrameEnd frame => Sys2Proof.Machine.execCompanionFrameEnd frame s
  | .writeSetBurst => Sys2Proof.Machine.execWriteSetBurst s
  | .i2cTransferDone result data late => Sys2Proof.Machine.execI2cTransferDone result data late s
  | .companionLost => Sys2Proof.Machine.execCompanionLost s
  | .pclkTimeout => Sys2Proof.Machine.execPclkTimeout s
  | .hkFastRound conv codes => Sys2Proof.Machine.execHkFastRound conv codes s
  | .hkTick codesA codesB => Sys2Proof.Machine.execHkTick codesA codesB s
  | .urgentRequest codes => Sys2Proof.Machine.execUrgentRequest codes s
  | .unsolicitedUrgentRequest codes => Sys2Proof.Machine.execUnsolicitedUrgentRequest codes s
  | .graceExpiry => Sys2Proof.Machine.execGraceExpiry s
  | .clearHoldExpiry => Sys2Proof.Machine.execClearHoldExpiry s
  | .enf2Timeout => Sys2Proof.Machine.execEnf2Timeout s
  | .heaterPwmOff => Sys2Proof.Machine.execHeaterPwmOff s
  | .otpWordProgrammed short loose => Sys2Proof.Machine.execOtpWordProgrammed short loose s
  | .alarmDetect source => Sys2Proof.Machine.execAlarmDetect source s
  | .handshakeDone => Sys2Proof.Machine.execHandshakeDone s
  | .handshakeTimeout => Sys2Proof.Machine.execHandshakeTimeout s
  | .watchdog => Sys2Proof.Machine.execWatchdog s
  | .lockstep => Sys2Proof.Machine.execLockstep s
  | .memUncorr memory => Sys2Proof.Machine.execMemUncorr memory s
  | .switchLoadDone => Sys2Proof.Machine.execSwitchLoadDone s
  | .switchTimeout => Sys2Proof.Machine.execSwitchTimeout s
  | .parkingFrame sums => Sys2Proof.Machine.execParkingFrame sums s
  | .externalWake => Sys2Proof.Machine.execExternalWake s
  | .wakePulseEnd => Sys2Proof.Machine.execWakePulseEnd s
  | .parkingLinkIdle => Sys2Proof.Machine.execParkingLinkIdle s
  | .warmStartWrite => Sys2Proof.Machine.execWarmStartWrite s
  | .chalkboardAdd => Sys2Proof.Machine.execChalkboardAdd s
  | .emmcCommandDone good => Sys2Proof.Machine.execEmmcCommandDone good s
  | .postWindowEnd => Sys2Proof.Machine.execPostWindowEnd s
  | .clipWriteComplete => Sys2Proof.Machine.execClipWriteComplete s
  | .mountComplete responds superblock => Sys2Proof.Machine.execMountComplete responds superblock s
  | .wearCheck lifeA lifeB preEol => Sys2Proof.Machine.execWearCheck lifeA lifeB preEol s
  | .unpowered => Sys2Proof.Machine.execUnpowered s
  | .vinHiEnd => Sys2Proof.Machine.execVinHiEnd s
  | .recessResume => Sys2Proof.Machine.execRecessResume s
  | .pendingSetTaken => Sys2Proof.Machine.execPendingSetTaken s
  | .frameEnd => Sys2Proof.Machine.execFrameEnd s
  | .mtpWriteDone => Sys2Proof.Machine.execMtpWriteDone s
  | .slewComplete => Sys2Proof.Machine.execSlewComplete s
  | .planLockTimeout pll => Sys2Proof.Machine.execPlanLockTimeout pll s
  | .healthTestPass => Sys2Proof.Machine.execHealthTestPass s
  | .finishCheckDone => Sys2Proof.Machine.execFinishCheckDone s
  | .stageVerifyDone => Sys2Proof.Machine.execStageVerifyDone s
  | .selftestComplete passed => Sys2Proof.Machine.execSelftestComplete passed s
  | .pclkEdge => Sys2Proof.Machine.execPclkEdge s

end Sys2Proof.Machine
end

