-- ==== Sys2Proof/Safety.lean ====
section
/-!
DEFINITION. The terms that statements use: a packet that the device takes at once and what serving it comes to; and what every run
keeps: fuses never return, and the OTP reads no bit blown at the strict reference alone.
-/

namespace Sys2Proof.Machine

open Sys2Proof (Word Pkt)

/-! ### Commands -/

/-- A packet comes in its fields' widths, with the RSVD bits 0, without ORDER, and with the SEQ that follows the last one. -/
def wellSent (k : Pkt) (s : State) : Bool :=
  decide (k.tag < 4096) && decide (k.gen < 16) && k.rsvd == 0 && decide (k.seq < 65536) && !k.order &&
  (match s.fe.lastSeq with
    | some p => (p + 1) % 65536 == k.seq
    | none => true)

/-- The device can take a packet at once: it is out of reset, in another mode than PARKING_WATCH, echoes no frames (R436), the program
behind the front end runs, nothing is held before the packet, and its tag is free. -/
def takesNow (k : Pkt) (s : State) : Bool :=
  s.sys.phase != .unpowered && s.sys.phase != .reset && s.sys.mode != 7 && !s.lnk.echo && s.serverUp && s.fe.held.isEmpty &&
  !s.busy.contains k.tag

/-- A command passes the checks of R458 before those of its own chapter: its length lies in its range, it is legal in the mode, and
its length is that of its field values. -/
def passes (op : Nat) (k : Pkt) (s : State) : Bool :=
  (match findCmd op with
    | some c => decide (c.lo ≤ k.payload.length) && decide (k.payload.length ≤ c.hi)
    | none => false) && decide (k.payload.length ≤ 256) && legalIn op s.checkMode && formOk op k

/-- A command that the device takes at once, up to the checks of its own chapter. -/
def ready (op : Nat) (k : Pkt) (s : State) : Bool := wellSent k s && takesNow k s && passes op k s

/-- The state in which a command that is taken at once is served: its SEQ is noted and its credits are released. -/
def State.takes (s : State) (op : Nat) (k : Pkt) : State :=
  let n := k.payload.length
  let c := charge op n
  { s with fe := { s.fe with
      lastSeq := some k.seq, lastSeqVal := k.seq, hdrRel := (s.fe.hdrRel + c.1) % 65536, payRel := (s.fe.payRel + c.2) % 65536 } }

/-- What a command comes to that leaves `t` and is answered with `a`. -/
def answered (s : State) (op : Nat) (k : Pkt) (a : Ans) (t : State) : Host.Outcome State Fault Refusal :=
  .next (s.keepQueue (t.answer op k a))

/-- The command `i` with the packet `k` and opcode `op` is answered OK at once with the payload `pl`, and leaves `t` (R469, R472): FN of
the reply is the number of the frame being read (R470). -/
def okay (i : Pkt → Instr) (op : Nat) (k : Pkt) (s : State) (pl : List Word) (t : State) : Prop :=
  exec (i k) s = answered s op k (.done 0 t.tt.fn pl) t

/-- The command is answered at once, with OK or, where it changed a field that enforcement holds, DEGRADED (R576), and leaves `t`. -/
def okayHeld (i : Pkt → Instr) (op : Nat) (k : Pkt) (s : State) (pl : List Word) (t : State) : Prop :=
  exec (i k) s = answered s op k (.done (heldStatus (s.takes op k) t) t.tt.fn pl) t

/-- The command is answered OK at once, FN of the reply being `fn`. -/
def okayAt (i : Pkt → Instr) (op : Nat) (k : Pkt) (s : State) (fn : Nat) (pl : List Word) (t : State) : Prop :=
  exec (i k) s = answered s op k (.done 0 fn pl) t

/-- The command is answered ACCEPTED, its final reply following later, and leaves `t`. -/
def begun (i : Pkt → Instr) (op : Nat) (k : Pkt) (s : State) (t : State) : Prop := exec (i k) s = answered s op k (.accepted []) t

/-- The command is begun and leaves `t`; its one reply follows later. -/
def opened (i : Pkt → Instr) (op : Nat) (k : Pkt) (s : State) (t : State) : Prop := exec (i k) s = answered s op k .later t

/-- The command is answered ACCEPTED and with its final reply OK at once, and leaves `t`. -/
def both (i : Pkt → Instr) (op : Nat) (k : Pkt) (s : State) (t : State) : Prop := exec (i k) s = answered s op k (.both 0 t.tt.fn []) t

/-- The command is refused with the status `st` and the payload `pl`, and leaves `t`. -/
def turned (i : Pkt → Instr) (op : Nat) (k : Pkt) (s : State) (st : Nat) (pl : List Word) (t : State) : Prop :=
  exec (i k) s = answered s op k (.done st t.tt.fn pl) t

/-- The row `i` of the table leaves `t`, but for the queue and the OTP cells, which stay. -/
def moves (i : Instr) (s t : State) : Prop := exec i s = .next (s.keepQueue t)

/-- A packet reaches checks 4 to 7 of R458: the device is out of reset, in another mode than PARKING_WATCH, echoes no frames (R436),
and the tag is free. The program behind the front end need not run. -/
def reaches (k : Pkt) (s : State) : Bool :=
  s.sys.phase != .unpowered && s.sys.phase != .reset && s.sys.mode != 7 && !s.lnk.echo && !s.busy.contains k.tag

/-! ### Runs -/

/-- The bits of `a` are among those of `b`. -/
def within (a b : Word) : Prop := a &&& b = a

/-- A fuse once blown stays blown (R592): every OTP word holds in `t`, at both sense references, at least the bits it held in `s`. -/
def FusesKept (s t : State) : Prop :=
  ∀ a : Nat, within (s.otp.cell a).1 (t.otp.cell a).1 ∧ within (s.otp.cell a).2 (t.otp.cell a).2

/-- No class holds more entries of its own than are reserved for it, and the pool gives no more than it has (R17). -/
def IcnBounded (s : State) : Prop :=
  (∀ c : Nat, (s.icn.taken.filter (fun r => r.cls == c && !r.pooled)).length ≤ icnReserved c) ∧
  (s.icn.taken.filter (fun r => r.pooled)).length ≤ icnPool

/-- A bit that reads blown at the strict reference reads blown at the loose one (R592, R593). -/
def OtpSound (s : State) : Prop := ∀ a : Nat, within (s.otp.cell a).1 (s.otp.cell a).2

end Sys2Proof.Machine
end

