-- ==== Sys2Proof/Certificates/Slice0/Obligations.lean ====
section
/-!
DEFINITION. The statements for the provers. `ready op k s` says that the packet `k` of the command with opcode `op` is taken at once
in the state `s` and passes the checks of R458 that stand before those of its own chapter; `s.takes op k` is the state in which it is
then served; `okay`, `begun`, `opened`, `both` and `turned` say how it is answered and which state it leaves.
-/

open Sys2Proof (Word Pkt Instr)
open Sys2Proof.Machine

/-! ### Commands: System, Register, Timetable -/

/-- GET_IDENTITY (R698), GET_STATUS (R699), GET_MODE (R493) and EVENT_MASK (R480): the words of their replies; but for EVENT_MASK they
change nothing, and EVENT_MASK sets the mask, whose bits 0, 0x0B and 0x14 are always 0. ROLL_CALL_RESULT (R499) is such a read. -/
def Obligations.SystemCommandsAnswer : Prop :=
  ∀ (k : Pkt) (s : State),
    (ready 0x01 k s = true →
      okay .getIdentity 0x01 k s
        [s.readAt R.SYS_ID, s.readAt R.ARR_ID, s.readAt R.SYS_UID_LO, s.readAt R.SYS_UID_HI, s.readAt R.SAF_FWSTAT,
          s.readAt R.OTP_FW_VERSION, s.readAt R.OTP_KEY_EPOCH,
          if s.sys.hrSrc = 2 then 0#32 else w32 (bits (s.homeroom.getD 0 0#32) 16 16)]
        (s.takes 0x01 k)) ∧
    (ready 0x02 k s = true →
      okay .getStatus 0x02 k s
        [s.readAt R.SYS_STAT, s.readAt R.SYS_MODE, w32 s.tt.fn, s.readAt R.TT_STAT, s.readAt R.LNK_STAT, s.readAt R.SAF_ACTIVE,
          s.readAt R.THM_MAX, s.readAt R.PWR_STAT, s.readAt R.SEC_STAT, s.readAt R.REC_STAT]
        (s.takes 0x02 k)) ∧
    (ready 0x04 k s = true →
      okay .getMode 0x04 k s
        [s.modeWord, w32 s.sys.firstFn, w32 (s.sys.tExp + s.sys.tTake * 65536), w32 (s.sys.firstDisp.getD 0xFFFFFFFF),
          w32 s.sys.tDisp]
        (s.takes 0x04 k)) ∧
    (ready 0x06 k s = true →
      okay .eventMask 0x06 k s [pw k 0 &&& 0xFFEFF7FE#32]
        { s.takes 0x06 k with fe := { (s.takes 0x06 k).fe with evMask := (pw k 0 &&& 0xFFEFF7FE#32).toNat } }) ∧
    (ready 0xE4 k s = true →
      okay .rollCallResult 0xE4 k s [w32 s.sys.rollFails, w32 (s.sys.rollUs + s.sys.rollUs2 * 65536)] (s.takes 0xE4 k))

/-- The front end answers PING with the payload it brought (R477) and HALL_PASS_QUERY with the credits (R468) itself: the program
behind it need not run. Neither is charged a credit. -/
def Obligations.FrontEndAnswersItself : Prop :=
  ∀ (k : Pkt) (s : State), wellSent k s = true → reaches k s = true →
    (k.payload.length ≤ 256 →
      okay .ping 0x00 k s k.payload { s with fe := { s.fe with lastSeq := some k.seq, lastSeqVal := k.seq } }) ∧
    (k.payload = [] →
      okay .hallPassQuery 0x08 k s
        [w32 (4096 + 2048 * 65536), w32 (s.fe.hdrRel + s.fe.payRel * 65536), w32 (s.fe.held.length + k.seq * 65536)]
        { s with fe := { s.fe with lastSeq := some k.seq, lastSeqVal := k.seq } })

/-- SET_MODE (R488, R491, R492). A target that is the present mode is answered OK and changes nothing. A change to another mode that the
matrix allows from here is decided while a frame is read, and it then waits for that frame. With no frame read it takes effect at once:
the mode is the target, and the present one is the previous mode. PARKING_WATCH takes its parameters from w1, and SERVICE needs a
trailer. -/
def Obligations.SetModeChangesMode : Prop :=
  ∀ (k : Pkt) (s : State), ready 0x03 k s = true →
    let u := s.takes 0x03 k
    let m := pf k 0 0 4
    let w := pw k 1
    let p : State := { u with sys := { u.sys with park := { u.sys.park with
      dth := max 1 (bits w 0 8), ncell := bits w 8 16, nfrm := max 1 (bits w 24 4), autostream := bit w 28, record := bit w 29 } } }
    let decided := fun (t : State) => ({ t with sys := { t.sys with chg := some ⟨m, s.tt.clk, none⟩ } } : State)
    (s.checkMode ≠ 0xB → [2, 3, 5, 7, 8, 9, 0xA, 0xC].contains m = true → m = s.checkMode → s.sys.chg = none →
      okay .setMode 0x03 k s [] u) ∧
    (s.lnk.test = none → s.lnk.loop = none → s.sys.chg = none → (modeTargets s.checkMode).contains m = true → m ≠ s.checkMode →
      (s.tt.run = true → s.sys.mode ≠ 4 →
        ((m ≠ 7 ∧ m ≠ 0xC → opened .setMode 0x03 k s (decided u)) ∧
         (m = 7 → bits w 8 16 ≠ 0 → opened .setMode 0x03 k s (decided p)) ∧
         (m = 0xC → u.trailerReason 0x03 k true = none → opened .setMode 0x03 k s (decided (u.takeTrailer k))))) ∧
      (s.tt.run = false → s.sys.phase = .run →
        (m = 7 → bits w 8 16 ≠ 0) → (m = 0xC → u.trailerReason 0x03 k true = none) →
        ∃ t, exec (.setMode k) s = .next t ∧ t.sys.mode = m ∧ t.sys.prev = s.sys.mode ∧ t.sys.chg = none))

/-- SOFT_RESET while the firmware runs. Its OK is the last reply: after it nothing is sent, and where the lanes carry replies and neither
a reply nor an event waits it is the one packet sent. It leaves the front end empty: no packet held, no tag busy, no event, an EVENT_MASK
of 0, no SEQ to compare, both credit counts 0 and the nine counters of bank CMD 0. The session, a handshake, an OTP job, a switch and the
clips in progress are gone. The firmware restarts. The mode, the Timetable, and the staged, pending and taken settings stay. -/
def Obligations.SoftResetClearsFrontEnd : Prop :=
  ∀ (k : Pkt) (s : State), ready 0x05 k s = true → s.sys.fw = .running → s.sys.takenOver = true →
    let ok := Ctl.reply 0x05 k.tag k.gen 0 (s.tt.fn % 2 ^ 22) []
    ∃ t, exec (.softReset k) s = .next t ∧
      (t.fe.out ++ t.fe.waiting).getLast? = some ok ∧
      (s.canSend = true → s.fe.waiting = [] → s.fe.events = [] → t.fe.out = s.fe.out ++ [ok] ∧ t.fe.waiting = []) ∧
      t.fe.held = [] ∧ t.fe.opn = [] ∧ t.fe.events = [] ∧ t.fe.evMask = 0 ∧ t.fe.lastSeq = none ∧ t.fe.hdrRel = 0 ∧ t.fe.payRel = 0 ∧
      (∀ i : Nat, i < 9 → t.reg (R.CMD_FRAMING + i) = 0#32) ∧
      t.sec.sess = none ∧ t.sec.hand = none ∧ t.otp.job = none ∧ t.saf.switching = none ∧ t.rec_.opens = [] ∧
      t.sys.fw = .restarting ∧ t.sys.mode = s.sys.mode ∧ t.tt = s.tt ∧ t.stg = s.stg ∧ t.pend = s.pend ∧ t.taken = s.taken

/-- The register commands (R482, R483, R485): REG_READ and REG_READ_BLOCK answer what the registers read as; REG_WRITE, REG_MODIFY and
REG_WRITE_BLOCK leave what the writes bring, REG_MODIFY with the value read before it, and are answered DEGRADED where they change a field
that an enforcement level holds (R576); TABLE_WRITE and TABLE_READ write and read words
of a window. -/
def Obligations.RegisterCommandsAnswer : Prop :=
  ∀ (k : Pkt) (s : State),
    let a := pf k 0 0 16
    (ready 0x10 k s = true → assigned a = true →
      okay .regRead 0x10 k s [(readReg a (s.takes 0x10 k)).1] (readReg a (s.takes 0x10 k)).2) ∧
    (ready 0x11 k s = true → assigned a = true → softAsked 0x11 k = false →
      ∀ t, writeReg a (pw k 1) allOnes (s.takes 0x11 k) = (.ok, t) → okayHeld .regWrite 0x11 k s [] t) ∧
    (ready 0x12 k s = true → assigned a = true → softAsked 0x12 k = false →
      ∀ t, writeReg a (pw k 2) (pw k 1) (readReg a (s.takes 0x12 k)).2 = (.ok, t) →
        okayHeld .regModify 0x12 k s [(readReg a (s.takes 0x12 k)).1] t) ∧
    (ready 0x13 k s = true →
      let n := pf k 1 0 9
      1 ≤ n → n ≤ 256 → a % 256 + n ≤ 256 →
      okay .regReadBlock 0x13 k s (readRun n a (s.takes 0x13 k)).1 (readRun n a (s.takes 0x13 k)).2) ∧
    (ready 0x14 k s = true → a % 256 + (k.payload.length - 1) ≤ 256 → softAsked 0x14 k = false →
      ∀ t, writeRun (k.payload.drop 1) a 0 (s.takes 0x14 k) = (none, t) → okayHeld .regWriteBlock 0x14 k s [] t) ∧
    (ready 0x15 k s = true → a ≠ 0x0001 → readOnlyWindow a = false →
      ∀ n t, windowWords a = some n → pf k 1 0 22 + (k.payload.length - 2) ≤ (if a = 0x0200 then 505 else n) →
        windowWrite a (pf k 1 0 22) (k.payload.drop 2) (s.takes 0x15 k) = (.ok, t) → okay .tableWrite 0x15 k s [] t) ∧
    (ready 0x15 k s = true → a = 0x0001 → s.checkMode = 0x2 ∨ s.checkMode = 0xC →
      pf k 1 0 22 + (k.payload.length - 2) < 128 →
        okay .tableWrite 0x15 k s [] ((s.takes 0x15 k).setRun (wkey widHrBuf (pf k 1 0 22)) (k.payload.drop 2))) ∧
    (ready 0x16 k s = true →
      let n := pf k 2 0 9
      1 ≤ n → n ≤ 256 →
      ∀ size ws t, windowWords a = some size → pf k 1 0 22 + n ≤ size →
        windowRead a (pf k 1 0 22) n (s.takes 0x16 k) = (some ws, t) → okay .tableRead 0x16 k s ws t)

/-- The commands of group Timetable (R111, R112, R116 to R120). SETTINGS_COMMIT makes the staged set the pending one and answers its
apply FN. SET_FRAME_RATE stages the RP and VTOTAL that fill the period. LOCK_REFERENCE begins acquisition, or frees the lock.
EVENT_TABLE_LOAD loads entries, and with LAST stages the template. STROBE_CONFIG stages its words. -/
def Obligations.TimetableCommandsAnswer : Prop :=
  ∀ (k : Pkt) (s : State),
    (ready 0x17 k s = true → s.pend = none → s.commitReason = none →
      let u := s.takes 0x17 k
      let fn := w32 (applyFnAt s s.takenView s.staged s.tt.clk)
      okayAt .settingsCommit 0x17 k s fn.toNat []
        (State.setReg { u with stg := [], pend := some ⟨s.stg, s.tt.clk, s.rpNow, false⟩ } R.TT_APPLYFN fn)) ∧
    (ready 0x20 k s = true → s.checkMode ≠ 0x4 →
      let u := s.takes 0x20 k
      let period := (pw k 0).toNat
      let stretch := pf k 1 16 1 == 1
      let windows := maskCount (vMask s.staged)
      let vt := if stretch then (if pf k 1 0 16 = 0 then vVmin s.live else pf k 1 0 16) else vtFill period windows
      let rp := if stretch then rpFill period vt else rpMinRaw windows
      let t := ((u.stage R.TT_RP (w32 rp)).stageF F.TT_VTOTAL_VTOTAL vt).stage (wkey widTpl 0) 0#32
      rpMinRaw windows ≤ rp → rpTooLong rp = false → vVmin s.staged ≤ vt → vt ≤ 65535 → stagedReason t = none →
        okay .setFrameRate 0x20 k s [w32 rp, w32 vt]
          { t with tt := { t.tt with period := period, rateVt := if stretch then pf k 1 0 16 else 0, stretch := stretch } }) ∧
    (ready 0x21 k s = true → s.sys.chg = none → s.isOpen 0x21 = false →
      let u := s.takes 0x21 k
      let d := pf k 0 4 2
      let m := pf k 0 8 8
      let lines := pf k 0 16 16
      let rl := pf k 1 0 24
      let asked := 524288 * (lines * rl)
      let have_ := 16 * rpRaw s.live * 25 * 2 ^ d * vVtotal s.live
      (pf k 0 0 2 = 0 → s.checkMode ≠ 0x4 → okayAt .lockReference 0x21 k s (fnNext s.tt.fn) []
        (u.lockFree.setReg R.TT_REF (w32 (lines + d * 2 ^ 16 + m * 2 ^ 24)))) ∧
      (pf k 0 0 2 = 1 → d ≠ 3 → 1 ≤ m → m ≤ 64 → 1 ≤ lines → 1 ≤ rl → 1 ≤ pf k 2 16 16 → pf k 2 0 16 + pf k 2 16 16 ≤ lines →
        2000 * (if asked < have_ then have_ - asked else asked - have_) ≤ have_ →
        16 * rpMinRaw (maskCount (vMask s.live)) * 25 * 2 ^ d * vVtotal s.live ≤ asked → excursionBad s.staged = false →
        ∃ t, begun .lockReference 0x21 k s t ∧ t.tt.lock = 1 ∧ t.tt.acqAt = s.tt.clk ∧ t.tt.rlNom = rl ∧
          t.tt.act0 = pf k 2 0 16 ∧ t.tt.actN = pf k 2 16 16 ∧ t.reg R.TT_REF = w32 (lines + d * 2 ^ 16 + m * 2 ^ 24))) ∧
    (ready 0x22 k s = true →
      okay .getTimebase 0x22 k s
        [w32 s.tt.tb, w32 (s.tt.tb / 2 ^ 32), w32 s.tt.fn, w32 s.tt.rp0Tb, w32 (s.tt.rp0Tb / 2 ^ 32), s.viewTtStat, s.reg R.TT_PHASE]
        (s.takes 0x22 k)) ∧
    (ready 0x23 k s = true →
      let u := s.takes 0x23 k
      let start := pf k 0 0 9
      let ws := k.payload.drop 2
      let t := if pf k 0 16 1 = 1 then u.setRun (wkey widTplLoad 0) (pw k 1 :: List.replicate 512 0#32) else u
      let t := t.setRun (wkey widTplLoad (1 + 2 * start)) ws
      ws.length % 2 = 0 → start + ws.length / 2 ≤ 252 →
        (pf k 0 17 1 = 0 → okay .eventTableLoad 0x23 k s [] t) ∧
        (pf k 0 17 1 = 1 → ∀ x, stageTemplate widTplLoad t = (.ok, x) → okay .eventTableLoad 0x23 k s [] x)) ∧
    (ready 0x24 k s = true → pf k 0 0 2 ≠ 3 →
      let u := s.takes 0x24 k
      let y0 := pf k 1 0 13
      let y1 := pf k 1 13 13
      (pf k 0 0 2 = 1 → y0 ≤ y1 ∧ y1 ≤ 4143 ∧ 16 * (y1 - y0 + 1) ≤ vTl s.staged) →
      (pf k 0 0 2 = 2 → ∀ i, i = 1 ∨ i = 2 →
        - (vVtotal s.staged : Int) ≤ entPos (pw k i) ∧ entPos (pw k i) < (vVtotal s.staged : Int)) →
      okay .strobeConfig 0x24 k s []
        (((u.stage R.TT_STROBE (keepMask (pw k 0) 0xFF7)).stage keyStrobe1 (pw k 1)).stage keyStrobe2 (pw k 2)))

/-- The commands of group Exposure (R164 to R171): what each stages or begins, and the reply. -/
def Obligations.ExposureCommandsAnswer : Prop :=
  ∀ (k : Pkt) (s : State),
    (ready 0x30 k s = true →
      okay .aeConfig 0x30 k s []
        (((((s.takes 0x30 k).stage R.EXP_CTRL (keepMask (pw k 0) 0xF)).stage R.EXP_AE_CFG (keepMask (pw k 1) 0x3FF)).stage
          R.EXP_AE_TARGET (keepMask (pw k 2) 0xFFFF)).stage R.EXP_AE_TLMAX (keepMask (pw k 3) 0x3FFFFF))) ∧
    (ready 0x31 k s = true → s.checkMode ≠ 6 →
      let u := s.takes 0x31 k
      let mask := pf k 1 0 4
      let gains := pf k 1 8 8
      let keep := pf k 1 16 1 = 1
      let tl := s.slotsOfNs (pw k 0).toNat
      let t := if (pw k 0).toNat = 0 then u else u.stageF F.EXP_TL_SLOTS tl
      let t := if mask = 0 then t else t.stageF F.EXP_SAMPLES_MASK mask
      let t := if keep ∨ (s.aeOn = true ∧ gains = 0) then t else t.stage R.CNV_RAMP (w32 gains)
      mask ≠ 8 → (s.aeOn = true → (pw k 0).toNat = 0 ∧ (gains = 0 ∨ keep)) →
      ((pw k 0).toNat ≠ 0 → 256 ≤ tl ∧ tl ≤ 1048560) → stagedReason t = none →
        (pf k 1 31 1 = 0 → okay .setExposure 0x31 k s [w32 (vTl t.staged)] t) ∧
        (pf k 1 31 1 = 1 → s.pend = none →
          let x := t.commit false
          okayAt .setExposure 0x31 k s (x.reg R.TT_APPLYFN).toNat [w32 (vTl t.staged), x.reg R.TT_APPLYFN] x)) ∧
    (ready 0x32 k s = true → 2 ≤ pf k 0 0 4 → pf k 0 0 4 ≤ 10 →
      (∀ i : Nat, 1 ≤ i → i ≤ 3 → pf k i 0 12 ≤ 3839 ∧ pf k i 16 8 ≤ pf k i 0 12) →
      let u := s.takes 0x32 k
      let t := ((((u.stage R.EXP_RATIO (ratioWord (pw k 0))).stage R.EXP_MTH_HCG (keepMask (pw k 1) 0xFF0FFF)).stage
        (R.EXP_MTH_HCG + 1) (keepMask (pw k 2) 0xFF0FFF)).stage (R.EXP_MTH_HCG + 2) (keepMask (pw k 3) 0xFF0FFF)).stage
        R.EXP_MOTION (keepMask (pw k 4) 0x7FF)
      stagedReason t = none → okay .hdrConfig 0x32 k s [] t) ∧
    (ready 0x33 k s = true → pf k 0 0 8 < 16 → s.exp.seq = none →
      let u := s.takes 0x33 k
      let t := u.setRun (wkey 0x0600 (2 * pf k 0 0 8)) [keepMask (pw k 1) 0xFF07FF, keepMask (pw k 2) 0xFFFFF]
      ctxReason s.staged (ctxWords t.live (pf k 0 0 8)) s.seqTlRef = none → okay .seqContextWrite 0x33 k s [] t) ∧
    (ready 0x34 k s = true → s.exp.seq = none → s.checkMode ≠ 5 →
      let u := s.takes 0x34 k
      let start := pf k 0 0 6
      let es := k.payload.drop 1
      let t := if pf k 0 16 1 = 1 then State.wr (u.setRun (wkey 0x0601 0) (List.replicate 64 0#32)) F.SEQ_STAT_LEN 0 else u
      let t := t.setRun (wkey 0x0601 start) (es.map (fun w => keepMask w 0xFFFFF))
      let t := if pf k 0 17 1 = 1 then t.wr F.SEQ_STAT_LEN (start + es.length) else t
      start + es.length ≤ 64 → (∀ w ∈ es, bits w 0 8 < 16) → okay .seqListLoad 0x34 k s [] t) ∧
    (ready 0x35 k s = true → s.checkMode = 3 → s.exp.seq = none → s.pend = none →
      let first := pf k 0 0 6
      let l := seqList s.live
      first < l.length → listReason s s.staged s.takenView s.effBefore l first (pf k 1 0 16) (s.tlRef s.takenView) = none →
      ∃ t fn, okayAt .seqStart 0x35 k s fn [] t ∧ t.reg R.TT_APPLYFN = w32 fn ∧ t.pend.isSome = true ∧ t.stg = [] ∧
        t.sys.chg = some ⟨6, s.tt.clk, some fn⟩ ∧ (∃ r, t.exp.seq = some r ∧ r.start = fn ∧ r.trig = false)) ∧
    (ready 0x36 k s = true → pf k 0 0 2 ≠ 3 → ∀ r, s.exp.seq = some r → r.trig = false → r.back = true →
      okayAt .seqStop 0x36 k s r.next [] (s.takes 0x36 k)) ∧
    (ready 0x36 k s = true → pf k 0 0 2 ≠ 3 → ∀ r, s.exp.seq = some r → r.trig = false → r.back = false →
      ∃ t fn last, okayAt .seqStop 0x36 k s fn [] t ∧ fn = fnNext last ∧ t.exp.seq = some { r with last := some last } ∧
        t.sys = s.sys ∧ t.mem = s.mem ∧ t.stg = s.stg ∧ t.pend = s.pend) ∧
    (ready 0x37 k s = true →
      okay .flickerConfig 0x37 k s [] ((s.takes 0x37 k).stage R.EXP_FLICKER (keepMask (pw k 0) 0xFFFF0FFF)))

/-- The commands of group Seating Plan (R205 to R209): what each stages; SP_MAP_READ answers the FN of a finished map and its words. -/
def Obligations.SeatingCommandsAnswer : Prop :=
  ∀ (k : Pkt) (s : State),
    (ready 0x40 k s = true → okay .spEnable 0x40 k s [] ((s.takes 0x40 k).stageF F.SP_CTRL_EN (pf k 0 0 1))) ∧
    (ready 0x41 k s = true → 1 ≤ pf k 0 16 12 → pf k 0 16 12 ≤ 3839 → 4 ≤ pf k 1 0 6 → 1 ≤ pf k 0 0 4 → 1 ≤ pf k 0 4 4 →
      okay .spLawConfig 0x41 k s []
        ((((s.takes 0x41 k).stage R.SP_LAW (keepMask (pw k 0) 0x0FFFFFFF)).stage R.SP_BAND (keepMask (pw k 1) 0x3F)).stageF
          F.SP_CTRL_AE_COMP (pf k 2 0 1))) ∧
    (ready 0x42 k s = true →
      let bx := pf k 0 0 10
      let by_ := pf k 0 16 10
      let w := pf k 1 0 11
      let h := pf k 1 16 11
      let clear := pf k 2 8 1 = 1
      let u := s.takes 0x42 k
      let t := if clear then u.stageRun (wkey 0x0701 0) (List.replicate 262144 0#32) else u
      (w = 0 → h = 0 → clear → okay .spMaskLoad 0x42 k s [] t) ∧
      (1 ≤ w → 1 ≤ h → bx + w ≤ 1024 → by_ + h ≤ 1024 →
        okay .spMaskLoad 0x42 k s []
          ((List.range h).foldl (fun x j => x.stageRun (wkey 0x0701 (256 * (by_ + j)))
            (maskRow t.staged (by_ + j) bx w (pf k 2 0 8 % 4 + pf k 2 4 4 * 16))) t))) ∧
    (ready 0x43 k s = true → pf k 0 0 2 ≠ 3 →
      okay .spOverride 0x43 k s []
        (((s.takes 0x43 k).stageF F.SP_CTRL_ACTION (pf k 0 0 2)).stageF F.SP_CTRL_FORCE_K (pf k 0 4 4))) ∧
    (ready 0x44 k s = true →
      let start := 1024 * pf k 1 16 10 + pf k 1 0 10
      let n := pf k 2 0 11
      1 ≤ n → start + n ≤ 1048576 → (if pf k 0 8 1 = 1 then n ≤ 1020 else n ≤ 2040) →
      ∀ fn rows, s.sp.maps[pf k 0 0 2]? = some (fn, rows) →
      let code := fun (i : Nat) => if i < n then mapByte rows ((start + i) % 1024) ((start + i) / 1024) else 0
      ∃ ws, okay .spMapRead 0x44 k s (w32 fn :: ws) (s.takes 0x44 k) ∧
        (pf k 0 8 1 = 1 → ws = (List.range (ceilDiv n 4)).map (fun i =>
          w32 (total ((List.range 4).map (fun j => code (4 * i + j) * 2 ^ (8 * j)))))) ∧
        (pf k 0 8 1 = 0 → ws = (List.range (ceilDiv n 8)).map (fun i =>
          w32 (total ((List.range 8).map (fun j => code (8 * i + j) % 16 * 2 ^ (4 * j)))))))

/-- The commands of group Windows and the Bell (R222, R223, R238, R245 to R251): what each stages, with the frame refitted, and the
reply; TRIGGER_CONFIG takes effect at once; TRIGGER_FIRE in TRIGGERED mode is begun, and with AT ahead of TB it is scheduled. -/
def Obligations.WindowCommandsAnswer : Prop :=
  ∀ (k : Pkt) (s : State),
    (ready 0x50 k s = true →
      let u := s.takes 0x50 k
      let n := if pf k 0 0 8 = 0xFF then ((List.range 16).find? (fun n => !bit (s.staged (winAddr n 2)) 0)).getD 16 else pf k 0 0 8
      let t := ((u.stage (winAddr n 0) (keepMask (pw k 1) 0x3FF03FF)).stage (winAddr n 1) (keepMask (pw k 2) 0x7FF07FF)).stage
        (winAddr n 2) (keepMask (pw k 3) 0x3F ||| 1#32)
      n < 16 → ∀ x, winChange t n = .inr x → okay .windowSet 0x50 k s [w32 (n + vVmin x.staged * 2 ^ 16)] x) ∧
    (ready 0x51 k s = true →
      let u := s.takes 0x51 k
      let off := fun (t : State) (n : Nat) => t.stage (winAddr n 2) (clearMask (t.staged (winAddr n 2)) 1)
      let n := pf k 0 0 8
      (n = 0xFF → ∀ x, winChange (((List.range 16).drop 1).foldl off u) 0 = .inr x → okay .windowClear 0x51 k s [] x) ∧
      (n < 16 → ∀ x, winChange (off u n) n = .inr x → okay .windowClear 0x51 k s [] x)) ∧
    (ready 0x52 k s = true → ∀ x, binChange ((s.takes 0x52 k).stage R.WIN_BIN (w32 (pf k 0 0 2))) = .inr x →
      okay .binningSet 0x52 k s [] x) ∧
    (ready 0x53 k s = true → s.bel.busy = false → s.bel.queue = none → bit (pw k 0) 3 = false →
      okay .triggerConfig 0x53 k s [] ((s.takes 0x53 k).setReg R.BEL_CFG (keepMask (pw k 0) 0xFFFFFF0F))) ∧
    (wellSent k s = true → reaches k s = true → s.fe.held = [] → k.payload.length = 2 → s.sys.mode = 5 → (s.rd F.BEL_CFG_SRC).testBit 1 = true →
      let at_ := (pw k 0).toNat + (pw k 1).toNat * 2 ^ 32
      let u := s.takes 0x54 k
      (s.bel.sched = none → s.tt.tb < at_ →
        opened .triggerFire 0x54 k s { u with bel := { u.bel with sched := some (at_, k.tag) } }) ∧
      (at_ = 0 → s.bel.busy = false → s.bel.raised = none → (∀ p, s.bel.sched = some p → p.2 ≠ k.tag) →
        ∃ t, exec (.triggerFire k) s = .next t ∧ t.bel.raised = some ⟨s.tt.clk, s.tt.tb, some k.tag⟩ ∧ t.isOpen 0x54 = true))

/-- The commands of groups Pipelines and Statistics (R285 to R288, R326 to R328, R347, R348): what each stages or loads, and the reply,
which is DEGRADED where the command changed a field that an enforcement level holds (R576). -/
def Obligations.PipelineCommandsAnswer : Prop :=
  ∀ (k : Pkt) (s : State),
    (ready 0x60 k s = true → s.lenReason (pf k 2 0 14) = none →
      let g := pf k 3 0 16
      (g = 0 ∨ s.dgainBad g = false) →
      let t := (((s.takes 0x60 k).stage R.PA_CTRL (keepMask (pw k 0) 0x1FF)).stage R.PA_BLC (keepMask (pw k 1) 0xFF0F)).stage
        R.PA_DEFECT (keepMask (pw k 2) 0xFF3FFF)
      okayHeld .pipeAConfig 0x60 k s [] (if g = 0 then t else t.stage R.PA_DGAIN (w32 g))) ∧
    (ready 0x64 k s = true → s.tonePending = false →
      let start := pf k 0 0 9
      let ws := (k.payload.drop 2).map (fun w => keepMask w 0xFFFF)
      let b := 1 - s.toneBank
      let t := (s.takes 0x64 k).setRun (wkey 0x0A02 (257 * b + start)) ws
      start + ws.length ≤ 257 →
        (pf k 0 16 1 = 0 → okay .toneCurveLoad 0x64 k s [] t) ∧
        (pf k 0 16 1 = 1 → okay .toneCurveLoad 0x64 k s [] ((t.stage R.PA_TONE (keepMask (pw k 1) 0x1FFFFF)).stage keyTone (w32 b)))) ∧
    (ready 0x65 k s = true →
      let u := s.takes 0x65 k
      let t := ((((u.stage R.PA_CCM0 (pw k 0)).stage (R.PA_CCM0 + 1) (pw k 1)).stage (R.PA_CCM0 + 2) (pw k 2)).stage
        (R.PA_CCM0 + 3) (pw k 3)).stage R.PA_CCM4 (keepMask (pw k 4) 0xFFFF)
      (vtst s.staged F.PA_CTRL_AWB_EN = true → pw k 5 = 0#32 → pw k 6 = 0#32 →
        okay .ccmSet 0x65 k s [] (t.stage R.PA_IRSUB (keepMask (pw k 7) 0xFFFFFF))) ∧
      (vtst s.staged F.PA_CTRL_AWB_EN = false →
        okay .ccmSet 0x65 k s []
          (((t.stage R.PA_WB0 (pw k 5)).stage R.PA_WB1 (pw k 6)).stage R.PA_IRSUB (keepMask (pw k 7) 0xFFFFFF)))) ∧
    (ready 0x66 k s = true → tnrBad (pw k 0) = false → okay .tnrConfig 0x66 k s [] (stageTnr (pw k 0) (s.takes 0x66 k))) ∧
    (ready 0x61 k s = true → bit (pw k 0) 7 = false →
      let u := s.takes 0x61 k
      let g := pf k 2 0 16
      let t := (u.stage R.PB_CTRL (keepMask (pw k 0) 0x7E)).stage R.PB_OUT (keepMask (pw k 1) 0x0FFF0FFF)
      let t := if g = 0 then t else t.stage R.PB_DGAIN (w32 g)
      s.outSizeBad (pw k 1) = false → (g = 0 ∨ 16 ≤ g ∧ g ≤ 16384) → t.rateReason = none →
        (bit (pw k 0) 0 = s.tst F.PB_CTRL_EN → okay .pipeBConfig 0x61 k s [] t) ∧
        (bit (pw k 0) 0 = !s.tst F.PB_CTRL_EN → ∀ x, pbEnable (bit (pw k 0) 0) (some k.tag) t = (.ok, x) →
          begun .pipeBConfig 0x61 k s x)) ∧
    (ready 0x62 k s = true → s.tst F.PB_CTRL_EN = false →
      let u := s.takes 0x62 k
      let start := pf k 0 0 9
      let ws := k.payload.drop 1
      let t := if pf k 0 16 1 = 1 then u.setRun (wkey 0x0B00 0) (List.replicate 512 0#32) else u
      let t := State.setRun { t with pb := { t.pb with profOk := false } } (wkey 0x0B00 start) ws
      start + ws.length ≤ 512 →
        (pf k 0 17 1 = 0 → okay .companionProfileLoad 0x62 k s [] t) ∧
        (pf k 0 17 1 = 1 → ∀ x, profCheck t = (.ok, x) → okay .companionProfileLoad 0x62 k s [] x)) ∧
    (ready 0x63 k s = true → s.pb.state = 4 → s.pb.step < 4 →
      let n := pf k 0 4 4 + 1
      let regs := (List.range n).map (fun i => i2cReg (pw k (3 + 2 * i)) (pw k (4 + 2 * i)))
      let u := s.takes 0x63 k
      let t := { u with pb := { u.pb with jobs := u.pb.jobs ++ [⟨k.tag, pf k 0 0 2 == 0, regs, 0, [], none⟩] } }
      k.payload.length = 3 + 2 * n → (∀ i < n, pf k (3 + 2 * i) 16 2 ≠ 2) →
        (pf k 0 0 2 < 2 → s.pb.now ≠ .idle → begun .companionRegAccess 0x63 k s t) ∧
        (pf k 0 0 2 < 2 → s.pb.now = .idle → begun .companionRegAccess 0x63 k s t.nextBus) ∧
        (pf k 0 0 2 = 2 → ∀ w x, writeSet k regs u = (.accepted w, x) →
          exec (.companionRegAccess k) s = answered s 0x63 k (.accepted w) x)) ∧
    (ready 0x68 k s = true → roiBad (pw k 1) = false →
      let t := ((s.takes 0x68 k).stage R.STA_CFG (keepMask (pw k 0) 0xF)).stage R.STA_ROI (keepMask (pw k 1) 0x03FFFFFF)
      t.rateReason = none → okayHeld .statsConfig 0x68 k s [] t) ∧
    (ready 0x69 k s = true → pf k 0 4 3 < 5 →
      let start := (pw k 1).toNat
      let n := (pw k 2).toNat
      1 ≤ n → n ≤ 255 → start + n ≤ partWords (pf k 0 4 3) →
      ∀ fn ws, s.statPart (pf k 0 0 2) (pf k 0 4 3) = some (fn, ws) →
        okay .statsRead 0x69 k s (w32 fn :: (ws.drop start).take n) (s.takes 0x69 k))

/-- The commands of group Outputs (R366 to R381, R390 to R395): what each stages, where the rules of the chapter let it stand; the
mesh is written into the bank that is not in force, and STREAM_PRIORITY takes effect at once. OUTPUT_ROUTE and CODING_CONFIG are answered
DEGRADED where they change a field that an enforcement level holds (R576). -/
def Obligations.OutputCommandsAnswer : Prop :=
  ∀ (k : Pkt) (s : State),
    (ready 0x70 k s = true →
      let t := (s.takes 0x70 k).stage R.OUT_ROUTE (keepMask (pw k 0) 0xF)
      outReason t = none → okayHeld .outputRoute 0x70 k s [] t) ∧
    (ready 0x71 k s = true →
      let t := ((((s.takes 0x71 k).stage R.OUT_DFMT (keepMask (pw k 0) 0x3F)).stage R.OUT_DSIZE (keepMask (pw k 1) 0x1FFF1FFF)).stage
        R.OUT_CROP0 (keepMask (pw k 2) 0x0FFF0FFF)).stage R.OUT_CROP1 (keepMask (pw k 3) 0x1FFF1FFF)
      outReason t = none → okay .displayFormat 0x71 k s [] t) ∧
    (ready 0x72 k s = true → s.meshPending = false →
      let start := pf k 0 0 13
      let ws := k.payload.drop 1
      let b := 1 - s.meshBank
      let t := (s.takes 0x72 k).setRun (wkey 0x0D00 (4225 * b + start)) ws
      start + ws.length ≤ 4225 →
        (pf k 0 17 1 = 0 → okay .warpMeshLoad 0x72 k s [] t) ∧
        (pf k 0 17 1 = 1 → s.checkMode ≠ 0x4 → okay .warpMeshLoad 0x72 k s [] (t.stage keyBank (w32 b)))) ∧
    (ready 0x73 k s = true →
      let t := (s.takes 0x73 k).stage R.OUT_CODE (keepMask (pw k 0) 0x7F7F)
      outReason t = none → okayHeld .codingConfig 0x73 k s [] t) ∧
    (ready 0x74 k s = true →
      let pwl := pf k 0 3 2 = 2
      let t := (s.takes 0x74 k).stage R.OUT_VIS (keepMask (pw k 0) 0x7FFF)
      let t := if pwl then t.stageRun (wkey 0x0D01 0) ((k.payload.drop 1).map (fun w => keepMask w 0xFFFF)) else t
      k.payload.length = (if pwl then 18 else 1) → outReason t = none → okay .visionFormat 0x74 k s [] t) ∧
    (ready 0x75 k s = true → prioOk (pw k 0) = true →
      okay .streamPriority 0x75 k s [] ((s.takes 0x75 k).setReg R.OUT_PRIO (keepMask (pw k 0) 0xFF)))

/-- The commands of group Link (R435, R439 to R442): LINK_STATUS and PRBS_READ answer what they read; LINK_RATE and LANE_MAP begin a
training with the new setting; FFE_REQUEST asks for coefficients; PRBS_CONFIG and LOOPBACK begin a test, and LOOPBACK modes 0 and 2 end
and echo at once. -/
def Obligations.LinkCommandsAnswer : Prop :=
  ∀ (k : Pkt) (s : State),
    (ready 0x80 k s = true →
      okay .linkStatus 0x80 k s
        ([s.viewLnkStat, s.reg R.LNK_CFG] ++ s.ffeWords ++ [s.reg R.LNK_BCEQ, s.reg R.LNK_EYE, w32 s.lnk.lseq]) (s.takes 0x80 k)) ∧
    (s.lnk.prevCfg = none → s.lnk.test = none → s.lnk.loop = none →
      let train := fun (u : State) (cfg : Word) =>
        State.enterTrain { u.setReg R.LNK_CFG (keepMask cfg 0xFF0FF3) with lnk := { u.lnk with prevCfg := some (s.reg R.LNK_CFG) } }
      (ready 0x81 k s = true →
        let cfg := putBits (s.reg R.LNK_CFG) 0 2 (pf k 0 0 2)
        pf k 0 0 2 ≠ 3 → bits cfg 0 2 ≠ 3 → bits cfg 4 4 ≠ 0 → mapPerm (bits cfg 16 8) = true →
        s.bandwidthOk s.staged (bits cfg 0 2) (bits cfg 4 4) = true → begun .linkRate 0x81 k s (train (s.takes 0x81 k) cfg)) ∧
      (ready 0x82 k s = true →
        let cfg := putBits (keepMask (pw k 0) 0xFF0FF0) 0 2 (s.rd F.LNK_CFG_RATE)
        bits cfg 0 2 ≠ 3 → bits cfg 4 4 ≠ 0 → mapPerm (bits cfg 16 8) = true →
        s.bandwidthOk s.staged (bits cfg 0 2) (bits cfg 4 4) = true → begun .laneMap 0x82 k s (train (s.takes 0x82 k) cfg))) ∧
    (ready 0x83 k s = true → pf k 0 4 2 ≠ 3 → (pf k 0 4 2 = 2 → ffeOk (pf k 1 8 4) (pf k 1 16 5) = true) →
      let t := (List.range 4).foldl (ffeLane k) (s.takes 0x83 k)
      (t.lnk.ffeNext.all (fun p => !t.lnk.active.testBit p.1) = true → okay .ffeRequest 0x83 k s t.settleFfe.ffeWords t.settleFfe) ∧
      (t.lnk.ffeNext.all (fun p => !t.lnk.active.testBit p.1) = false → opened .ffeRequest 0x83 k s t)) ∧
    (ready 0x84 k s = true → pf k 0 0 10 ≠ 0 → pf k 0 10 3 < 5 → pf k 1 0 16 ≠ 0 → s.lnk.test = none →
      let t := State.clearCheckers (s.takes 0x84 k) (pf k 0 0 10)
      begun .prbsConfig 0x84 k s { t with lnk := { t.lnk with
        state := 3,
        test := some ⟨some k.tag, pf k 0 0 10, pf k 0 10 3, pf k 0 13 1 != 0, t.tt.clk, ms (pf k 1 0 16) + t.tt.clk⟩ } }) ∧
    (ready 0x85 k s = true → pf k 0 0 4 < 10 →
      let c := s.lnk.checkers.getD (pf k 0 0 4) ⟨0, 0, false⟩
      okay .prbsRead 0x85 k s [w32 c.bits, w32 (c.bits / 2 ^ 32), w32 (c.errs + flag c.lock * 2 ^ 31)] (s.takes 0x85 k)) ∧
    (ready 0x86 k s = true →
      let u := s.takes 0x86 k
      (pf k 0 0 2 = 1 → pf k 1 0 16 ≠ 0 → s.lnk.loop = none →
        begun .loopback 0x86 k s (State.wr { u with lnk := { u.lnk with
          state := 3, loop := some ⟨some k.tag, 0xF, 0, false, s.tt.clk, ms (pf k 1 0 16) + s.tt.clk⟩ } } F.LNK_LOOP_MODE 1)) ∧
      (pf k 0 0 2 = 2 → okay .loopback 0x86 k s [] (State.wr { u with lnk := { u.lnk with echo := true } } F.LNK_LOOP_MODE 2)) ∧
      (pf k 0 0 2 = 0 → ∃ t, okay .loopback 0x86 k s [] t ∧ t.lnk.echo = false ∧ t.lnk.loop = none ∧ t.tst F.LNK_LOOP_MODE = false))

/-- The commands of groups Power, housekeeping and thermal (R544, R545, R553, R554, R570, R571, R575, R580, R585): reads answer what they
read; RAIL_CONFIG begins a change of VDD_CORE or of the companion's supply; REPORT_CARD_CLEAR waits for the MTP; sequences, thermal
and heater settings are loaded; an extension of the grace interval begins it anew. -/
def Obligations.PowerCommandsAnswer : Prop :=
  ∀ (k : Pkt) (s : State),
    (ready 0x90 k s = true →
      okay .powerStatus 0x90 k s
        [s.viewPwrStat, s.reg R.PWR_CORE, s.viewPwrVcmp, s.reg R.PWR_SHED, s.reg R.PWR_RECESS, w32 (s.pwr.vin % 65536)]
        (s.takes 0x90 k)) ∧
    (ready 0x91 k s = true →
      let u := s.takes 0x91 k
      let mv := pf k 1 0 16
      let code := roundUp (2 * (mv - 600)) 5
      let vcmp := roundUp (mv - 1200) 10
      (pf k 0 0 3 = 0 → pf k 0 8 1 = 0 → 620 ≤ mv → mv ≤ 850 → s.rd F.PWR_CORE_VMIN ≤ code →
        (code ≠ s.rd F.PWR_CORE_VSET ∨ ∃ c ∈ s.pwr.cmds, c.rail = 0) →
        let t := u.vcmdNew ⟨0, some k.tag, none, 600000 + 2500 * code⟩
        begun .railConfig 0x91 k s
          (State.wr { t with pwr := { t.pwr with coreFrom := s.coreNow, coreAt := t.tt.clk } } F.PWR_CORE_VSET code)) ∧
      (pf k 0 0 3 = 0 → pf k 0 8 1 = 0 → 620 ≤ mv → mv ≤ 850 → s.rd F.PWR_CORE_VMIN ≤ code → code = s.rd F.PWR_CORE_VSET →
        (∀ c ∈ s.pwr.cmds, c.rail ≠ 0) → both .railConfig 0x91 k s u) ∧
      (pf k 0 0 3 = 6 → s.tst F.PWR_VCMP_OWNER = false → pf k 0 8 1 = 1 → 1200 ≤ mv → mv ≤ 3300 →
        (s.pwr.vcmpOn = false ∨ vcmp ≠ s.rd F.PWR_VCMP_CODE ∨ ∃ c ∈ s.pwr.cmds, c.rail = 6) →
        begun .railConfig 0x91 k s (u.vcmpGo vcmp (some k.tag) none)) ∧
      (pf k 0 0 3 = 6 → s.tst F.PWR_VCMP_OWNER = false → pf k 0 8 1 = 1 → 1200 ≤ mv → mv ≤ 3300 → s.pwr.vcmpOn = true →
        vcmp = s.rd F.PWR_VCMP_CODE → (∀ c ∈ s.pwr.cmds, c.rail ≠ 6) → both .railConfig 0x91 k s u) ∧
      (pf k 0 0 3 = 6 → s.tst F.PWR_VCMP_OWNER = false → pf k 0 8 1 = 0 →
        ∃ t, both .railConfig 0x91 k s t ∧ t.pwr.vcmpOn = false ∧ t.pwr.pgood.testBit 6 = false)) ∧
    (ready 0x92 k s = true →
      let t := (s.takes 0x92 k).setRun (wkey (0x1100 + pf k 0 0 1) (pf k 0 8 5)) ((k.payload.drop 1).map (fun w => keepMask w 0x3FFF))
      pf k 0 8 5 + (k.payload.length - 1) ≤ 32 →
        (pf k 0 16 1 = 0 → okay .hkSequenceLoad 0x92 k s [] t) ∧
        (pf k 0 16 1 = 1 → seqReason (t.seqStaged 0) (t.seqStaged 1) (s.tst F.THM_HTR_EN) = none →
          okay .hkSequenceLoad 0x92 k s [] { t with hk := { t.hk with due := some (t.seqStaged 0 ++ t.seqStaged 1) } })) ∧
    (ready 0x93 k s = true →
      let conv := pf k 0 0 1
      let i := pf k 0 8 5
      let n := pf k 0 16 6
      1 ≤ n → n ≤ 32 → i + n ≤ 32 →
        (pf k 0 24 1 = 0 → okay .hkRead 0x93 k s (s.run (resReg conv i) n) (s.takes 0x93 k)) ∧
        (pf k 0 24 1 = 1 → okay .hkRead 0x93 k s (s.run (resReg conv i) n)
          ((List.range n).foldl (fun x j => x.setReg (resReg conv (i + j)) (clearMask (x.reg (resReg conv (i + j))) 0x3000))
            (s.takes 0x93 k)))) ∧
    (ready 0x94 k s = true → thmCfgBad (pw k 0) = false →
      okay .thermalConfig 0x94 k s [] ((s.takes 0x94 k).setReg R.THM_CFG (keepMask (pw k 0) 0xFF7F7F))) ∧
    (ready 0x95 k s = true → s.thm.state = 1 →
      let u := s.takes 0x95 k
      (pf k 0 0 1 = 0 → okay .throttleAck 0x95 k s [] u) ∧
      (pf k 0 0 1 = 1 → s.thm.extended = false →
        okay .throttleAck 0x95 k s [] { u with thm := { u.thm with graceAt := s.tt.clk, extended := true } })) ∧
    (ready 0x96 k s = true → heaterBad (pw k 0) = false →
      okayHeld .heaterConfig 0x96 k s [] ((s.takes 0x96 k).setReg R.THM_HTR (pw k 0))) ∧
    (ready 0x97 k s = true →
      let n := pf k 0 8 4
      1 ≤ n → n ≤ 10 →
      okay .reportCardRead 0x97 k s
        ((((s.cardsByAge.takeWhile (fun c => bits (c.2.getD 0 0#32) 8 8 != 0)).drop (pf k 0 0 6)).take n).flatMap (fun c => c.2))
        (s.takes 0x97 k)) ∧
    (ready 0x98 k s = true → s.trailerReason 0x98 k true = none →
      opened .reportCardClear 0x98 k s (State.cardFor ((s.takes 0x98 k).takeTrailer k) 0 0xFF [] (some (0x98, k.tag))))

/-- The commands of group OTP (R598, R602, R605 to R609): OTP_READ answers the words of a run that is not locked and compares well, with
the MARGINAL words noted; OTP_PROGRAM, OTP_FUSE_LOCK and COUNTER_ADVANCE, with an accepted trailer, begin to program. No fuse is
blown by the command itself. -/
def Obligations.OtpCommandsAnswer : Prop :=
  ∀ (k : Pkt) (s : State),
    (ready 0xA0 k s = true →
      let a := pf k 0 0 10
      let n := pf k 1 0 9
      let run := (List.range n).map (fun i => a + i)
      let found := run.filter s.otp.marginal
      1 ≤ n → n ≤ 256 → a + n ≤ 1024 → (∀ x ∈ run, (x < 96 ∨ 112 ≤ x) ∧ s.readLocked x = false ∧ s.otpDeviates x = false) →
      okay .otpRead 0xA0 k s (w32 (flag (!found.isEmpty) + flag (found.any s.otp.strictUsed) * 2) :: run.map s.otp.value)
        (State.noteMarginal (s.takes 0xA0 k) found)) ∧
    (ready 0xA1 k s = true → s.trailerReason 0xA1 k true = none → s.otp.job = none → s.supplyOk = true →
      let a := pf k 0 0 10
      let ws := (k.payload.drop 1).take (k.payload.length - 6)
      let tgt := (List.range ws.length).map (fun i => a + i)
      let t := (s.takes 0xA1 k).takeTrailer k
      a + ws.length ≤ 1024 → (∀ x ∈ tgt, notTarget x = false ∧ s.writeLocked x = false) →
      (∀ p ∈ tgt.zip ws, s.conflicts p.1 p.2 = false) →
      begun .otpProgram 0xA1 k s { t with otp := { t.otp with job := some ⟨0xA1, k.tag, tgt.zip ws, []⟩ } }) ∧
    (ready 0xA2 k s = true → s.trailerReason 0xA2 k true = none → s.otp.job = none → s.supplyOk = true →
      s.tst F.OTP_LOCK_PROG_DIS = false →
      let code := pf k 0 0 4
      let t := (s.takes 0xA2 k).takeTrailer k
      (code = 2 ∨ code = 3 → pf k 0 4 1 = 0 → bit (s.otp.value 127) code = false →
        (pf k 0 8 1 = 1 ∨ ∀ r, regions.find? (fun r => r.code == code) = some r → s.otp.regionPasses r true = true) →
        begun .otpFuseLock 0xA2 k s
          { t.setReg R.OTP_LOCK (s.reg R.OTP_LOCK ||| w32 (2 ^ code)) with
            otp := { t.otp with job := some ⟨0xA2, k.tag, [(127, w32 (2 ^ code))], []⟩ } }) ∧
      (8 ≤ code → bit (s.otp.value 1016) (code - 8 + 8 * pf k 0 4 1) = false →
        begun .otpFuseLock 0xA2 k s
          { t with otp := { t.otp with job := some ⟨0xA2, k.tag, [(1016, w32 (2 ^ (code - 8 + 8 * pf k 0 4 1)))], []⟩ } })) ∧
    (ready 0xA3 k s = true → s.trailerReason 0xA3 k true = none → s.otp.job = none → s.supplyOk = true →
      s.tst F.OTP_LOCK_PROG_DIS = false → s.tst F.OTP_LOCK_CNT_WL = false →
      let v := (pw k 1).toNat
      let t := (s.takes 0xA3 k).takeTrailer k
      let job := fun (ws : List (Nat × Word)) (r : Word) => ({ t with otp := { t.otp with job := some ⟨0xA3, k.tag, ws, [r]⟩ } } : State)
      (pf k 0 0 2 = 0 → s.rd F.OTP_FW_VERSION_VALUE < v → v ≤ 128 → v ≤ s.saf.svn →
        begun .counterAdvance 0xA3 k s (job ((List.range 4).map (fun i => (112 + i, w32 (thermoBits v / 2 ^ (32 * i))))) (w32 v))) ∧
      (pf k 0 0 2 = 1 → s.rd F.OTP_KEY_EPOCH_VALUE < v → v ≤ 16 →
        begun .counterAdvance 0xA3 k s (job [(116, w32 (thermoBits v))] (w32 v))) ∧
      (pf k 0 0 2 = 2 →
        let new := s.rd F.OTP_KEY_EPOCH_REVOKE ||| v % 8
        v < 8 → new.testBit s.saf.slot = false → (∃ n < 3, s.slotUsable n 0 new = true) → new ≠ s.rd F.OTP_KEY_EPOCH_REVOKE →
        begun .counterAdvance 0xA3 k s (job [(116, w32 (new * 2 ^ 16))] (w32 new)))) ∧
    (ready 0xA4 k s = true →
      okay .otpStatus 0xA4 k s
        [s.viewOtpStat, s.reg R.OTP_CSTAT, s.reg R.OTP_LOCK, s.reg R.OTP_COMPAT_LOCK, s.reg R.OTP_MARGCNT, s.reg R.OTP_MARGLAST,
          s.reg R.OTP_FW_VERSION, s.reg R.OTP_KEY_EPOCH]
        (s.takes 0xA4 k))

/-- The commands of group Security (R617, R621 to R635): AUTH_HELLO begins a handshake, or with PROVISION programs a root secret;
AUTH_FINISH begins its second half; LIVENESS_CONFIG with an accepted trailer sets the liveness unit or ends the session; NONCE_PUSH
keeps the nonce with the TB of its arrival; POP_QUIZ schedules a quiz; alarms are read, and cleared in SERVICE with a trailer. -/
def Obligations.SecurityCommandsAnswer : Prop :=
  ∀ (k : Pkt) (s : State),
    (ready 0xB0 k s = true → s.tst F.SEC_STAT_ERASED = false → s.tst F.SEC_STAT_RNG_OK = true →
      (pf k 0 0 2 = 0 → k.payload.length = 17 →
        ∃ t h, begun .authHello 0xB0 k s t ∧ t.sec.hand = some h ∧ h.role = pf k 0 4 1 ∧ h.tag = some k.tag ∧ t.sec.sess = s.sec.sess) ∧
      (pf k 0 0 2 = 1 → k.payload.length = 6 → s.trailerReason 0xB0 k true = none → s.otp.job = none → s.otpCodeState 2 = 0 →
        s.tst F.OTP_LOCK_RS_WL = false → s.tst F.OTP_LOCK_PROG_DIS = false → s.supplyOk = true →
        ∃ t j, begun .authHello 0xB0 k s t ∧ t.otp.job = some j ∧ j.op = 0xB0 ∧ j.tag = k.tag ∧
          j.words.map (fun p => p.1) = [96, 97, 98, 99, 100, 101, 102, 103, 104])) ∧
    (ready 0xB1 k s = true → s.tst F.SEC_STAT_ERASED = false → s.sec.finish = none →
      let u := s.takes 0xB1 k
      ∀ h, s.sec.hand = some h → k.payload.length = (if h.role = 1 then 38 else 6) → (pf k 1 0 1 = 1 → h.role = 1) →
      begun .authFinish 0xB1 k s { u with sec := { u.sec with finish := some ⟨k.tag, k.payload, s.tt.clk⟩ } }) ∧
    (ready 0xB2 k s = true → s.trailerReason 0xB2 k false = none →
      let t := (s.takes 0xB2 k).takeTrailer k
      (pf k 0 9 1 = 1 → okay .livenessConfig 0xB2 k s [0#32] t.endSession) ∧
      (pf k 0 9 1 = 0 → okay .livenessConfig 0xB2 k s [keepMask (pw k 0) 0x10F]
        (t.wr F.SEC_LIVE_CFG (bits (keepMask (pw k 0) 0x10F) 0 10)))) ∧
    (ready 0xB3 k s = true → pf k 0 0 16 ≠ 0 → (∀ p ∈ s.sec.arrivals, p.1 ≠ k.tag) →
      let u := s.takes 0xB3 k
      okay .noncePush 0xB3 k s []
        (State.wr { u with sec := { u.sec with nonce := (k.payload.drop 1).take 4, nonceTb := s.tt.tb } }
          F.SEC_LASTNONCE_NONCE_ID (pf k 0 0 16))) ∧
    (ready 0xB4 k s = true → s.tt.run = true → s.isOpen 0xB4 = false →
      let n := pf k 0 0 3
      let blocks := (List.range n).map (fun i => (pf k (1 + i) 0 10, pf k (1 + i) 16 10))
      let u := s.takes 0xB4 k
      1 ≤ n → n ≤ 4 → k.payload.length = 1 + n →
      (∀ b ∈ blocks, inWindow s.live b.1 b.2 = true ∧ s.bondFailed b.1 b.2 = false) →
      begun .popQuiz 0xB4 k s { u with sec := { u.sec with
        sched := some ⟨s.quizFn, some k.tag, pf k 0 8 1 == 1, blocks.map (fun b => ⟨b.1, b.2, false, true, 0⟩)⟩ } }) ∧
    (ready 0xB5 k s = true →
      okay .alarmStatus 0xB5 k s [s.viewSecStat, s.reg R.SEC_ALARM, s.reg R.SEC_ALARM_LVL, s.reg R.SEC_ALARMCNT] (s.takes 0xB5 k)) ∧
    (ready 0xB6 k s = true → s.trailerReason 0xB6 k true = none →
      let w := clearMask (s.reg R.SEC_ALARM) (pf k 0 0 9)
      okay .alarmClear 0xB6 k s [w] (((s.takes 0xB6 k).takeTrailer k).setReg R.SEC_ALARM w))

/-- The commands of group Recorder (R645, R650, R654, R655): REC_MOUNT begins to mount; REC_CONFIG sets the recorder; REC_EVENT on a
mounted medium extends the open clip, or opens one; the index and the frames of a clip are read; clips are erased; REC_UNMOUNT ends
the post windows and waits for the clips that are being written. -/
def Obligations.RecorderCommandsAnswer : Prop :=
  ∀ (k : Pkt) (s : State),
    (ready 0xC0 k s = true → s.rec_.mount ≠ 1 →
      (pf k 0 0 1 = 0 → k.payload.length = 1 → begun .recMount 0xC0 k s ((s.takes 0xC0 k).mountStart (some k.tag) false)) ∧
      (pf k 0 0 1 = 1 → s.emmcHeld = false → s.trailerReason 0xC0 k true = none →
        begun .recMount 0xC0 k s (State.mountStart ((s.takes 0xC0 k).takeTrailer k) (some k.tag) true))) ∧
    (ready 0xC1 k s = true → bits (pw k 0) 4 6 = s.rd F.REC_CFG_CB_MB → (s.tst F.REC_CFG_EN = true → bit (pw k 0) 0 = true) →
      1 ≤ bits (pw k 0) 4 6 → bits (pw k 0) 4 6 ≤ 32 → 1 ≤ bits (pw k 0) 16 6 → bits (pw k 0) 16 6 ≤ 40 → bits (pw k 1) 0 16 ≤ 60000 → bits (pw k 1) 16 16 ≤ 60000 →
      let set := fun (u : State) => (u.setReg R.REC_CFG (keepMask (pw k 0) 0x3F03F7)).setReg R.REC_CLIP (pw k 1)
      (bit (pw k 0) 1 = false ∨ s.tst F.REC_CFG_RING = true → k.payload.length = 2 →
        okay .recConfig 0xC1 k s [] (set (s.takes 0xC1 k))) ∧
      (bit (pw k 0) 1 = true → s.tst F.REC_CFG_RING = false → s.trailerReason 0xC1 k true = none →
        okay .recConfig 0xC1 k s [] (set ((s.takes 0xC1 k).takeTrailer k)))) ∧
    (ready 0xC2 k s = true → s.rec_.mount = 2 →
      (∀ c, s.rec_.opens.find? (fun c => c.post) = some c →
        let want := (s.tt.fn + s.framesIn (s.rd F.REC_CLIP_POST_MS)) % 2 ^ 32
        let want := if seqLe want c.last then c.last else want
        let last := if seqLe want c.limit then want else c.limit
        let u := s.takes 0xC2 k
        okayAt .recEvent 0xC2 k s s.tt.fn [w32 c.id] { u with rec_ := { u.rec_ with
          opens := s.rec_.opens.map (fun d => if d.id = c.id then { d with last := last } else d) } }) ∧
      (∀ id st pl t, State.recEvent (s.takes 0xC2 k) 0 (pf k 0 0 1 == 1) (pw k 1) [] true = ((some id, st, pl), t) →
        okayAt .recEvent 0xC2 k s s.tt.fn [w32 id] t)) ∧
    (ready 0xC3 k s = true → s.rec_.mount = 2 →
      let n := pf k 1 0 4
      1 ≤ n → n ≤ 8 → pf k 0 0 16 + n ≤ 65536 →
      okay .recIndexRead 0xC3 k s ((List.range n).flatMap (fun i => s.indexEntry (pf k 0 0 16 + i))) (s.takes 0xC3 k)) ∧
    (ready 0xC4 k s = true → s.checkMode ≠ 0x7 → s.rec_.mount = 2 → s.emmcHeld = false →
      ∀ c, s.rec_.clips.find? (fun c => c.id == pf k 0 0 16) = some c →
      let fs := c.frames.drop (pw k 1).toNat
      let fs := if pw k 2 = 0#32 then fs else fs.take (pw k 2).toNat
      let u := s.takes 0xC4 k
      let t : State := { u with rec_ := { u.rec_ with reading := some ⟨k.tag, fs⟩ } }
      t.bandwidthOk t.staged (t.rd F.LNK_CFG_RATE) (t.rd F.LNK_CFG_LANES) = true →
        (fs = [] → both .recClipRead 0xC4 k s u) ∧
        (fs ≠ [] → begun .recClipRead 0xC4 k s { t with rec_ := { t.rec_ with jobs := t.rec_.jobs ++ [.readFrame] } })) ∧
    (ready 0xC5 k s = true → s.trailerReason 0xC5 k true = none → s.rec_.mount = 2 → s.emmcHeld = false →
      let lo := pf k 0 0 16
      let n := pf k 1 0 17
      let ids := s.rec_.clips.filter (fun c => decide (lo ≤ c.id) && decide (c.id < lo + n))
      let t := (s.takes 0xC5 k).takeTrailer k
      1 ≤ n → lo + n ≤ 65536 → ids ≠ [] → (pf k 0 16 1 = 0 → ids.any Clip.protected_ = false) →
      begun .recErase 0xC5 k s { t with rec_ := { t.rec_ with jobs := t.rec_.jobs ++ [.erase k.tag (ids.map Clip.id)] } }) ∧
    (ready 0xC6 k s = true → s.rec_.mount = 2 → s.rec_.unmountTag = none →
      let t := State.mapClips (s.takes 0xC6 k) (fun c => if c.post then { c with post := false, last := s.tt.fn } else c)
      begun .recUnmount 0xC6 k s (State.pumpUnmount { t with rec_ := { t.rec_ with unmountTag := some k.tag } }))

/-- The commands of groups Firmware and Diagnostics (R667, R668, R670): an image is staged, checked and switched to, each with an
accepted trailer where the rule asks one; what is read is answered; faults are cleared; a self-test begins. -/
def Obligations.FirmwareCommandsAnswer : Prop :=
  ∀ (k : Pkt) (s : State),
    (ready 0xD0 k s = true → s.trailerReason 0xD0 k true = none → s.saf.switching = none →
      (pf k 0 0 1 ≠ s.sys.image ∨ s.sys.fw = .limp ∧ s.sys.imageGood = false) → (pw k 1).toNat ≤ 8388864 →
      let t := (s.takes 0xD0 k).takeTrailer k
      opened .fwStageBegin 0xD0 k s (State.emmcAsk { t with saf := { t.saf with
        stage := 1, target := pf k 0 0 1, total := (pw k 1).toNat, offset := 0, svnStaged := 0 } } (.stageErase k.tag))) ∧
    (ready 0xD1 k s = true → s.trailerReason 0xD1 k true = none → s.saf.stage ≠ 0 →
      let off := (pw k 0).toNat
      let ws := (k.payload.drop 1).take (k.payload.length - 6)
      let t := (s.takes 0xD1 k).takeTrailer k
      off = s.saf.offset → off % 4 = 0 → off + 4 * ws.length ≤ s.saf.total + 3 →
      opened .fwStageChunk 0xD1 k s (State.emmcAsk { t with saf := { t.saf with stage := 1, offset := off + 4 * ws.length } }
        (.stageWrite k.tag (wkey (imageWid s.saf.target) (off / 4)) ws))) ∧
    (ready 0xD2 k s = true → s.isOpen 0xD2 = false → begun .fwStageVerify 0xD2 k s (s.takes 0xD2 k)) ∧
    (ready 0xD3 k s = true → s.trailerReason 0xD3 k true = none → s.saf.switching = none → s.saf.stage = 2 →
      let t := (s.takes 0xD3 k).takeTrailer k
      let persist := pf k 0 1 1 = 1
      (pf k 0 0 1 = 1 → s.sys.mode ≠ 0xB → s.saf.target ≠ s.sys.image →
        let u : State := { t with saf := { t.saf with switching := some (k.tag, persist), switchReady := false, switchAt := s.tt.clk } }
        begun .fwSwitch 0xD3 k s (if persist then u.emmcAsk (.persist none s.saf.target) else u)) ∧
      (pf k 0 0 1 = 0 → persist → opened .fwSwitch 0xD3 k s (t.emmcAsk (.persist (some k.tag) s.saf.target))) ∧
      (pf k 0 0 1 = 0 → ¬ persist → okay .fwSwitch 0xD3 k s [] t)) ∧
    (ready 0xD4 k s = true → okay .fwInfo 0xD4 k s [s.viewFwStat, s.reg R.OTP_FW_VERSION] (s.takes 0xD4 k)) ∧
    (ready 0xE0 k s = true → ((pf k 0 0 4).testBit 3 = true → s.checkMode = 0x2) → s.saf.selftest = none →
      let u := s.takes 0xE0 k
      begun .selftestRun 0xE0 k s { u with saf := { u.saf with
        selftest := some (pf k 0 0 4), pinTest := (pf k 0 0 4).testBit 3 } }) ∧
    (ready 0xE1 k s = true →
      okay .faultRead 0xE1 k s ([s.reg R.SAF_ACTIVE, s.reg R.SAF_LATCHED, s.reg R.SAF_LAST] ++ s.saf.counts.map w32)
        (s.takes 0xE1 k)) ∧
    (ready 0xE2 k s = true →
      let m := pf k 0 0 21
      let active := clearMask (s.reg R.SAF_ACTIVE) (m &&& eventFaults)
      okay .faultClear 0xE2 k s [active]
        (((s.takes 0xE2 k).setReg R.SAF_LATCHED (clearMask (s.reg R.SAF_LATCHED) m)).setReg R.SAF_ACTIVE active)) ∧
    (ready 0xE3 k s = true →
      let u := s.takes 0xE3 k
      (pf k 0 0 1 = 0 → okay .eccStatus 0xE3 k s (s.run R.SAF_ECC0 7) u) ∧
      (pf k 0 0 1 = 1 → okay .eccStatus 0xE3 k s (s.run R.SAF_ECC0 7) (u.setRun R.SAF_ECC0 (List.replicate 7 0#32))))

/-! ### Register rows -/

/-- The register rows that start something (R67, R102, R111, R183, R309 to R311, R443, R451, R533, R570): each does on the register path
what its command does. -/
def Obligations.RegisterBitsStart : Prop :=
  ∀ s : State,
    (∀ v : Word, bit v 0 = true → bit v 2 = false → s.sys.mode = 8 → s.cnv.calBusy = false →
      let t := s.wr F.CNV_CAL_AVG_LOG2 (clampN 5 12 (bits v 8 4))
      moves (.cnvCalStart v) s
        (State.wr { t with cnv := { t.cnv with calBusy := true, calAt := s.tt.clk } } F.CNV_CAL_ERR 0)) ∧
    (s.pend = none → s.commitReason = none → moves .ttCommitReq s
      (State.setReg { s with stg := [], pend := some ⟨s.stg, s.tt.clk, s.rpNow, false⟩ } R.TT_APPLYFN
        (w32 (applyFnAt s s.takenView s.staged s.tt.clk)))) ∧
    (∀ (v : Word) (t : State), bit v 4 = true → stageTemplate widTplBuf s = (.ok, t) →
      moves (.tplCheck v) s ((t.wr F.TT_CTRL_QUIET_EN (bits v 2 1)).wr F.TT_CTRL_LSTEP_EN (bits v 3 1))) ∧
    (∀ (v : Word) (t : State), bit v 0 = true →
      seqStart (s.rd F.SEQ_LOOPS_FIRST) (s.rd F.SEQ_LOOPS_LOOPS) s = (.ok, t) →
        moves (.seqCtrlStart v) s (t.wr F.SEQ_CTRL_WHEN (bits v 2 2)) ∧ t.exp.seq.isSome = true ∧ t.pend.isSome = true) ∧
    (∀ (v : Word) (r : SeqRun), bits v 0 2 = 2 → s.exp.seq = some r → r.trig = false →
      (r.back = true → moves (.seqCtrlStop v) s (s.wr F.SEQ_CTRL_WHEN (bits v 2 2))) ∧
      (r.back = false → ∃ t last, moves (.seqCtrlStop v) s t ∧ t.exp.seq = some { r with last := some last } ∧ t.sys = s.sys ∧
        t.stg = s.stg ∧ t.rd F.SEQ_CTRL_WHEN = bits v 2 2)) ∧
    (∀ v : Word, bit v 0 = true → bit v 7 = false → s.tst F.PB_CTRL_EN = false → s.pb.step < 4 → s.pb.profOk = true →
      let t := State.wr { s with pb := { s.pb with tag := none } } F.PB_CTRL_EN 1
      moves (.companionEnable v) s ((if pbOffMode s.sys.mode then t else t.pbStart).stage R.PB_CTRL (keepMask v 0x7E))) ∧
    (∀ (v : Word) (t : State), bit v 0 = false → bit v 7 = false → s.tst F.PB_CTRL_EN = true → s.pb.step < 4 →
      pbEnable false none s = (.ok, t) → moves (.companionDisable v) s (t.stage R.PB_CTRL (keepMask v 0x7E)) ∧
        t.tst F.PB_CTRL_EN = false) ∧
    (∀ v : Word, bit v 7 = true → bit v 0 = s.tst F.PB_CTRL_EN → s.profBad = none →
      moves (.profCheck v) s (State.stage { s with pb := { s.pb with profOk := true } } R.PB_CTRL (keepMask v 0x7E))) ∧
    (seqReason (s.seqStaged 0) (s.seqStaged 1) (s.tst F.THM_HTR_EN) = none →
      moves .hkApply s { s with hk := { s.hk with due := some (s.seqStaged 0 ++ s.seqStaged 1) } }) ∧
    (∀ v : Word, bit v 14 = true → s.checkMode = 9 → bits v 0 10 ≠ 0 → bits v 10 3 < 5 → bits v 16 16 ≠ 0 → s.lnk.test = none →
      let t := s.clearCheckers (bits v 0 10)
      moves (.lnkTestStart v) s (State.setReg { t with lnk := { t.lnk with
        state := 3, test := some ⟨none, bits v 0 10, bits v 10 3, bit v 13, t.tt.clk, ms (bits v 16 16) + t.tt.clk⟩ } }
        R.LNK_TEST (keepMask v 0xFFFF3FFF))) ∧
    (∀ v : Word, bits v 0 2 = 1 → s.checkMode = 9 → s.rd F.LNK_TEST_DURATION ≠ 0 → s.lnk.loop = none →
      moves (.lnkLoopWrite v) s (State.wr { s with lnk := { s.lnk with
        state := 3,
        loop := some ⟨none, 0xF, 0, false, s.tt.clk, ms (s.rd F.LNK_TEST_DURATION) + s.tt.clk⟩ } } F.LNK_LOOP_MODE 1)) ∧
    (∀ (v : Word) (t : State), [2, 9, 0xC].contains s.checkMode = true → linkSet (keepMask v 0xFF0FF3) s = (.ok, t) →
      moves (.lnkCfgWrite v) s t) ∧
    (∀ (n : Nat) (v : Word), n < 4 → bit v 4 = true → relockOk n s.sys.mode = true →
      moves (.relock n v) s ((s.wr ⟨pllAddr n 0, 2, 2⟩ (bits v 2 2)).relock n))

/-- The other register rows (R11, R85, R88, R257, R335, R450, R483, R599, R664, R696): a write that a register takes leaves what it brings;
SOFT_RESET and a kick act; CLR sets a counter to 0; a lock is set and stays; a read of a low word copies the high one. -/
def Obligations.RegisterRowsAct : Prop :=
  ∀ s : State,
    (∀ a v t, writeReg a v allOnes s = (.ok, t) → moves (.registerWrite a v) s t) ∧
    (s.sys.phase ≠ .unpowered → s.sys.phase ≠ .reset → s.sys.fw = .running → s.sys.takenOver = true →
      ∃ t, exec .sysCtrlSoftReset s = .next t ∧ t.fe.held = [] ∧ t.fe.opn = [] ∧ t.fe.events = [] ∧ t.sec.sess = none ∧
        t.sys.fw = .restarting) ∧
    (s.saf.wdogRun = true → s.wdogTime ≤ 8 * (s.tt.clk - s.saf.kickAt) →
      moves .kick s { s with saf := { s.saf with kickAt := s.tt.clk } }) ∧
    (∀ a d, findReg a = some d → d.isCounter = true → moves (.counterClr a) s (s.setReg d.addr 0#32)) ∧
    (∀ a, [R.ARR_CTRL, R.CNV_CTRL, R.PWR_CORE, R.SEC_ALARM_LVL, R.SAF_WDOG].contains a = true →
      moves (.lockSet a) s (s.setReg a (s.reg a ||| 0x80000000#32))) ∧
    (∀ v : Word, moves (.otpLockWrite v) s (s.setReg R.OTP_LOCK (s.reg R.OTP_LOCK ||| keepMask v 0x3F))) ∧
    moves .ttTbLoRead s (s.setReg R.TT_TB_HI (w32 (s.tt.tb / 2 ^ 32))) ∧
    moves .belLastLoRead s (s.setReg R.BEL_LAST_HI (w32 (s.bel.lastTb / 2 ^ 32))) ∧
    moves .pbVstbLoRead s (s.setReg R.PB_VSTB_HI (w32 (s.pb.vsTb / 2 ^ 32))) ∧
    moves .lnkPrbsbitsLoRead s (s.setReg R.LNK_PRBSBITS_HI
      (w32 ((s.lnk.checkers.getD (s.rd F.LNK_PRBSSEL_TARGET) ⟨0, 0, false⟩).bits / 2 ^ 32)))

/-! ### Events: power and start -/

/-- The supply (R494, R495, R537, R547 to R549, R577): VIN as it rises, falls and surges; a power-down that nothing holds leaves no
rail and the core in reset; RESET_N; a soft-start step raises its rails; a rail that faults; the thermal comparator. -/
def Obligations.SupplyEventsAct : Prop :=
  ∀ s : State,
    (∀ v : Nat, s.pwr.vin < v →
      ∃ t, exec (.vinRise v) s = .next t ∧ t.pwr.vin = v ∧ t.mem = s.mem ∧ t.otp = s.otp ∧
        (s.sys.phase = .unpowered → 450 ≤ v → t.sys.phase = .reset ∧ t.pwr.poc = (s.pwr.poc + 1) % 2 ^ 32)) ∧
    (∀ v : Nat, v < 540 → s.sys.phase ≠ .unpowered → s.pwr.down = none → s.pwr.pgood ≠ 0 → s.rec_.jobs = [] →
      ∃ t, exec (.uvlo v) s = .next t ∧ t.pwr.vin = v ∧ t.pwr.pgood = 0 ∧ t.pwr.step = 0 ∧ t.sys.phase = .reset) ∧
    (∃ t, exec .unpowered s = .next t ∧ t.pwr.vin = 0 ∧ t.pwr.pgood = 0 ∧ t.sys.phase = .unpowered ∧ t.pwr.poc = s.pwr.poc) ∧
    (∀ v : Nat, 1950 < v → s.sys.phase ≠ .unpowered →
      let t := s.elapse (us 10 + s.tt.clk)
      let u : State := { t with pwr := { t.pwr with vin := v, vinHi := true } }
      moves (.vinHi v) s (if s.coreRuns then u.faultC 18 else u)) ∧
    moves .vinHiEnd s (State.faultEnd { s with pwr := { s.pwr with vin := min s.pwr.vin 1950, vinHi := false } } 18) ∧
    (∀ v : Nat, 2450 < v → s.sys.phase ≠ .unpowered →
      ∃ t, exec (.surge v) s = .next t ∧ t.pwr.vin = v ∧ t.pwr.surge = true ∧ t.pwr.pgood = 0 ∧ t.sys.phase = .reset) ∧
    (∀ v : Nat, s.pwr.surge = true → v < 1900 →
      ∃ t, exec (.surgeRecovery v) s = .next t ∧ t.pwr.vin = v ∧ t.pwr.surge = false ∧ t.otp = s.otp) ∧
    (s.coreRuns = true → ∃ t, exec .resetNAssert s = .next t ∧ t.sys.phase = .reset ∧ t.sys.resetN = false ∧ t.sys.fw = .rom ∧
      t.fe = State.reset.fe ∧ t.stg = [] ∧ t.otp.cells = s.otp.cells ∧ t.pwr.vin = s.pwr.vin) ∧
    (∀ refclk khz emmc, s.sys.phase = .reset → s.railsGood = true → s.railWaits = false →
      let u : State := if s.sys.resetN then s else { s with sys := { s.sys with resetN := true, origin := s.tt.clk } }
      let f := if refclk then bits (u.otpStart.otpUsed 3 128) 0 16 else 25000
      u.otpStart.otpCodeState 0 = 2 → u.otpStart.otpCodeState 1 = 2 → 1 ≤ f → 20 * (f - khz) ≤ f → 20 * (khz - f) ≤ f →
      ∃ t, exec (.resetRelease refclk khz emmc) s = .next t ∧ t.sys.phase = .boot ∧ t.sys.resetN = true) ∧
    (s.sys.phase = .reset → 1 ≤ s.pwr.step → s.pwr.step < 8 → s.railWaits = false →
      let t := s.elapse (ns (stepNs s.pwr.step) + s.pwr.stepAt)
      moves .softStartStep s { t with pwr := { t.pwr with
        pgood := (stepRails s.pwr.step).foldl setBit t.pwr.pgood, step := s.pwr.step + 1, stepAt := t.tt.clk } }) ∧
    (∀ rail, rail ≠ 6 → s.sys.phase = .reset → rail ∈ stepRails s.pwr.step → s.railWaits = false →
      moves (.softStartTimeout rail) s ((s.elapse (ms 5 + s.pwr.stepAt)).railFault rail false)) ∧
    (s.pwr.vcmpOn = true → s.pwr.pgood.testBit 6 = false →
      moves (.softStartTimeout 6) s ((s.elapse (ms 5 + s.pwr.vcmpAt)).railFault 6 false)) ∧
    (∀ rail, s.railOn rail = true →
      moves (.railFault rail) s ((s.elapse (us 100 + s.tt.clk)).railFault rail false) ∧
      moves (.railOv rail) s ((s.elapse (us 20 + s.tt.clk)).railFault rail true)) ∧
    (∀ rail p, s.pwr.waiting.find? (fun q => q.1 == rail) = some p →
      ∃ t, exec (.hiccupRestart rail) s = .next t ∧ t.pwr.waiting = s.pwr.waiting.filter (fun q => q.1 != rail) ∧
        t.pwr.pgood = s.pwr.pgood ∧ (rail = 6 → t.pwr.vcmpOn = true)) ∧
    (s.sys.phase ≠ .unpowered → s.pwr.down = none → s.pwr.pgood ≠ 0 → s.rec_.jobs = [] →
      ∀ sensor, ∃ t, exec (.thermalComparatorTrip sensor) s = .next t ∧ t.pwr.shut = true ∧ t.pwr.pgood = 0)

/-- A rail that faults (R549): it and the rails that rise with it or after it in the order of R547 are off and the device is in reset;
the rails before it stay as they are. VCMP stands outside the order and stops alone. -/
def Obligations.RailFaultStopsLaterRails : Prop :=
  ∀ (s : State) (rail : Nat) (ov : Bool), rail < 8 →
    (rail ≠ 6 →
      (s.railFault rail ov).sys.phase = .reset ∧
      ∀ r, r < 8 → r ≠ 6 → (s.railFault rail ov).pwr.pgood.testBit r =
        (decide (riseStep r < riseStep rail) && s.pwr.pgood.testBit r)) ∧
    (rail = 6 → (s.railFault rail ov).pwr.vcmpOn = false ∧ (s.railFault rail ov).sys.phase = s.sys.phase ∧
      ∀ r, r < 8 → r ≠ 6 → (s.railFault rail ov).pwr.pgood.testBit r = s.pwr.pgood.testBit r)

/-- The converters of the power die. A voltage command in progress on a rail is answered OK (TID 2) at the time at which the rail comes
within 1 % of its target, when VCMP is good, or with 0x0B (TID 0xB) 200 µs after the full time of its slew, which sets VCMD_TO. A VID frame
does nothing below 4.5 V; a poll shows its TID's status; a frame that is bad, has a code above 210, or comes while the host owns VCMP shows
status 4; another one that asks for what VCMP has done shows 2; any other retargets or starts VCMP from where it stands and shows 1. A shed
disables the highest enabled phase, and nothing where shedding is off, LSTEP or its hold forbids it, the timing wires failed Roll Call, or
one phase is left; an abort enables every phase; the hold ends at its time. Recess comes 64 switching cycles on, in PARKING_WATCH or in
STANDBY with STBY 1, and leaves one phase; it never comes where the timing wires failed Roll Call. A write of the MTP takes 60 µs for each word and is the first of the queue. -/
def Obligations.RailEventsAct : Prop :=
  ∀ s : State,
    (∀ rail c, s.vcmdOf rail = some c →
      let t := (s.elapse (s.slewAt rail + s.nearTime rail)).vcmdEnd c 0 2
      moves (.vcmdDone rail) s (if rail = 6 then { t with pwr := { t.pwr with pgood := t.pwr.pgood ||| 64 } } else t) ∧
      moves (.vcmdTimeout rail) s
        (((s.elapse (us 200 + (s.slewAt rail + s.slewTime rail))).wr F.PWR_STAT_VCMD_TO 1).vcmdEnd c 0x0B 0xB)) ∧
    (∀ b : Nat,
      let w := w32 (b % 2 ^ 24)
      let tid := bits w 16 4
      let code := bits w 8 8
      let good := bits w 20 4 = 0xA ∧ crc8 [w8 (bits w 16 8), w8 code] = bits w 0 8
      let done := s.pwr.vcmpOn = true ∧ s.pwr.cmds.all (fun c => c.rail != 6) = true ∧ code = s.rd F.PWR_VCMP_CODE
      (s.pwr.vin < 450 → moves (.vidFrame b) s s) ∧
      (450 ≤ s.pwr.vin → good → code = 0xFF →
        moves (.vidFrame b) s { s with pwr := { s.pwr with vidOut := tid * 16 + s.tidStatus tid } }) ∧
      (450 ≤ s.pwr.vin → (¬ good ∨ code ≠ 0xFF) → (¬ good ∨ 211 ≤ code ∨ s.tst F.PWR_VCMP_OWNER = false) →
        ∃ t, exec (.vidFrame b) s = .next t ∧ t.pwr.vidOut = tid * 16 + 4 ∧ t.pwr.vcmpOn = s.pwr.vcmpOn ∧
          t.rd F.PWR_VCMP_CODE = s.rd F.PWR_VCMP_CODE) ∧
      (450 ≤ s.pwr.vin → good → code < 211 → s.tst F.PWR_VCMP_OWNER = true →
        (done → ∃ t, exec (.vidFrame b) s = .next t ∧ t.pwr.vidOut = tid * 16 + 2 ∧ t.pwr.cmds = s.pwr.cmds) ∧
        (¬ done → ∃ t, exec (.vidFrame b) s = .next t ∧ t.pwr.vidOut = tid * 16 + 1 ∧ t.pwr.vcmpOn = true ∧
          t.rd F.PWR_VCMP_CODE = code ∧ t.pwr.vcmpFrom = s.vcmpNow ∧ t.pwr.vcmpAt = s.tt.clk))) ∧
    (let a := s.rd F.PWR_SHED_ACTIVE
     let off := s.tst F.PWR_SHED_SHED_EN = false ∨ s.tt.lstep = true ∨ s.sys.rollFails.testBit 5 = true ∨ s.pwr.holdEnd ≠ none ∨ a ≤ 1
     (¬ off → moves .phaseShed s (s.wr F.PWR_SHED_ACTIVE (clearBit a a.log2))) ∧ (off → moves .phaseShed s s)) ∧
    moves .shedAbort s (s.wr F.PWR_SHED_ACTIVE 15) ∧
    (∀ x, s.pwr.holdEnd = some x →
      let t := s.elapse x
      moves .shedHoldExpiry s { t with pwr := { t.pwr with holdEnd := none } }) ∧
    (s.sys.rollFails.testBit 5 = true → moves .recessResume s s) ∧
    (s.sys.rollFails.testBit 5 = false → s.tt.lstep = false → s.sys.mode = 0x7 ∨ s.sys.mode = 0x2 ∧ s.tst F.PWR_RECESS_STBY = true →
      let t := s.elapse (us (64 * 1000 / max 1 (s.rd F.PWR_CORE_FSW_KHZ)) + s.tt.clk)
      moves .recessResume s (State.wr { t with pwr := { t.pwr with recess := true } } F.PWR_SHED_ACTIVE 1)) ∧
    (∀ w ws, s.sys.mtpQueue = w :: ws →
      moves .mtpWriteDone s ((s.elapse (us (60 * w.words.length) + s.tt.clk)).mtpWrite) ∧
      (w.key ≠ 0 → ∃ t, exec .mtpWriteDone s = .next t ∧ t.sys.mtpQueue = ws ∧
        ∀ i : Nat, i < w.words.length → nonvolatile (w.key + i) = true → t.reg (w.key + i) = w.words.getD i 0#32))

/-- The synthesisers and the start. A lock that is done leaves its synthesiser LOCKED; that of PLL-L lets the link train; and at the start
the last of the four brings part 1 of Roll Call. A plan that does not lock within 200 µs gives way to a band search. A lost lock is
counted, reported as fault 5 with the number of the synthesiser, and locked again. A lost reference is counted and reported, and every
synthesiser that runs holds; when it returns all of them lock again. A slew ends at the correction commanded. DRAM_READY is noted with the
duration of part 2 of Roll Call. After the 256 µs of the quick calibration frames can be read, the first event of FN 0 coming at once. A
verified firmware is ready to take over at the start, and takes control at once after a restart with its watchdog kicked; without it
400 ms after the origin LIMP is due with cause 2. A passed health test sets RNG_OK. -/
def Obligations.StartEventsAct : Prop :=
  ∀ s : State,
    (∀ n band kvco roll, n < 4 → s.clk.plls.length = 4 → (s.pll n).state = 1 →
      (s.sys.phase = .run →
        ∃ t, exec (.pllLockDone n band kvco roll) s = .next t ∧ (t.pll n).state = 2 ∧ t.sys = s.sys ∧ (n = 2 → t.lnk.state = 1)) ∧
      (s.sys.phase = .boot → s.sys.rollDone = false → (∀ m, m < 4 → m ≠ n → (s.pll m).state = 2) →
        ∃ t, exec (.pllLockDone n band kvco roll) s = .next t ∧ (t.pll n).state = 2 ∧ t.sys.rollDone = true ∧
          t.sys.rollUs = roll.us % 65536)) ∧
    (∀ n, (s.pll n).state = 1 → (s.pll n).search = false →
      let t := s.elapse ((s.pll n).at_ + us 200)
      moves (.planLockTimeout n) s (t.mapPll n (fun q => { q with search := true, at_ := t.tt.clk }))) ∧
    (∀ n, (s.pll n).state = 2 →
      moves (.lossOfLock n) s (((s.bump ⟨pllAddr n 1, 16, 8⟩).fault 5 n).relock n)) ∧
    ((∃ p ∈ s.clk.plls, p.state ≠ 0 ∧ p.state ≠ 3) →
      let held := s.clk.plls.map (fun (p : Pll) => if p.state = 0 then p else { p with state := 3, ring := p.ring || p.state == 1 })
      moves .referenceLost s ((State.bump { s with clk := { s.clk with plls := held } } F.CLK_REFLOSS_COUNT).fault 5 0)) ∧
    (s.clk.plls.length = 4 → s.lnk.state = 0 → (∀ n, n < 4 → (s.pll n).state = 3) →
      ∃ t, exec .referenceReturn s = .next t ∧ ∀ n, n < 4 → (t.pll n).state = 1) ∧
    (s.clk.plls.length = 4 → (s.pll 0).state = 2 → (s.pll 1).state = 2 → (s.pll 0).applied ≠ s.corrPpm →
      ∃ t, exec .slewComplete s = .next t ∧ (t.pll 0).applied = s.corrPpm ∧ (t.pll 1).applied = s.corrPpm) ∧
    (s.sys.phase = .boot → s.sys.dramReady = false → s.sys.rollDone = true →
      ∃ t, exec (.dramReady true 1000 0) s = .next t ∧ t.sys.dramReady = true ∧ t.sys.rollUs2 = 1000) ∧
    (∀ sums, s.sys.phase = .boot → s.sys.dramReady = true →
      let c := (s.elapse (us 256 + s.tt.clk)).quickCalDone sums
      ∃ t, exec (.quickCalibration sums) s = .next t ∧ t.sys.phase = .run ∧ t.tt.clk = us 256 + s.tt.clk ∧
        t.tt.startDue = some (t.tt.clk + leadSlots c.live * rpRaw c.live)) ∧
    (s.coreRuns = true → s.sys.imageGood = true → s.fe.held = [] →
      (s.sys.fw = .rom → moves .firmwareReady s { s with sys := { s.sys with fwReady := true } }) ∧
      (s.sys.fw = .restarting → ∃ t, exec .firmwareReady s = .next t ∧ t.sys.fw = .running ∧ t.saf.wdogRun = true ∧
        t.saf.kickAt = s.tt.clk)) ∧
    (s.coreRuns = true → s.sys.fw = .rom → s.sys.fwReady = false →
      moves .takeoverTimeout s ((s.elapse (ms 400 + s.sys.origin)).limpFor 2)) ∧
    (s.coreRuns = true → moves .healthTestPass s (s.wr F.SEC_STAT_RNG_OK 1))

/-! ### Events: link and reference -/

/-- The link. A back-channel frame that closed is taken apart into its packets; one that did not counts in LNK_LONGFRM, and its first 1,040
characters are. An LSTATE with a bad CRC-8 is counted; a good one sets GOOD, ends HOST_SILENT, and in training with READY and a common lane
makes the link ready. An IDLE set with a code violation is counted and ends the run; a good one lengthens it, and 64 give BC_LOCK. A lane
that was good long enough joins the active lanes at a marker, with LCHG and an event. HOST_SILENT is set at its time. A window with too few
transitions or a violation freezes the receiver; another moves CTLE and taps one LMS step. An eye open enough makes the taps the centres;
otherwise the taps go back to them. Training ends in ACTIVE on the lanes that are good, with MCOUNT 0; its time-out restores the setting
before, or ends in ACTIVE on every lane with NO_LSTATE. A lane's coefficients that wait come into force with the next marker. A test or a
loopback that ends lets the lanes train again. -/
def Obligations.LinkEventsAct : Prop :=
  ∀ s : State,
    (s.coreRuns = true →
      (∀ (chars : List Sys2Proof.Byte), chars.length ≤ 1040 →
        moves (.backChannelFrame chars true) s
          (framePackets 261 (wordsOfBytes chars) (chars.length % 4) true (s.echoFrame chars))) ∧
      (∀ (chars : List Sys2Proof.Byte),
        moves (.backChannelFrame chars false) s
          (framePackets 261 (wordsOfBytes (chars.take 1040)) ((chars.take 1040).length % 4) false
            ((s.bump F.LNK_LONGFRM_COUNT).echoFrame (chars.take 1040)))) ∧
      (∀ b ack crc, crc8 [w8 b, w8 (ack / 256), w8 ack] ≠ crc → moves (.lstate b ack crc) s (s.bump F.LNK_LSTCRC_COUNT)) ∧
      (∀ b ack, ∃ t, exec (.lstate b ack (crc8 [w8 b, w8 (ack / 256), w8 ack])) s = .next t ∧
        t.lnk.good = b % 16 ∧ t.lnk.hostSilent = false ∧ t.lnk.lstateAt = s.tt.clk ∧
        (s.lnk.state = 1 → b.testBit 4 = true → (b % 16) &&& s.lanes ≠ 0 → t.lnk.ready = true)) ∧
      (∀ chars, moves (.bcIdle chars true) s
        (State.bump { s with lnk := { s.lnk with idleRun := 0 } } F.LNK_BCCODE_COUNT)) ∧
      (∀ chars, ∃ t, exec (.bcIdle chars false) s = .next t ∧ t.lnk.idleRun = s.lnk.idleRun + 1 ∧
        (64 ≤ s.lnk.idleRun + 1 → t.lnk.bcLock = true))) ∧
    (∀ lane since, s.lnk.goodSince.getD lane none = some since → s.lnk.state = 2 → s.lnk.hostSilent = false →
      let t := s.elapse (ms (1000 * max 1 (s.rd F.LNK_TIMER_READD_S)) + since)
      let mask := t.lnk.active ||| 2 ^ lane
      let u : State := { t with lnk := { t.lnk with index := t.lnk.index / 16384 * 16384 + 16383 } }
      moves (.laneReadd lane) s (((u.setLanes mask t.lnk.lseq).laneStep.laneEvent t.lnk.active mask true).trackGood)) ∧
    (s.lnk.state ≠ 0 → s.lnk.hostSilent = false →
      let t := s.elapse (ms (max 1 (s.rd F.LNK_TIMER_SILENT_MS)) + s.lnk.lstateAt)
      moves .hostSilent s { t with lnk := { t.lnk with hostSilent := true } }) ∧
    (s.lnk.state ≠ 0 → ∀ n violation steps, n < 256 ∨ violation = true →
      moves (.bcAdaptWindow n violation steps) s
        (s.wrs [(F.LNK_EYE_DENS, min 255 (n * 100 / 1024)), (F.LNK_EYE_FROZEN, 1)])) ∧
    (s.lnk.state ≠ 0 → s.tst F.LNK_BCCLAMP_ADAPT_EN = true → s.sys.park.idle = false → ∀ n steps, 256 ≤ n →
      let t := s.wrs [(F.LNK_EYE_DENS, min 255 (n * 100 / 1024)), (F.LNK_EYE_FROZEN, 0)]
      let taps := (List.range 4).map (fun i =>
        tapStep t.lnk.centred (max 1 (t.rd F.LNK_BCCLAMP_WIN)) (t.lnk.centres.getD i 0) (t.taps.getD i 0) (steps.getD (i + 1) 0))
      moves (.bcAdaptWindow n false steps) s
        ((t.wr F.LNK_BCEQ_CTLE (clampI 0 15 (t.rd F.LNK_BCEQ_CTLE + (steps.getD 0 0).sign)).toNat).setTaps taps)) ∧
    (s.lnk.state ≠ 0 → ∀ h w,
      let t := s.wrs [(F.LNK_EYE_HEIGHT, min 255 h), (F.LNK_EYE_WIDTH, min 255 w)]
      (t.rd F.LNK_BCCLAMP_EYE_MIN ≤ h →
        moves (.eyeMonitor h w) s { t with lnk := { t.lnk with centres := t.taps, centred := true } }) ∧
      (h < t.rd F.LNK_BCCLAMP_EYE_MIN → ∃ u, exec (.eyeMonitor h w) s = .next u ∧ u.taps = (t.setTaps s.lnk.centres).taps)) ∧
    (s.lnk.state = 1 → s.lnk.ready = true → s.otp.margDue = [] →
      ∃ t, exec .linkActive s = .next t ∧ t.lnk.state = 2 ∧ t.lnk.active = (s.lnk.good &&& s.lanes) ∧ t.lnk.mcount = 0) ∧
    (s.lnk.state = 1 → s.lnk.ready = false →
      (∀ w, s.lnk.prevCfg = some w → ∃ t, exec .trainTimeout s = .next t ∧ t.reg R.LNK_CFG = w ∧ t.lnk.prevCfg = none) ∧
      (s.lnk.prevCfg = none → ∃ t, exec .trainTimeout s = .next t ∧ t.lnk.state = 2 ∧ t.lnk.noLstate = true ∧
        t.lnk.active = s.lanes)) ∧
    (∀ lane p, s.lnk.ffeNext.find? (fun q => q.1 == lane) = some p →
      let t : State := { s with lnk := { s.lnk with index := s.lnk.index / 16384 * 16384 + 16383 } }
      let u := (t.setFfe lane p.2.1 p.2.2).marker t.lanes (s.lnk.mcount + 1)
      moves (.ffeApply lane) s (State.settleFfe { u with lnk := { u.lnk with ffeNext := u.lnk.ffeNext.filter (fun q => q.1 != lane) } })) ∧
    (∀ x, s.lnk.test = some x → s.lnk.loop = none → moves .testEnd s (retrainAfter (endTest (s.elapse x.endAt)))) ∧
    (∀ y, s.lnk.test = none → s.lnk.loop = some y → moves .testEnd s (retrainAfter (endLoop (s.elapse y.endAt))))

/-- The reference. A mark comes at its time. With a bad CRC-8 it is counted and not used. One that names no line of the reference frame is
discarded and counted, and in ACQUIRE and TRACK so is one that comes less than half the mark interval after the last. Any other acts as the
lock state has it: `markAcquire`, `markTrack`, `markCoast`, and in TRACK with no mark before it becomes the last one. A mark that did not
come by 1.5 intervals is counted. Without a valid mark for 4 intervals TRACK becomes COAST with the event REF_LOST. ACQUIRE past its time
answers its command and goes on. -/
def Obligations.ReferenceEventsAct : Prop :=
  ∀ s : State,
    (∀ after line hfc crc, s.coreRuns = true →
      let t := s.elapse (ns (2 * after) + s.tt.clk)
      let m : MarkAt := ⟨line % 65536, hfc % 65536, t.tt.tb, t.tt.clk⟩
      (crc8 [w8 (line / 256), w8 line, w8 (hfc / 256), w8 hfc] ≠ crc → moves (.mark after line hfc crc) s (t.bump F.LNK_MARKCRC_COUNT)) ∧
      (crc8 [w8 (line / 256), w8 line, w8 (hfc / 256), w8 hfc] = crc →
        (t.rd F.TT_REF_VTOTAL_RL ≤ m.line → moves (.mark after line hfc crc) s (t.bump F.TT_MARKERR_DISCARD)) ∧
        (m.line < t.rd F.TT_REF_VTOTAL_RL →
          (∀ p, t.tt.last = some p → t.tt.lock = 1 ∨ t.tt.lock = 2 →
            m.at_ < p.at_ + t.rlTime (t.rd F.TT_REF_M) 2 → moves (.mark after line hfc crc) s (t.bump F.TT_MARKERR_DISCARD)) ∧
          (t.tt.last = none →
            (t.tt.lock = 1 → moves (.mark after line hfc crc) s (t.markAcquire m)) ∧
            (t.tt.lock = 2 → moves (.mark after line hfc crc) s { t with tt := { t.tt with last := some m } }) ∧
            (t.tt.lock = 3 → moves (.mark after line hfc crc) s (t.markCoast m))) ∧
          (∀ p, t.tt.last = some p →
            (t.tt.lock = 1 → p.at_ + t.rlTime (t.rd F.TT_REF_M) 2 ≤ m.at_ → moves (.mark after line hfc crc) s (t.markAcquire m)) ∧
            (t.tt.lock = 2 → p.at_ + t.rlTime (t.rd F.TT_REF_M) 2 ≤ m.at_ → moves (.mark after line hfc crc) s (t.markTrack p m)) ∧
            (t.tt.lock = 3 → moves (.mark after line hfc crc) s (t.markCoast m)))))) ∧
    (∀ p, s.tt.last = some p →
      (s.tt.lock ≠ 0 →
        moves .markMissed s ((s.elapse (p.at_ + s.rlTime (3 * s.rd F.TT_REF_M) 2)).bump F.TT_MARKERR_MISSED)) ∧
      (s.tt.lock = 2 → s.fe.evMask.testBit 9 = false → s.fe.events = [] → s.fe.waiting = [] →
        ∃ t, exec .coastTimeout s = .next t ∧ t.tt.lock = 3 ∧ t.tt.coastAt = max s.tt.clk (p.at_ + s.rlTime (4 * s.rd F.TT_REF_M) 1) ∧
          t.fe.events = [⟨9, 1, s.tt.fn, [w32 (p.tb / 65536), w32 s.tt.fn]⟩])) ∧
    (s.tt.lock = 1 → s.tt.acqLate = false →
      ∃ t, exec .acquireTimeout s = .next t ∧ t.tt.lock = 1 ∧ t.tt.acqLate = true ∧ t.isOpen 0x21 = false)

/-! ### Events: frames -/

/-- Frames. While frames run the next one begins at the end of the one being read, or at the later time that an event set for it; with
none being read a frame that is due begins at its time. The COMMIT event of a frame acts as `commitEvent` says; where nothing but a pending
set waits for it, and the set's REQ came 1 RP before or earlier, it takes the set for its apply frame. FRAME_END comes at the end of the
frame, and with a change to a non-streaming mode the mode changes there, no frame is read any more, and every stream frame ends. Without
frames the pending set is taken for the frame that TT_APPLYFN promises. -/
def Obligations.FrameEventsAct : Prop :=
  ∀ s : State,
    (s.sys.phase = .run → s.tt.run = true → s.sys.limpDue = none → s.stopsFrames = false → s.sys.mode ≠ 5 →
      let at_ := max s.frameEndAt (s.tt.startDue.getD 0)
      moves .frameStart s (((s.elapse (onCycle at_)).beginFrameNow at_).pump)) ∧
    (∀ d, s.sys.phase = .run → s.tt.run = false → s.tt.startDue = some d → s.pend = none →
      moves .frameStart s (((s.elapse (onCycle d)).beginFrameNow d).pump)) ∧
    (s.tt.run = true → s.tt.committed = 0 → moves .commitEvent s (s.commitEvent 0).pump) ∧
    (∀ p, s.tt.run = true → s.tt.committed = 0 → s.sys.chg = none → s.thm.want = none → s.exp.seq = none →
      s.sys.fw = .running → s.saf.switching = none → s.fe.held = [] → s.pend = some p →
      p.reqAt + 16 * p.rp ≤ (s.elapse (onCycle (commitTime s 0))).tt.clk →
      ∃ t, exec .commitEvent s = .next t ∧ t.pend = none ∧
        t.taken = s.taken ++ [⟨s.rd F.TT_APPLYFN_FN, p.ov.filter (fun w => !pbKey w.1)⟩]) ∧
    (s.tt.run = true → s.sys.chg = none → s.sys.mode ≠ 5 → moves .frameEnd s (s.elapse (onCycle s.frameEndAt))) ∧
    (∀ c, s.tt.run = true → s.sys.chg = some c → streamingMode c.target = false →
      ∃ t, exec .frameEnd s = .next t ∧ t.sys.mode = c.target ∧ t.tt.run = false ∧ t.tt.startDue = none ∧ t.out.live = []) ∧
    (∀ p, s.pend = some p → s.tt.run = false → s.tt.startDue = none →
      ∃ t, exec .pendingSetTaken s = .next t ∧ t.pend = none ∧
        t.taken = s.taken ++ [⟨s.rd F.TT_APPLYFN_FN, p.ov.filter (fun w => !pbKey w.1)⟩])

/-- Rows and edges within a frame. ROW_RESET, BLOCK_RESET and SHORT_RESET come at their times: the placed integration before phase 4 of the
row's long window, or before phase 12 of its short one; with the first row of a block row its indices are issued. A long read comes at its
window, ends LSTEP, and fills hold banks with the long samples; with the first row of a block row its record arrives. A short read comes at
phase 12 of its window, ends LSTEP, and fills a hold bank with the short sample. A STROBE_ON that acts drives the strobe and lights its
frame; a STROBE_OFF that acts ends it; one that does not act leaves the strobe as it is. LSTEP rises at the next of its times, and every
phase is then enabled and Recess over. The cut of the oldest set that is not cut is noted. -/
def Obligations.RowEventsAct : Prop :=
  ∀ s : State,
    (∀ row fn at_ v, s.rowDue row (fun v p => 16 * p + 4 * vW v - placedLong (vTl v) 0) = some (fn, at_, v) →
      moves (.rowReset row) s
        (if 48 ≤ row ∧ row % 4 = 0 then (s.elapse at_).issueRow fn ((row - 48) / 4) else s.elapse at_)) ∧
    (∀ row k fn at_ v, s.rowDue row (fun v p => 16 * p + 4 * vW v - placedLong (vTl v) (min k 15)) = some (fn, at_, v) →
      moves (.blockReset row k) s (s.elapse at_)) ∧
    (∀ row at_, s.shortDue row = some at_ → moves (.shortReset row) s (s.elapse at_)) ∧
    (∀ row record p, s.tt.run = true → readRp s.live row = some p →
      (let t := ((s.elapse (s.slotTime (16 * p))).lstepEdge false).fillBanks row p [0, 1, 2]
       moves (.longRead row record) s (if 48 ≤ row ∧ row % 4 = 0 then t.recordRow t.tt.fn ((row - 48) / 4) record else t)) ∧
      (vShort s.live = true →
        let n := shortRp s.live s.effNow row
        moves (.shortRead row) s (((s.elapse (s.slotTime (16 * n + 12 * vW s.live))).lstepEdge false).fillBanks row n [3]))) ∧
    (∀ fn at_ acts, s.strobeDue true = some (fn, at_, acts) →
      ∃ t, exec .strobeOn s = .next t ∧ t.tt.strobe = (acts || s.tt.strobe) ∧ t.tt.strobeOnAt = some at_ ∧
        (acts = true → t.tt.lit.head? = some fn) ∧ (acts = false → t.tt.lit = s.tt.lit)) ∧
    (∀ fn at_ acts, s.strobeDue false = some (fn, at_, acts) →
      ∃ t, exec .strobeOff s = .next t ∧ t.tt.strobe = (s.tt.strobe && !acts) ∧ t.tt.strobeOffAt = some at_ ∧ t.tt.lit = s.tt.lit) ∧
    (∀ w, (s.lstepRises.filter (fun w => decide (s.tt.clk < w))).foldl (fun (a : Option Nat) t => some (min t (a.getD t))) none = some w →
      s.tst F.TT_CTRL_LSTEP_EN = true →
      ∃ t, exec .lstep s = .next t ∧ t.tt.lstep = true ∧ t.pwr.recess = false ∧ t.pwr.holdEnd = none ∧ t.rd F.PWR_SHED_ACTIVE = 15 ∧
        t.tt.clk = w) ∧
    (∀ fn, s.pix.opened.find? (fun n => !s.pix.cut.contains n) = some fn →
      ∃ t, exec .statsCut s = .next t ∧ t.pix.cut = s.pix.cut ++ [fn])

/-- What follows the rows. A conversion cycle takes each of its rows in turn at its end. Tracking whose time in the frame has passed is
counted as skipped; else it moves every converter's entry once its conversions are over; a frame tracks once. A set that is complete
closes. AE runs on the newest closed set, and AWB, enabled with the firmware running, commits gains drawn freely, each once for a set. In
LOCKED mode in TRACK, from the first active row on, the lines of display A up to the named one fall due. A display that ends no frame with
its FOOTER in time is fault DSTALL and leads to LIMP; in LIMP it makes the picture black. A calibration that ends leaves its table as the
shadow, which is copied at once in blanking. -/
def Obligations.PictureEventsAct : Prop :=
  ∀ s : State,
    (∀ rows, s.sys.phase = .run → s.tt.started = true → s.tt.run = true →
      moves (.conversionCycle rows) s (rows.foldl (fun t r => t.takeRow r) (s.elapse (s.cycleEnd rows)))) ∧
    (∀ sums, s.tt.run = true → streamingMode s.sys.mode = true → s.tst F.CNV_CTRL_TRACK_EN = true →
      let t : State := { s with cnv := { s.cnv with tracked := true } }
      let start := trackStart s.live s.effNow + 2 * vW s.live
      (s.cnv.tracked = true → moves (.offsetTracking sums) s s) ∧
      (s.cnv.tracked = false → s.tt.vcur < start → moves (.offsetTracking sums) s (t.bump F.CNV_TRKSKIP_COUNT)) ∧
      (s.cnv.tracked = false → start ≤ s.tt.vcur → moves (.offsetTracking sums) s ((t.toSlot start 0).trackAll sums))) ∧
    (∀ fn, s.closing = some fn → moves .statsSetClose s (s.closeFrame fn)) ∧
    (∀ set rest, s.pix.closed = set :: rest →
      (s.exp.aeDone ≠ some set.fn → moves .aeRun s (s.runAe set)) ∧
      (s.exp.aeDone = some set.fn → moves .aeRun s s) ∧
      (s.sys.fw = .running → s.tst F.PA_CTRL_AWB_EN = true →
        let a := Sys2Proof.Config.freeWord s.free
        let b := Sys2Proof.Config.freeWord (s.free + 1)
        (s.exp.awbDone ≠ some set.fn →
          moves .awbRun s (State.aeCommit { s with exp := { s.exp with awbDone := some set.fn }, free := s.free + 2 }
            [(F.PA_WB0_GR, bits a 0 16), (F.PA_WB0_GG, bits a 16 16), (F.PA_WB1_GB, bits b 0 16), (F.PA_WB1_GI, bits b 16 16)])) ∧
        (s.exp.awbDone = some set.fn → moves .awbRun s s))) ∧
    (∀ line f r d, s.tt.run = true → s.sys.mode = 4 → s.tt.lock = 2 →
      let t := s.elapse (s.lineDue line)
      t.pix.rows.any (fun c => c.fn == t.tt.fn && decide (48 ≤ c.row)) = true →
      t.dispLive t.tt.fn = some f → dispWin t.live = some r → dispLineView t.live (t.halfSize t.live) = some d →
      let l := min line (d.oh - 1)
      let p := t.dueLines t.live r d l (l + 1) f
      moves (.displayLineDue line) s ((p.2.setFrame f p.1).endDispA p.1)) ∧
    (streamingMode s.sys.mode = true → s.sys.phase = .run →
      let t := s.elapse (s.saf.dispFooterAt + max 2 (s.rd F.SAF_DSTALL_FRAMES) * 16 * s.rd F.TT_VTOTAL_VTOTAL * rpRaw s.live)
      (t.sys.mode ≠ 0xB → moves .dstall s ((t.fault 0 (4 * 4096)).limpFor 4)) ∧
      (t.sys.mode = 0xB → let u := t.faultC 0
        moves .dstall s { u with sys := { u.sys with black := true } })) ∧
    (∀ sums, s.cnv.calBusy = true →
      let n := 2 ^ s.rd F.CNV_CAL_AVG_LOG2
      let t := s.elapse (us (8 * n) + s.cnv.calAt)
      let u : State := { t with cnv := { t.cnv with calBusy := false, shadow := some (sums.map (calEntry n)) } }
      moves (.calibrationComplete sums) s (if u.inBlanking then u.calCopy else u))

/-- The Bell. In TRIGGERED mode the event that waits is taken with the configured delay. A pin edge of the configured sense that holds for
the minimum width raises an event at the time it is recognised; a shorter pulse is ignored. A scheduled TB that is reached raises its event
with its tag. The end of what an event started comes at the end of its last frame less the lead of the next: the Bell is ready, and a held
event is taken with no delay. -/
def Obligations.BellEventsAct : Prop :=
  ∀ s : State,
    (∀ e, s.bel.raised = some e → s.sys.mode = 5 → moves .bellTake s (s.bellTake e (s.rd F.BEL_CFG_DELAY))) ∧
    (∀ after falling held, s.sys.mode = 5 → (s.rd F.BEL_CFG_SRC).testBit 0 = true → s.tst F.BEL_CFG_EDGE = falling →
      2 * max 1 (s.rd F.BEL_CFG_MINW) ≤ held →
      let t := s.elapse (ns (2 * after + 2 * max 1 (s.rd F.BEL_CFG_MINW) + 8) + s.tt.clk)
      moves (.trigInEdge after falling held) s (t.bellRaise ⟨t.tt.clk, t.tt.tb, none⟩)) ∧
    (∀ after falling held, s.sys.mode = 5 → held < 2 * max 1 (s.rd F.BEL_CFG_MINW) → moves (.trigInEdge after falling held) s s) ∧
    (∀ at_ tag, s.bel.sched = some (at_, tag) →
      let t := s.elapse (s.clkAtTb at_)
      moves .triggerAtReached s
        (State.bellRaise { t with bel := { t.bel with sched := none } } ⟨t.tt.clk, at_, some tag⟩)) ∧
    (s.bel.busy = true → s.exp.seq = none → ∀ rp0, s.tt.startDue = some rp0 ∨ (s.tt.startDue = none ∧ rp0 = s.tt.rp0) →
      let v := s.viewFor s.bel.lastFn
      let next := (s.viewFor (fnNext s.bel.lastFn)).over s.bellOverlay
      let t := s.elapse (onCycle (rp0 + 16 * vVtotal v * rpRaw v - frameLead next * rpRaw next))
      let u : State := { t with bel := { t.bel with busy := false } }
      (u.bel.queue = none → moves .bellBusyEnd s u) ∧
      (∀ e, u.bel.queue = some e →
        moves .bellBusyEnd s (State.bellTake { u with bel := { u.bel with queue := none } } e 0)))

/-- The companion. Its power-up delays, each counted from the step before, end the power-down pin's hold, release its reset, and begin the
INIT list; its power-down delays set the power-down pin, and stop the clock and free the buffers. No frame in 500 ms after the start is an
error. With a write due in the frame in progress, the window opens at its line and the bus takes the next transfer. An INIT transfer that is
acknowledged goes on to the next; another pulls reset and is an error; a transfer of a job or a write set is booked and the next begins.
From state 3 on a frame start, with no write queued and no job waiting, counts the frame and notes its time and line period. A whole frame
that is neither late nor overrun leaves the companion running, with its number. A companion lost waits to come back. PCLK notes whether it
runs. -/
def Obligations.CompanionEventsAct : Prop :=
  ∀ s : State,
    (s.pb.state = 1 →
      let t := s.elapse (us (100 * bits (s.prof 5) (8 * (s.pb.step - 1)) 8) + s.pb.since)
      (s.pb.step = 1 → moves .companionPowerupDelay s
        { t with pb := { t.pb with since := t.tt.clk, step := t.pb.step + 1, pwdn := false } }) ∧
      (s.pb.step = 2 → moves .companionPowerupDelay s
        { t with pb := { t.pb with since := t.tt.clk, step := t.pb.step + 1, rstN := true } }) ∧
      (s.pb.step = 3 → moves .companionPowerupDelay s
        (State.initAll { t with pb := { t.pb with since := t.tt.clk, state := 2, step := 0 } } 0))) ∧
    (s.pb.step = 4 →
      let t := s.elapse (us (100 * bits (s.prof 5) 8 8) + s.pb.since)
      moves .companionPowerdownDelay s { t with pb := { t.pb with pwdn := true, step := 5, since := t.tt.clk } }) ∧
    (s.pb.step = 5 →
      let t := s.elapse (us (100 * bits (s.prof 5) 0 8) + s.pb.since)
      let u := State.wr { t with pb := { t.pb with state := 0, step := 0, bufs := [.free, .free] } } F.CLK_OUT0_RUN 0
      moves .companionPowerdownDelay s (u.faultEnd 16).pbDown) ∧
    (s.pb.state = 3 → s.pb.step < 4 →
      moves .companionStartTimeout s ((s.elapse (ms 500 + s.pb.since)).pbError 0xB [])) ∧
    (s.pb.state = 4 → s.pb.opened ≠ some s.pb.cfn → (∃ w ∈ s.pb.queue, w.due s.pb.cfn ≠ none) →
      let t := s.elapse (ns (bits (s.prof 8) 0 12 * s.pb.line) + s.pb.vsAt)
      let u : State := { t with pb := { t.pb with opened := some t.pb.cfn } }
      moves .writeSetBurst s (if u.pb.now = .idle then u.nextBus else u)) ∧
    (∀ data late i, s.pb.now = .init i →
      let r := i2cReg (s.prof (74 + 2 * i)) (s.prof (75 + 2 * i))
      let t := s.elapse (ns (s.i2cNs r) + s.tt.clk)
      moves (.i2cTransferDone .ack data late) s ((t.landRole r).initAll (i + 1)) ∧
      ∀ res, res ≠ .ack → moves (.i2cTransferDone res data late) s
        (let u := t.i2cFail r res
         State.pbError { u with pb := { u.pb with rstN := false } } 0xC [w32 i])) ∧
    (∀ res data late j js, s.pb.now = .job → s.pb.jobs = j :: js →
      moves (.i2cTransferDone res data late) s
        (State.nextBus ((s.elapse (ns (s.i2cNs (j.regs.getD j.done ⟨0, 1, 0, 0#32⟩)) + s.tt.clk)).jobDone res data))) ∧
    (∀ res data late tag i w, s.pb.now = .set tag i → s.pb.queue.find? (fun w => w.tag == tag) = some w →
      moves (.i2cTransferDone res data late) s
        (State.nextBus ((s.elapse (ns (s.i2cNs (w.regs.getD i (0, ⟨0, 1, 0, 0#32⟩)).2) + s.tt.clk)).setDone tag i res late))) ∧
    (∀ after line, 3 ≤ s.pb.state → s.pb.state ≤ 5 → s.pb.step < 4 → s.pb.queue = [] → s.pb.jobs = [] →
      ∃ t, exec (.companionFrameStart after line) s = .next t ∧
        t.pb.cfn = (if s.pb.state = 4 then fnNext s.pb.cfn else s.pb.cfn) ∧ t.pb.receiving = true ∧
        t.pb.line = line ∧ t.pb.taken = [] ∧ t.pb.vsAt = (s.elapse (ns after + s.tt.clk)).tt.clk) ∧
    (∀ frame, s.pb.receiving = true → frame.overflow = false → frame.late = false →
      frame.lines.length = s.profLines.1 + s.profLines.2.1 + s.profLines.2.2 →
      frame.lines.all (fun l => l.length == bits (s.prof 2) 0 12) = true →
      ∃ t, exec (.companionFrameEnd frame) s = .next t ∧ t.pb.receiving = false ∧ t.pb.state = 4 ∧
        t.pb.cfn = (if s.pb.state = 3 then 0 else if s.pb.state = 5 then fnNext s.pb.cfn else s.pb.cfn)) ∧
    (s.pb.state = 4 → s.pb.step < 4 →
      let t := (s.elapse (us (20 * bits (s.prof 3) 16 16) + s.pb.vsAt)).dropReceiving 3
      moves .companionLost s (State.faultC { t with pb := { t.pb with state := 5 } } 16)) ∧
    moves .pclkTimeout s { s with pb := { s.pb with pclk := false } } ∧
    moves .pclkEdge s { s with pb := { s.pb with pclk := true } }

/-! ### Events: housekeeping, OTP, security, dependability, parking, recorder -/

/-- Housekeeping and heat, with the power die powered. A fast round is stored and counted; one of converter A uses up the codes that an
urgent request held, waits for the next where its sequence has an urgent entry, shows its length, and its watches are checked; one of
converter B checks the heater, and its own watches where its sequence has channel 0x16. The tick comes at the next multiple of 1,024 µs:
due sequences, both slow rounds, plausibility, temperatures, the stage warning, the throttle, the heater's period, over-temperature, in
that order. An urgent request is sampled where converter A waits; one unasked for is else counted as dropped. The grace time, the time for
which CLEAR has held and the time in ENF1 run out into their states. The heater's on-time ends. -/
def Obligations.HousekeepingEventsAct : Prop :=
  ∀ s : State,
    (s.sys.phase ≠ .unpowered →
      (∀ codes,
        let es := roundOf (s.seq 0) false
        let t := s.storeRound 0 codes
        moves (.hkFastRound 0 codes) s
          ((State.wr { t with hk := { t.hk with held := none, urgent := es.any (fun p => seqKind p.2 == 1) } }
            F.HK_STAT_FAST_US (min 63 (roundUs (s.hk.lastCh.getD 0 none) es))).watchA)) ∧
      (∀ codes,
        let t := (s.storeRound 1 codes).heaterSense
        moves (.hkFastRound 1 codes) s (if (roundOf (s.seq 1) false).any (fun p => seqCh p.2 == 0x16) then t.watchB else t)) ∧
      (∀ a b,
        let t := (((s.elapse (us 1024 + us 1024 * (s.tt.clk / us 1024))).seqTake.slowRound 0 a).slowRound 1 b).plausibility
        moves (.hkTick a b) s ((t.temperatures.stageWarn t).throttle.heaterPeriod).overTemp) ∧
      (∀ codes,
        (s.hk.urgent = true → moves (.urgentRequest codes) s (s.sample codes) ∧ moves (.unsolicitedUrgentRequest codes) s (s.sample codes)) ∧
        (s.hk.urgent = false → moves (.unsolicitedUrgentRequest codes) s (s.bump F.HK_URGDROP_COUNT)))) ∧
    (s.thm.state = 1 → moves .graceExpiry s ((s.elapse (ms (100 * s.rd F.THM_CFG_GRACE) + s.thm.graceAt)).thmGo 2)) ∧
    (∀ x, s.thm.clearAt = some x →
      (s.thm.state = 1 → moves .clearHoldExpiry s ((s.elapse (ms 1000 + x)).thmGo 0)) ∧
      (s.thm.state = 2 → moves .clearHoldExpiry s ((s.elapse (ms 10000 + x)).thmGo 0)) ∧
      (s.thm.state = 3 → moves .clearHoldExpiry s ((s.elapse (ms 10000 + x)).thmGo 2))) ∧
    (s.thm.state = 2 → s.warnLevel ≤ s.tMax →
      moves .enf2Timeout s ((s.elapse (ms (1000 * max 1 (s.rd F.THM_CFG_ENF2_S)) + s.thm.since)).thmGo 3)) ∧
    (s.thm.htrOn = true →
      let t := s.elapse (us (s.rd F.THM_HTRSTAT_ONTIME) + us 1024 * (s.tt.clk / us 1024))
      moves .heaterPwmOff s { t with thm := { t.thm with htrOn := false } })

/-- The OTP and the Prefect. The next word of an OTP job is blown: each wanted bit but the short ones is set, and no other cell changes.
A handshake that is due is answered, and from then its time runs; 1.0 s after the answer it has expired. An AUTH_FINISH is checked. A quiz
block of the frame is marked as read. An alarm that is detected while the core runs is raised; that of source 6 clears RNG_OK. -/
def Obligations.SecurityEventsAct : Prop :=
  ∀ s : State,
    (∀ j a w rest short loose, s.otp.job = some j → j.words = (a, w) :: rest →
      let want := w &&& ~~~ (s.otp.cell a).1
      ∃ t, exec (.otpWordProgrammed short loose) s = .next t ∧
        (t.otp.cell a).1 = (s.otp.cell a).1 ||| (want &&& ~~~ short) ∧ ∀ b, b ≠ a → t.otp.cell b = s.otp.cell b) ∧
    (∀ h g, s.sec.hand = some h → h.tag = some g →
      ∃ t, exec .handshakeDone s = .next t ∧ t.sec.hand = some { h with tag := none, repliedAt := s.tt.clk }) ∧
    (∀ h, s.sec.hand = some h → h.tag = none → h.expired = false →
      let t := s.elapse (ms 1000 + h.repliedAt)
      moves .handshakeTimeout s { t with sec := { t.sec with hand := some { h with expired := true } } }) ∧
    (∀ f, s.sec.finish = some f → moves .finishCheckDone s (State.finishCheck { s with sec := { s.sec with finish := none } } f)) ∧
    (∀ n b, (s.sec.quizzes.find? (fun q => q.fn == s.tt.fn)).bind (fun q => q.blocks[n]?) = some b →
      ∃ t q, exec (.popQuizEvent n) s = .next t ∧ q ∈ t.sec.quizzes ∧ q.fn = s.tt.fn ∧ { b with read := true } ∈ q.blocks) ∧
    (∀ source, source < 9 → s.coreRuns = true →
      moves (.alarmDetect source) s ((if source = 6 then s.wr F.SEC_STAT_RNG_OK 0 else s).alarm source))

/-- Dependability. A watchdog whose time runs out and a lockstep error restart the firmware. An uncorrectable memory error is counted, and
in memories 0, 2 and 5 restarts it. An incoming image that passes its checks is ready; one that is not ready within 200 ms is given up, and
FW_SWITCH is answered INTERNAL. FW_STAGE_VERIFY ends with the image staged and its number, or refused with the check that failed. A
self-test ends with the tests that passed, OK or DEGRADED. -/
def Obligations.DependabilityEventsAct : Prop :=
  ∀ s : State,
    (s.saf.wdogRun = true → moves .watchdog s ((s.elapse (s.saf.kickAt + s.wdogTime)).restartFor 9)) ∧
    (s.coreRuns = true →
      moves .lockstep s (s.restartFor 8) ∧
      ∀ m, m ≤ 6 →
        (m = 0 ∨ m = 2 ∨ m = 5 → moves (.memUncorr m) s ((s.bump ⟨R.SAF_ECC0 + m, 16, 8⟩).restartFor 10)) ∧
        (m ≠ 0 → m ≠ 2 → m ≠ 5 → moves (.memUncorr m) s (s.bump ⟨R.SAF_ECC0 + m, 16, 8⟩))) ∧
    (s.saf.switching ≠ none →
      moves .switchLoadDone s (if s.imageFail (imageWid s.saf.target) = none then
        { s with saf := { s.saf with switchReady := true } } else s) ∧
      (s.saf.switchReady = false →
        let t := s.elapse (ms 200 + s.saf.switchAt)
        moves .switchTimeout s (State.finishOp { t with saf := { t.saf with switching := none } } 0xD3 0x0C t.tt.fn []))) ∧
    (s.isOpen 0xD2 = true →
      (s.imageFail (imageWid s.stageTarget) = none →
        let svn := bits (s.reg (wkey (imageWid s.stageTarget) 2)) 0 8
        moves .stageVerifyDone s
          (State.finishOp { s with saf := { s.saf with stage := 2, target := s.stageTarget, svnStaged := svn } } 0xD2 0 s.tt.fn [w32 svn])) ∧
      (∀ n, s.imageFail (imageWid s.stageTarget) = some n →
        moves .stageVerifyDone s (State.finishOp { s with saf := { s.saf with stage := 3 } } 0xD2 4 s.tt.fn [w32 (0xD2 + n * 256)]))) ∧
    (∀ tests passed, s.saf.selftest = some tests →
      let got := passed &&& tests
      moves (.selftestComplete passed) s (State.finishOp { s with saf := { s.saf with selftest := none, pinTest := false } } 0xE0
        (if got = tests then 0 else 0x0D) s.tt.fn [w32 got]))

/-- PARKING_WATCH and the warm start. A cell picture is counted as a frame; in the first eight, and while a wake holds it off, nothing
wakes; after them, with no moving cell asked for, the picture that completes the run wakes it, without AUTOSTREAM, and WAKE is pulled low.
WAKE held low from outside for 1 ms wakes. WAKE is
released 10 ms after it was pulled. 10 s after the last traffic, with no reply or event waiting, the lanes go idle. The first warm record is
written while streaming, where one is due. -/
def Obligations.ParkingEventsAct : Prop :=
  ∀ s : State,
    (∀ sums, s.sys.phase = .run → s.sys.mode = 7 →
      (s.sys.park.frames < 8 ∨ s.sys.park.holdoff ≠ 0 →
        ∃ t, exec (.parkingFrame sums) s = .next t ∧ t.sys.park.frames = s.sys.park.frames + 1 ∧
          t.sys.park.holdoff = s.sys.park.holdoff - 1 ∧ t.sys.wakeLow = s.sys.wakeLow ∧ t.sys.mode = 7 ∧ t.tt.fn = fnNext s.tt.fn) ∧
      (8 ≤ s.sys.park.frames → s.sys.park.holdoff = 0 → s.sys.park.ncell = 0 → s.sys.park.nfrm ≤ s.sys.park.moving + 1 →
        s.sys.park.autostream = false →
        ∃ t, exec (.parkingFrame sums) s = .next t ∧ t.sys.wakeLow ≠ none ∧ t.sys.park.moving = 0 ∧
          t.sys.park.holdoff = s.sys.park.nfrm ∧ t.tt.fn = fnNext s.tt.fn)) ∧
    (s.sys.phase = .run → s.sys.mode = 7 → s.sys.wakeLow = none → moves .externalWake s ((s.elapse (ms 1 + s.tt.clk)).wake 0 true)) ∧
    (∀ a, s.sys.wakeLow = some a →
      let t := s.elapse (ms 10 + a)
      moves .wakePulseEnd s { t with sys := { t.sys with wakeLow := none } }) ∧
    (s.sys.mode = 7 → s.sys.park.idle = false → s.fe.waiting = [] → s.fe.events = [] →
      moves .parkingLinkIdle s ((s.elapse (ms 10000 + s.sys.park.lastTraffic)).lanesIdle)) ∧
    (s.sys.fw = .running → streamingMode s.sys.mode = true → s.sys.warmAt = none → s.warmDue = true →
      moves .warmStartWrite s s.warmWrite)

/-- The recorder. A record that has formed joins the ring where the ring runs. The eMMC command at the head ends, done or failed. The post
window of a clip ends once its last frame has passed. The first open clip without a post window is committed, its units beginning with the
one it was opened with, and is no longer open. A mount ends: without an answer INTERNAL NO_MEDIA and fault RECORDER; a FORMAT leaves a superblock, no clip and an
empty journal; a mount without a superblock ends unformatted; with one it keeps the clips. The wear registers are read, 60 s after the last
time; from PRE_EOL 2 on WEAR_WARN and fault RECORDER follow. -/
def Obligations.RecorderEventsAct : Prop :=
  ∀ s : State,
    (∀ f, s.rec_.formed = some f →
      let t : State := { s with rec_ := { s.rec_ with formed := none } }
      moves .chalkboardAdd s (if t.ringRuns then t.addFrame f else t)) ∧
    (∀ good j js, s.rec_.jobs = j :: js →
      let t : State := { s with rec_ := { s.rec_ with jobs := js } }
      moves (.emmcCommandDone good) s (State.emmcIdle (if good then t.emmcDone j else t.emmcFailed j))) ∧
    (∀ c, s.rec_.opens.find? (fun d => d.post) = some c → s.tt.run = false ∨ seqLe (fnNext c.last) s.tt.fn = true →
      moves .postWindowEnd s (s.mapClips (fun d => if d.id = c.id then { d with post := false } else d))) ∧
    (∀ c, s.rec_.opens.find? (fun d => !d.post) = some c →
      ∃ t x, exec .clipWriteComplete s = .next t ∧ t.rec_.opens = s.rec_.opens.filter (fun d => d.id != c.id) ∧
        t.rec_.clips = s.rec_.clips ++ [x] ∧ x.units.head? = some c.unit) ∧
    (s.rec_.mount = 1 →
      (∀ b, moves (.mountComplete false b) s ((s.faultC 19).mountEnd 3 0x0C [0xC1#32])) ∧
      (s.rec_.format = true → ∀ b, ∃ t, exec (.mountComplete true b) s = .next t ∧ t.rec_.mount = 2 ∧ t.rec_.clips = [] ∧
        t.rec_.journal = [] ∧ t.rec_.superblock = true) ∧
      (s.rec_.format = false → moves (.mountComplete true false) s (s.mountEnd 0 0x0C [0xC2#32])) ∧
      (s.rec_.format = false → ∃ t, exec (.mountComplete true true) s = .next t ∧ t.rec_.mount = 2 ∧ t.rec_.clips = s.rec_.clips)) ∧
    (∀ a b e, s.rec_.mount = 2 →
      let t := s.elapse (ms 60000 + s.rec_.wearAt)
      let u := State.setReg { t with rec_ := { t.rec_ with wearAt := t.tt.clk } } R.REC_WEAR (w32 (a % 16 + b % 16 * 16 + e % 4 * 256))
      (e % 4 < 2 → moves (.wearCheck a b e) s u) ∧
      (2 ≤ e % 4 → moves (.wearCheck a b e) s ((u.wr F.REC_STAT_WEAR_WARN 1).faultC 19)))

/-! ### The queue and the step -/

/-- A step takes the command at the front of the queue and is exec of it on the state with the queue's rest. -/
def Obligations.StepRunsFrontCommand : Prop :=
  ∀ (c : Instr) (q : List Instr) (s : State), step (s.withPending (c :: q)) = exec c (s.withPending q)

/-- With nothing commanded one sub-row slot passes (the model's choice, log entry 2): the time moves on, the queue stays empty, the staged,
pending and taken settings, the fuses, the mode and the outputs stay as they are, and the interconnect, whose traffic is free (log entry 61),
keeps to the entries of its classes and its pool. -/
def Obligations.IdleStepPassesOneSlot : Prop :=
  ∀ s : State, s.pending = [] → s.fe.held = [] → s.pwr.down = none →
    ∃ t, step s = .next t ∧ t.pending = [] ∧ t.tt.clk = s.tt.clk + max 1 s.slot ∧ t.stg = s.stg ∧ t.pend = s.pend ∧
      t.taken = s.taken ∧ t.otp = s.otp ∧ t.sys = s.sys ∧ t.out = s.out ∧ (IcnBounded s → IcnBounded t)

/-- Every row of the table answers a next state, in every state, and leaves the queue of waiting commands as it is. -/
def Obligations.EveryRowGoesOn : Prop :=
  ∀ (i : Instr) (s : State), ∃ t, exec i s = .next t ∧ t.pending = s.pending

/-- After reset the registers read as their tables say, no command waits, nothing is staged, and the device has no power; the memory
has its canonical form. -/
def Obligations.ResetIsAsTabled : Prop :=
  (∀ a d, findReg a = some d → State.reset.reg a = w32 d.reset) ∧
  State.reset.pending = [] ∧ State.reset.stg = [] ∧ State.reset.pend = none ∧ State.reset.taken = [] ∧
  State.reset.sys.phase = .unpowered ∧ State.reset.sys.resetN = true ∧ State.reset.fe.events = [] ∧ State.reset.fe.evMask = 0 ∧
  State.reset.fe.hdrRel = 0 ∧ State.reset.fe.payRel = 0 ∧ State.reset.mem.wf

/-! ### The front end -/

/-- A frame of the back channel that holds one packet with a good CRC is that packet's arrival (R452, R453, R455): every field of its
two header words and every payload word comes through. -/
def Obligations.FrameOfOnePacketIsItsCommand : Prop :=
  ∀ (op : Nat) (k : Pkt) (s : State), op < 256 → k.tag < 4096 → k.gen < 16 → k.rsvd < 8192 → k.seq < 65536 → k.payload.length ≤ 257 →
    exec (.backChannelFrame (packetChars op k) true) s = .next (s.keepQueue (arrive op k s))

/-- The checks of R458 in their order, on a packet whose CRC is good: credits, tag, length, opcode, RSVD bits and the command's range
of L, each with its counter, event and reply; a packet that passes them is held while the firmware does not run (R29); and where it
does, a command that the mode does not allow is answered STATE, and one of the wrong form LENGTH. -/
def Obligations.FrontEndChecksInOrder : Prop :=
  ∀ (op : Nat) (k : Pkt) (s : State), wellSent { k with rsvd := 0 } s = true → k.rsvd < 8192 → k.payload.length ≤ 257 →
    s.coreRuns = true → s.sys.mode ≠ 7 → s.lnk.echo = false →
    let n := k.payload.length
    let c := charge op n
    let free := s.creditsFree
    let u : State := { s with fe := { s.fe with lastSeq := some k.seq, lastSeqVal := k.seq } }
    let v := s.takes op k
    (free.1 < c.1 ∨ free.2 < c.2 →
      arrive op k s = State.event ((u.bump F.CMD_CREDITVIOL_COUNT).release c) 2 [packetWord op k, w32 (free.1 + free.2 * 65536)]) ∧
    (c.1 ≤ free.1 → c.2 ≤ free.2 →
      (s.busy.contains k.tag = true → arrive op k s = State.event ((u.bump F.CMD_TAGCOL_COUNT).release c) 1 [packetWord op k]) ∧
      (s.busy.contains k.tag = false →
        (256 < n → arrive op k s =
          (State.release ((u.bump F.CMD_LENSKIP_COUNT).event 0x12 [packetWord op k, w32 n]) c).answer op k (.done 3 s.tt.fn [])) ∧
        (n ≤ 256 →
          (findCmd op = none → arrive op k s = ((u.bump F.CMD_UNKOP_COUNT).release c).answer op k (.done 2 s.tt.fn [])) ∧
          ∀ cmd, findCmd op = some cmd →
            (k.rsvd ≠ 0 → arrive op k s = v.answer op k (.done 4 s.tt.fn [0x10#32])) ∧
            (k.rsvd = 0 →
              (n < cmd.lo ∨ cmd.hi < n → arrive op k s = v.answer op k (.done 3 s.tt.fn [])) ∧
              (cmd.lo ≤ n → n ≤ cmd.hi → op ≠ 0 → op ≠ 8 → op ≠ 0x54 → op ≠ 0xB3 →
                (s.serverUp = false → arrive op k s = { u with fe := { u.fe with held := s.fe.held ++
                  [⟨op, k, (s.fe.opn.filter (fun o => o.op == 0x54)).map (fun o => o.tag)⟩] } }) ∧
                (s.serverUp = true → s.fe.held = [] →
                  (legalIn op s.checkMode = false → arrive op k s = v.answer op k (.done 5 s.tt.fn [])) ∧
                  (legalIn op s.checkMode = true → formOk op k = false →
                    arrive op k s = v.answer op k (.done 3 s.tt.fn []))))))))

/-- A command answered with a final reply on a link that can carry it, nothing waiting before it (R461, R469, R470, R472): one packet
goes out that echoes OPCODE, TAG and GEN, with STATUS, LENGTH and FN in their bits, and the tag is free again. ACCEPTED leaves the
command open. STATE carries the mode and is counted (R459). -/
def Obligations.RepliesHaveTheirForm : Prop :=
  ∀ (op : Nat) (k : Pkt) (s : State) (st fn : Nat) (pl : List Word),
    op < 256 → k.tag < 4096 → k.gen < 16 → st < 256 → pl.length ≤ 256 → s.canSend = true → s.fe.waiting = [] →
    (∀ o ∈ s.fe.opn, o.tag ≠ k.tag) →
    (st ≠ 5 ∨ pl ≠ [] →
      let t := s.answer op k (.done st fn pl)
      t.fe.opn = s.fe.opn ∧ t.fe.waiting = [] ∧ ∃ p : Ctl, t.fe.out = s.fe.out ++ [p] ∧
        bits (p.words.getD 0 0#32) 24 8 = op ∧ bits (p.words.getD 0 0#32) 12 12 = k.tag ∧ bits (p.words.getD 0 0#32) 8 4 = k.gen ∧
        bits (p.words.getD 0 0#32) 0 8 = st ∧ bits (p.words.getD 1 0#32) 22 10 = pl.length ∧
        bits (p.words.getD 1 0#32) 0 22 = fn % 2 ^ 22 ∧ p.words.drop 2 = pl) ∧
    (let t := s.answer op k (.done 5 fn [])
     t.fe.opn = s.fe.opn ∧ t.rd F.CMD_STATE_COUNT = min 65535 (s.rd F.CMD_STATE_COUNT + 1) ∧
       t.fe.out = s.fe.out ++ [.reply op k.tag k.gen 5 (fn % 2 ^ 22) [w32 s.checkMode]]) ∧
    (let t := s.answer op k (.accepted pl)
     t.fe.opn = s.fe.opn ++ [⟨op, k.tag, k.gen⟩] ∧ t.fe.out = s.fe.out ++ [.reply op k.tag k.gen 1 (s.tt.fn % 2 ^ 22) pl])

/-- A packet whose tag is busy (R462) is discarded without a reply, whatever its generation and opcode; it is counted, the event
carries its tag and generation, and the command that holds the tag is not affected. -/
def Obligations.BusyTagIsDiscarded : Prop :=
  ∀ (op : Nat) (k : Pkt) (s : State), op < 256 → wellSent { k with rsvd := 0 } s = true → k.rsvd < 8192 → k.payload.length ≤ 257 →
    s.coreRuns = true → s.sys.mode ≠ 7 → s.lnk.echo = false →
    (charge op k.payload.length).1 ≤ s.creditsFree.1 → (charge op k.payload.length).2 ≤ s.creditsFree.2 →
    s.busy.contains k.tag = true →
    let t := arrive op k s
    t.fe.out = s.fe.out ∧ t.fe.waiting = s.fe.waiting ∧ t.fe.opn = s.fe.opn ∧ t.fe.held = s.fe.held ∧ t.busy = s.busy ∧
      t.rd F.CMD_TAGCOL_COUNT = min 65535 (s.rd F.CMD_TAGCOL_COUNT + 1) ∧
      (s.fe.evMask.testBit 1 = false → s.fe.events = [] → t.fe.events = [⟨1, 1, s.tt.fn, [packetWord op k]⟩]) ∧
      bits (packetWord op k) 0 12 = k.tag ∧ bits (packetWord op k) 12 4 = k.gen ∧ bits (packetWord op k) 16 8 = op

/-- A command that is legal in itself but not in the present mode is answered STATE with the mode in w0 [3:0], and CMD_STATE counts it
(R459); TRIGGER_FIRE, which the front end serves, is answered so in every mode but TRIGGERED. -/
def Obligations.IllegalCommandIsAnsweredState : Prop :=
  ∀ (op : Nat) (k : Pkt) (s : State), wellSent k s = true → s.coreRuns = true → s.sys.mode ≠ 7 → s.lnk.echo = false →
    s.busy.contains k.tag = false → s.fe.held = [] → k.payload.length ≤ 256 → s.canSend = true → s.fe.waiting = [] →
    (∀ o ∈ s.fe.opn, o.tag ≠ k.tag) →
    let answeredState := fun (m : Nat) (t : State) =>
      t.fe.out = s.fe.out ++ [.reply op k.tag k.gen 5 (s.tt.fn % 2 ^ 22) [w32 m]] ∧ t.fe.opn = s.fe.opn ∧
        t.rd F.CMD_STATE_COUNT = min 65535 (s.rd F.CMD_STATE_COUNT + 1) ∧ t.stg = s.stg ∧ t.pend = s.pend ∧ t.sys = s.sys ∧
        (m < 16 → bits (w32 m) 0 4 = m ∧ bits (w32 m) 4 28 = 0)
    (∀ cmd, findCmd op = some cmd → cmd.lo ≤ k.payload.length → k.payload.length ≤ cmd.hi → op ≠ 0x54 → s.serverUp = true →
      legalIn op s.checkMode = false → answeredState s.checkMode (arrive op k s)) ∧
    (op = 0x54 → k.payload.length = 2 → s.sys.mode ≠ 5 → answeredState s.sys.mode (arrive op k s))

/-- SEQ (R457): that of each packet whose CRC is good is recorded and reads from CMD_LASTSEQ; CMD_SEQGAP counts each that is not the one
before plus 1; the first after reset is not compared. -/
def Obligations.SequenceNumbersAreCounted : Prop :=
  ∀ (s : State) (op : Nat) (k : Pkt), k.seq < 65536 →
    (s.sys.mode ≠ 7 → s.arrived op k = (s.noteSeq k.seq).checked op k) ∧
    (s.noteSeq k.seq).fe.lastSeq = some k.seq ∧ (s.noteSeq k.seq).readAt R.CMD_LASTSEQ = w32 k.seq ∧
    (∀ p, s.fe.lastSeq = some p → (p + 1) % 65536 ≠ k.seq →
      (s.noteSeq k.seq).rd F.CMD_SEQGAP_COUNT = min 65535 (s.rd F.CMD_SEQGAP_COUNT + 1)) ∧
    (∀ p, s.fe.lastSeq = some p → (p + 1) % 65536 = k.seq → (s.noteSeq k.seq).mem = s.mem) ∧
    (s.fe.lastSeq = none → (s.noteSeq k.seq).mem = s.mem) ∧ State.reset.fe.lastSeq = none ∧ s.clearFrontEnd.fe.lastSeq = none

/-- EVENT_MASK (R480): the bits of w0 but 0, 0x0B and 0x14 are the mask in force when the command is accepted, which the reply and
CMD_EVMASK show; a masked code changes nothing; after reset nothing is masked. -/
def Obligations.EventMaskIsInForce : Prop :=
  (∀ (k : Pkt) (s : State), ready 0x06 k s = true →
    let m := pw k 0 &&& 0xFFEFF7FE#32
    okay .eventMask 0x06 k s [m] { s.takes 0x06 k with fe := { (s.takes 0x06 k).fe with evMask := m.toNat } } ∧
    ∀ n, n < 32 → m.toNat.testBit n =
      ((pw k 0).toNat.testBit n && decide (n ≠ 0 ∧ n ≠ 0x0B ∧ n ≠ 0x14))) ∧
  (∀ (s : State) (code : Nat) (pl : List Word), s.fe.evMask.testBit code = true → s.event code pl = s) ∧
  (∀ s : State, s.readAt R.CMD_EVMASK = w32 s.fe.evMask) ∧ State.reset.fe.evMask = 0

/-- The event queue (R478 to R480): it holds at most 64 entries, one for each code; a masked code is neither queued nor lost; a code
that waits is counted up to 255 and keeps its first payload; a full queue drops the event, and LOST is set. -/
def Obligations.EventQueueKeepsItsRules : Prop :=
  ∀ (s : State) (code : Nat) (pl : List Word), s.fe.events.length ≤ 64 → (s.fe.events.map (fun e => e.code)).Nodup →
    let t := s.event code pl
    t.fe.events.length ≤ 64 ∧ (t.fe.events.map (fun e => e.code)).Nodup ∧
    (s.fe.evMask.testBit code = true → t = s) ∧
    (s.fe.evMask.testBit code = false →
      (∀ e ∈ s.fe.events, e.code = code →
        t.fe.events.map (fun x => x.code) = s.fe.events.map (fun x => x.code) ∧
        { e with count := min 255 (e.count + 1) } ∈ t.fe.events ∧ ∀ x ∈ s.fe.events, x.code ≠ code → x ∈ t.fe.events) ∧
      ((∀ e ∈ s.fe.events, e.code ≠ code) →
        (s.fe.events.length < 64 → t.fe.events = s.fe.events ++ [⟨code, 1, s.tt.fn, pl⟩]) ∧
        (s.fe.events.length = 64 → t.fe.events = s.fe.events ∧ t.fe.lost = true ∧
          t.rd F.CMD_EVDROP_COUNT = min 65535 (s.rd F.CMD_EVDROP_COUNT + 1))))

/-- A trailer never comes through twice (R624): once a packet's trailer is taken, no packet whose CCTR is not greater passes in that
session, that packet itself among them. -/
def Obligations.TrailerNeverReplays : Prop :=
  ∀ (s : State) (op op' : Nat) (k k' : Pkt) (service service' : Bool),
    s.trailerReason op k service = none → trailerCctr k' ≤ trailerCctr k →
    (s.takeTrailer k).trailerReason op' k' service' ≠ none

/-- Commands that only read leave every setting, every block and every word of every window as it is, however they are answered: they
change the front end, the link that carries the reply, and the counts of both. -/
def Obligations.ReadCommandsChangeNoSetting : Prop :=
  ∀ (k : Pkt) (s t : State) (i : Instr),
    i ∈ [Instr.getIdentity k, .getStatus k, .getMode k, .getTimebase k, .spMapRead k, .statsRead k, .linkStatus k, .prbsRead k,
      .powerStatus k, .otpStatus k, .alarmStatus k, .fwInfo k, .faultRead k, .rollCallResult k] →
    s.fe.held = [] → s.sys.mode ≠ 7 → s.lnk.echo = false → exec i s = .next t →
    t = { s with fe := t.fe, lnk := t.lnk, mem := t.mem, free := t.free } ∧
      ∀ a : Nat, a / 256 ≠ 1 → a ≠ R.LNK_STAT → a ≠ R.LNK_LONGFRM → t.reg a = s.reg a

/-! ### Registers and stores -/

/-- A write of a staged field goes to the staged set alone (R111): a read of the staged view gives it back, the bits that are not
staged and every other key are as they were, and the values in force do not change. -/
def Obligations.StagedFieldReadsBack : Prop :=
  ∀ (s : State) (a : Nat) (w : Word),
    (s.stage a w).staged a = keepMask w (stagedMask a) ||| clearMask (s.staged a) (stagedMask a) ∧
    (∀ b, b ≠ a → (s.stage a w).staged b = s.staged b) ∧ (s.stage a w).live = s.live ∧
    (s.stage a w).pendView a = s.pendView a

/-- Counting (R85): a count rises by 1 and stays at its highest value; every other field, of the same register or another, is as it
was. -/
def Obligations.CountersSaturate : Prop :=
  ∀ (s : State) (f : Fld), f.lo + f.len ≤ 32 →
    (s.bump f).rd f = min (2 ^ f.len - 1) (s.rd f + 1) ∧
    ∀ g : Fld, g.addr ≠ f.addr ∨ g.lo + g.len ≤ f.lo ∨ f.lo + f.len ≤ g.lo → (s.bump f).rd g = s.rd g

/-- A write changes no register whose fields are all RO (R11, R483); while its bank's lock is set a register whose writable fields are
all RWL refuses the write with LOCKED; an address that no chapter assigns takes nothing in a block (R482). -/
def Obligations.ReadOnlyAndLockedWrites : Prop :=
  ∀ (s : State) (a : Nat) (v mask : Word),
    (findReg a = none → writeReg a v mask s = (.ok, s)) ∧
    ∀ d, findReg a = some d →
      (d.rw = 0 → d.rwl = 0 → d.w1c = 0 → d.w1s = 0 → d.wo = 0 → writeReg a v mask s = (.ok, s)) ∧
      (s.bankLocked (a / 256) = true → d.rwl ≠ 0 → d.rw = 0 → d.w1c = 0 → d.w1s = 0 → d.wo = 0 →
        writeReg a v mask s = (.refuse 7 0 0, s))

/-- Without power (R494, R537, R552, R602, R640) the MTP, the boot partitions, the clips of the eMMC, the fuses and the count of
power-ons stay; every other word is at its reset value. -/
def Obligations.PowerOffKeepsNonvolatile : Prop :=
  ∀ s : State, ∃ t, exec .unpowered s = .next t ∧
    (∀ a, t.reg a = if nonvolatile a then s.reg a else memReset a) ∧
    t.otp.cells = s.otp.cells ∧ t.rec_.clips = s.rec_.clips ∧ t.rec_.journal = s.rec_.journal ∧ t.pwr.poc = s.pwr.poc ∧
    t.pending = s.pending

/-! ### Arithmetic of the blocks -/

/-- An integration is placed to the slot nearest to its nominal length, `x` = TL · 2^(-k/2) · 2^-q slots, and is never shorter than one
slot (R42, R43); of two slots that are as near the one that gives the longer integration is taken, as the example after R145 has it
(log entry 6): x - 1/2 < n ≤ x + 1/2 but for the one slot. -/
def Obligations.EdgesLieAtTheNearestSlot : Prop :=
  ∀ tl k q : Nat,
    (let n := placedLong tl k
     1 ≤ n ∧ 4 * tl * tl < (2 * n + 1) * (2 * n + 1) * 2 ^ k ∧ (n = 1 ∨ (2 * n - 1) * (2 * n - 1) * 2 ^ k ≤ 4 * tl * tl)) ∧
    (let n := placedShort tl k q
     1 ≤ n ∧ 4 * tl * tl < (2 * n + 1) * (2 * n + 1) * (2 ^ k * 4 ^ q) ∧
       (n = 1 ∨ (2 * n - 1) * (2 * n - 1) * (2 ^ k * 4 ^ q) ≤ 4 * tl * tl)) ∧
    placedLong tl 0 = max 1 tl ∧ placedLong tl (k + 1) ≤ placedLong tl k ∧ placedShort tl k q ≤ placedLong tl k

/-- A column outside a region takes its value from one inside it, a whole number of mosaic periods away, and a column inside is its own
(R282). -/
def Obligations.FoldedEdgesKeepTheMosaic : Prop :=
  ∀ lo hi p x : Int, 0 < p → p ≤ hi - lo + 1 →
    lo ≤ foldEdge lo hi p x ∧ foldEdge lo hi p x ≤ hi ∧ (foldEdge lo hi p x - x) % p = 0 ∧
    (lo ≤ x → x ≤ hi → foldEdge lo hi p x = x) ∧ (x < lo → foldEdge lo hi p x < lo + p) ∧ (hi < x → hi - p < foldEdge lo hi p x)

/-- Each stage from 4 to 10 adds a relative rounding error of less than 2^-18, whichever way it rounds, and 0 stays 0 (R259). -/
def Obligations.CarriedErrorIsBounded : Prop :=
  ∀ (stage : Nat) (x : Rat), carried stage 0 = 0 ∧
    (x ≠ 0 → (carried stage x - x) * 262144 < (if x < 0 then -x else x) ∧ (x - carried stage x) * 262144 < (if x < 0 then -x else x))

/-- The replay buffer (R428): a packet sent takes the next LSEQ and is held; only the oldest packets go, so that 512 KB are not passed,
and then REPLAY_OVF is set; an acknowledgement releases the packets up to it and no other. A packet sent with its payload takes the same
place, waits behind the packets that the lanes have still to send, and leaves no more payloads kept than packets held. -/
def Obligations.ReplayBufferIsBounded : Prop :=
  ∀ (s : State) (stream n : Nat),
    (pktWords n ≤ 131072 →
      let t := s.sendPkt stream n
      let sum := fun (q : List SentPkt) => (q.map (fun p => p.words)).foldl (fun a b => a + b) 0
      sum t.lnk.replay ≤ 131072 ∧ t.lnk.lseq = (s.lnk.lseq + 1) % 65536 ∧
      ∃ dropped, s.lnk.replay ++ [⟨s.lnk.lseq, stream, pktWords n⟩] = dropped ++ t.lnk.replay ∧ t.lnk.replay ≠ [] ∧
        (dropped ≠ [] → t.rd F.LNK_STAT_REPLAY_OVF = 1) ∧ (dropped = [] → t.mem = s.mem)) ∧
    (∀ ack p, p ∈ (s.ackTo ack).lnk.replay ↔ p ∈ s.lnk.replay ∧ lseqLe p.lseq ack = false) ∧
    (∀ ws : List Word,
      let t := s.sendData stream ws
      t.lnk.replay = (s.sendPkt stream ws.length).lnk.replay ∧ t.lnk.tx = s.lnk.tx ++ [.pkt s.lnk.lseq stream ws] ∧
        t.lnk.kept.length ≤ t.lnk.replay.length)

/-! ### What every step keeps -/

/-- A fuse once blown stays blown, whatever the device does (R592). -/
def Obligations.FusesNeverReturn : Prop :=
  ∀ s t : State, step s = .next t → FusesKept s t

/-- No OTP bit reads blown at the strict reference and unblown at the loose one, and every step keeps it so (R592, R593). -/
def Obligations.EveryStepKeepsOtpSound : Prop :=
  ∀ s t : State, OtpSound s → step s = .next t → OtpSound t

/-- The OTP as shipped reads alike at both references. -/
def Obligations.ResetOtpIsSound : Prop := OtpSound State.reset
end

