-- ==== Sys2Proof/Laws/Arrive.lean ====
section
/-!
SUPPORT. A command that the device takes at once is served in the state `takes` (R29, R457, R458, R465, R473).
-/

namespace Sys2Proof.Machine

open Sys2Proof (Word Pkt)

theorem noteSeq_of_wellSent {k : Pkt} {s : State} (h : wellSent k s = true) :
    s.noteSeq k.seq = { s with fe := { s.fe with lastSeq := some k.seq, lastSeqVal := k.seq } } := by
  unfold wellSent at h
  unfold State.noteSeq
  split at h <;> simp_all

/-- A charge is at most one header credit and eight payload units. -/
theorem charge_le (op l : Nat) (h : l ≤ 256) : (charge op l).1 ≤ 1 ∧ (charge op l).2 ≤ 8 := by
  unfold charge
  split
  · simp
  · split
    · simp
    · simp [ceilDiv]; omega

/-- A packet that passes checks 2 to 7 with nothing held before it is served, its credits released. -/
theorem checked_ok {op : Nat} {k : Pkt} {s : State} {c : Cmd} (hf : findCmd op = some c)
    (hheld : s.fe.held = []) (hbusy : s.busy.contains k.tag = false) (hsv : s.serverUp = true) (hord : k.order = false)
    (hrsvd : k.rsvd = 0) (h256 : k.payload.length ≤ 256) (hlo : c.lo ≤ k.payload.length) (hhi : k.payload.length ≤ c.hi)
    (h0 : op ≠ 0) (h8 : op ≠ 8) (h54 : op ≠ 0x54) (hb3 : op ≠ 0xB3) :
    s.checked op k = (s.release (charge op k.payload.length)).serve op k := by
  have hc := charge_le op k.payload.length h256
  have c1 : ¬ (4096 - 0 < (charge op k.payload.length).1 ∨ 2048 - 0 < (charge op k.payload.length).2) := by omega
  have c2 : ¬ 256 < k.payload.length := by omega
  have c3 : ¬ (k.payload.length < c.lo ∨ c.hi < k.payload.length) := by omega
  have hsv' : ∀ fe, State.serverUp { s with fe := fe } = true := fun _ => hsv
  have hs : ({ s with fe := { s.fe with held := [] } } : State) = s := by
    have : ({ s.fe with held := [] } : Fe) = s.fe := by cases h : s.fe; simp_all
    rw [this]
  simp only [State.checked, State.creditsFree, hheld, List.map_nil, List.foldl_nil, hbusy, c1, c2, c3, if_false, hf, hrsvd, ne_eq,
    not_true_eq_false, Bool.false_eq_true, State.accept, h0, h8, h54, hb3, State.pump, List.nil_append, List.length_singleton, iter,
    State.takeHeld, hsv', State.barrier, hord, Bool.not_true, Bool.false_and, Bool.or_false]
  rw [show ({ s with fe := { s.fe with held := [] } } : State) = s from hs]

/-- A packet that is taken at once, of another command than the front end's own and NONCE_PUSH, is served. -/
theorem arrive_ready {op : Nat} {k : Pkt} {s : State} (h : ready op k s = true)
    (h0 : op ≠ 0) (h8 : op ≠ 8) (h54 : op ≠ 0x54) (hb3 : op ≠ 0xB3) :
    arrive op k s = (s.takes op k).serve op k := by
  simp only [ready, Bool.and_eq_true] at h
  obtain ⟨⟨hw, ht⟩, hp⟩ := h
  have hn := noteSeq_of_wellSent hw
  simp only [wellSent, Bool.and_eq_true, decide_eq_true_eq, beq_iff_eq, Bool.not_eq_true'] at hw
  obtain ⟨⟨⟨⟨⟨htag, hgen⟩, hrsvd⟩, hseq⟩, hord⟩, -⟩ := hw
  simp only [takesNow, Bool.and_eq_true, bne_iff_ne, ne_eq, Bool.not_eq_true', List.isEmpty_iff] at ht
  obtain ⟨⟨⟨⟨⟨⟨hu, hr⟩, hm⟩, he⟩, hsv⟩, hheld⟩, hbusy⟩ := ht
  simp only [passes, Bool.and_eq_true, decide_eq_true_eq] at hp
  obtain ⟨⟨⟨hlen, h256⟩, -⟩, -⟩ := hp
  have hr0 : k.rsvd % 8192 = 0 := by simp [hrsvd]
  have hk : ({ k with tag := k.tag, gen := k.gen, rsvd := 0, seq := k.seq } : Pkt) = k := by
    cases k; simp_all
  have hlt : ¬ 257 < k.payload.length := by omega
  unfold arrive
  simp only [hu, hr, beq_iff_eq, hlt, if_false, State.echoFrame, he, Bool.or_eq_true, or_self, Bool.false_eq_true, State.arrived, hm,
    Nat.mod_eq_of_lt htag, Nat.mod_eq_of_lt hgen, Nat.mod_eq_of_lt hseq, hr0]
  rw [hn, hk]
  cases hf : findCmd op with
  | none => simp [hf] at hlen
  | some c =>
    simp only [hf, Bool.and_eq_true, decide_eq_true_eq] at hlen
    exact checked_ok (s := { s with fe := { s.fe with lastSeq := some k.seq, lastSeqVal := k.seq } })
      hf hheld hbusy hsv hord hrsvd h256 hlen.1 hlen.2 h0 h8 h54 hb3

/-- Such a command is answered as its service says, and what follows the answer comes after it. -/
theorem arrive_served {op : Nat} {k : Pkt} {s t : State} {c : Cmd} {a : Ans} (h : ready op k s = true) (hf : findCmd op = some c)
    (h0 : op ≠ 0) (h8 : op ≠ 8) (h54 : op ≠ 0x54) (hb3 : op ≠ 0xB3) (hsoft : softAsked op k = false)
    (hr : c.srv k (s.takes op k) = (a, t)) :
    arrive op k s = (t.answer op k a).afterwards op k a := by
  rw [arrive_ready h h0 h8 h54 hb3]
  simp only [ready, passes, Bool.and_eq_true] at h
  obtain ⟨-, ⟨-, hl⟩, hfo⟩ := h
  have hl' : legalIn op (State.checkMode (s.takes op k)) = true := hl
  unfold State.serve
  simp only [hf, hl', hfo, hsoft, Bool.not_true, Bool.false_eq_true, if_false, hr]

/-- Only SET_MODE, LOCK_REFERENCE, TRIGGER_FIRE and SOFT_RESET have more to do after their answer. -/
theorem arrive_answered {op : Nat} {k : Pkt} {s t : State} {c : Cmd} {a : Ans} (h : ready op k s = true) (hf : findCmd op = some c)
    (h0 : op ≠ 0) (h8 : op ≠ 8) (h54 : op ≠ 0x54) (hb3 : op ≠ 0xB3) (h3 : op ≠ 3) (h21 : op ≠ 0x21)
    (hsoft : softAsked op k = false) (hr : c.srv k (s.takes op k) = (a, t)) :
    arrive op k s = t.answer op k a := by
  rw [arrive_served h hf h0 h8 h54 hb3 hsoft hr]
  simp only [State.afterwards, h3, h21, h54, or_self, if_false, hsoft, Bool.false_eq_true]
  cases a with
  | done st fn pl => cases st <;> rfl
  | _ => rfl

/-- A packet that the front end may serve itself reaches checks 4 to 7 with its SEQ noted (R457). -/
theorem arrive_checked {op : Nat} {k : Pkt} {s : State} (hw : wellSent k s = true) (ht : reaches k s = true)
    (hn : k.payload.length ≤ 257) :
    arrive op k s = State.checked { s with fe := { s.fe with lastSeq := some k.seq, lastSeqVal := k.seq } } op k := by
  have hn' := noteSeq_of_wellSent hw
  simp only [wellSent, Bool.and_eq_true, decide_eq_true_eq, beq_iff_eq, Bool.not_eq_true'] at hw
  obtain ⟨⟨⟨⟨⟨htag, hgen⟩, hrsvd⟩, hseq⟩, hord⟩, -⟩ := hw
  simp only [reaches, Bool.and_eq_true, bne_iff_ne, ne_eq, Bool.not_eq_true'] at ht
  obtain ⟨⟨⟨⟨hu, hr⟩, hm⟩, he⟩, -⟩ := ht
  have hr0 : k.rsvd % 8192 = 0 := by simp [hrsvd]
  have hk : ({ k with tag := k.tag, gen := k.gen, rsvd := 0, seq := k.seq } : Pkt) = k := by
    cases k; simp_all
  have hlt : ¬ 257 < k.payload.length := by omega
  unfold arrive
  simp only [hu, hr, beq_iff_eq, hlt, if_false, State.echoFrame, he, Bool.or_eq_true, or_self, Bool.false_eq_true, State.arrived, hm,
    Nat.mod_eq_of_lt htag, Nat.mod_eq_of_lt hgen, Nat.mod_eq_of_lt hseq, hr0]
  rw [hn', hk]

end Sys2Proof.Machine
end

