-- ==== Sys2Proof/Laws/Quiet.lean ====
section
/-!
SUPPORT. What the sending of replies and events leaves alone (R469 to R480), and how it composes.
-/

namespace Sys2Proof.Machine

open Sys2Proof (Word Pkt)

/-- `t` differs from `s` in the front end, the link and the words in force alone. -/
def Quiet (s t : State) : Prop := t = { s with fe := t.fe, lnk := t.lnk, mem := t.mem }

theorem Quiet.refl (s : State) : Quiet s s := rfl

theorem Quiet.trans {s t u : State} (h : Quiet s t) (g : Quiet t u) : Quiet s u := by
  unfold Quiet at *; rw [g, h]

theorem Quiet.sys {s t : State} (h : Quiet s t) : t.sys = s.sys := by rw [h]
theorem Quiet.tt {s t : State} (h : Quiet s t) : t.tt = s.tt := by rw [h]
theorem Quiet.stg {s t : State} (h : Quiet s t) : t.stg = s.stg := by rw [h]
theorem Quiet.pend {s t : State} (h : Quiet s t) : t.pend = s.pend := by rw [h]
theorem Quiet.pending {s t : State} (h : Quiet s t) : t.pending = s.pending := by rw [h]
theorem Quiet.taken {s t : State} (h : Quiet s t) : t.taken = s.taken := by rw [h]
theorem Quiet.free {s t : State} (h : Quiet s t) : t.free = s.free := by rw [h]
theorem Quiet.exp {s t : State} (h : Quiet s t) : t.exp = s.exp := by rw [h]
theorem Quiet.bel {s t : State} (h : Quiet s t) : t.bel = s.bel := by rw [h]
theorem Quiet.cnv {s t : State} (h : Quiet s t) : t.cnv = s.cnv := by rw [h]
theorem Quiet.pix {s t : State} (h : Quiet s t) : t.pix = s.pix := by rw [h]
theorem Quiet.sp {s t : State} (h : Quiet s t) : t.sp = s.sp := by rw [h]
theorem Quiet.out {s t : State} (h : Quiet s t) : t.out = s.out := by rw [h]
theorem Quiet.pb {s t : State} (h : Quiet s t) : t.pb = s.pb := by rw [h]
theorem Quiet.pwr {s t : State} (h : Quiet s t) : t.pwr = s.pwr := by rw [h]
theorem Quiet.hk {s t : State} (h : Quiet s t) : t.hk = s.hk := by rw [h]
theorem Quiet.thm {s t : State} (h : Quiet s t) : t.thm = s.thm := by rw [h]
theorem Quiet.clk {s t : State} (h : Quiet s t) : t.clk = s.clk := by rw [h]
theorem Quiet.otp {s t : State} (h : Quiet s t) : t.otp = s.otp := by rw [h]
theorem Quiet.sec {s t : State} (h : Quiet s t) : t.sec = s.sec := by rw [h]
theorem Quiet.rec_ {s t : State} (h : Quiet s t) : t.rec_ = s.rec_ := by rw [h]
theorem Quiet.saf {s t : State} (h : Quiet s t) : t.saf = s.saf := by rw [h]
theorem Quiet.icn {s t : State} (h : Quiet s t) : t.icn = s.icn := by rw [h]

theorem wr_quiet (s : State) (f : Fld) (v : Nat) : Quiet s (s.wr f v) := rfl
theorem setReg_quiet (s : State) (a : Nat) (w : Word) : Quiet s (s.setReg a w) := rfl
theorem bump_quiet (s : State) (f : Fld) : Quiet s (s.bump f) := rfl
theorem fe_quiet (s : State) (x : Fe) : Quiet s { s with fe := x } := rfl
theorem lnk_quiet (s : State) (x : Lnk) : Quiet s { s with lnk := x } := rfl

theorem sendPkt_quiet (s : State) (stream n : Nat) : Quiet s (s.sendPkt stream n) := by
  unfold State.sendPkt Quiet; simp only []; split <;> rfl

theorem sendData_quiet (s : State) (stream : Nat) (ws : List Word) : Quiet s (s.sendData stream ws) :=
  Quiet.trans (sendPkt_quiet s stream ws.length) (lnk_quiet _ _)

/-- A packet with its payload takes the place in the replay buffer that a packet of its length takes; its words wait and are kept. -/
theorem sendData_replay (s : State) (stream : Nat) (ws : List Word) :
    (s.sendData stream ws).lnk.replay = (s.sendPkt stream ws.length).lnk.replay ∧
    (s.sendData stream ws).lnk.lseq = (s.sendPkt stream ws.length).lnk.lseq ∧
    (s.sendData stream ws).lnk.tx = s.lnk.tx ++ [.pkt s.lnk.lseq stream ws] ∧
    (s.sendData stream ws).mem = (s.sendPkt stream ws.length).mem := ⟨rfl, rfl, rfl, rfl⟩

theorem put_quiet (s : State) (c : Ctl) : Quiet s (s.put c) :=
  Quiet.trans (fe_quiet s _) (sendData_quiet _ _ _)

theorem sendOne_quiet (s : State) : Quiet s s.sendOne := by
  unfold State.sendOne
  split
  · exact Quiet.trans (fe_quiet s _) (put_quiet _ _)
  · split
    · exact Quiet.trans (fe_quiet s _) (put_quiet _ _)
    · exact Quiet.refl s

theorem iter_quiet (f : State → State) (h : ∀ s, Quiet s (f s)) : ∀ (n : Nat) (s : State), Quiet s (iter f n s)
  | 0, s => Quiet.refl s
  | n + 1, s => Quiet.trans (h s) (iter_quiet f h n (f s))

theorem foldl_quiet {α : Type} (f : State → α → State) (h : ∀ s a, Quiet s (f s a)) :
    ∀ (l : List α) (s : State), Quiet s (l.foldl f s)
  | [], s => Quiet.refl s
  | a :: l, s => Quiet.trans (h s a) (foldl_quiet f h l (f s a))

theorem flush_quiet (s : State) : Quiet s s.flush := by
  unfold State.flush
  split
  · exact iter_quiet _ sendOne_quiet _ _
  · exact Quiet.refl s

theorem reply_quiet (s : State) (op tag gen st fn : Nat) (pl : List Word) : Quiet s (s.reply op tag gen st fn pl) := by
  unfold State.reply
  simp only []
  split
  · exact put_quiet _ _
  · exact fe_quiet s _

theorem finish_quiet (s : State) (op tag st fn : Nat) (pl : List Word) : Quiet s (s.finish op tag st fn pl) := by
  unfold State.finish
  split
  · exact Quiet.refl s
  · exact Quiet.trans (fe_quiet s _) (reply_quiet _ _ _ _ _ _ _)

theorem finishOp_quiet (s : State) (op st fn : Nat) (pl : List Word) : Quiet s (s.finishOp op st fn pl) :=
  foldl_quiet (fun t (o : OpenCmd) => t.finish o.op o.tag st fn pl) (fun s o => finish_quiet s o.op o.tag st fn pl) _ s

theorem event_quiet (s : State) (code : Nat) (pl : List Word) : Quiet s (s.event code pl) := by
  unfold State.event
  split
  · exact Quiet.refl s
  · split
    · exact fe_quiet s _
    · split
      · exact fe_quiet s _
      · exact Quiet.trans (fe_quiet s _) (bump_quiet _ _)

theorem countState_quiet (s : State) (st : Nat) (pl : List Word) : Quiet s (s.countState st pl).2 := by
  unfold State.countState
  split
  · exact bump_quiet s _
  · exact Quiet.refl s

theorem answer_quiet (s : State) (op : Nat) (k : Pkt) (a : Ans) : Quiet s (s.answer op k a) := by
  unfold State.answer
  cases a with
  | done st fn pl => exact Quiet.trans (Quiet.trans (fe_quiet s _) (countState_quiet _ _ _)) (finish_quiet _ _ _ _ _ _)
  | both st fn pl => exact Quiet.trans (Quiet.trans (fe_quiet s _) (reply_quiet _ _ _ _ _ _ _)) (finish_quiet _ _ _ _ _ _)
  | accepted pl => exact Quiet.trans (fe_quiet s _) (reply_quiet _ _ _ _ _ _ _)
  | later => exact fe_quiet s _

/-- Time passing changes the time besides. -/
theorem elapse_frame (s : State) (t : Nat) :
    ∃ (fe : Fe) (lnk : Lnk) (mem : Mem) (tt : Tt), s.elapse t = { s with fe := fe, lnk := lnk, mem := mem, tt := tt } := by
  unfold State.elapse
  split
  · rw [flush_quiet]; split
    · exact ⟨_, _, _, _, rfl⟩
    · exact ⟨_, _, _, _, rfl⟩
  · exact ⟨_, _, _, _, rfl⟩

end Sys2Proof.Machine
end

