-- ==== Sys2Proof/Laws/Lanes.lean ====
section
/-!
SUPPORT. What the passing of blocks on the lanes, the interconnect and the idle tick can change (R18 to R20, R413 to R418), what the
arbiter keeps (R17), and the lines of the pixel array while no frame is near (R45).
-/

namespace Sys2Proof.Machine

open Sys2Proof (Word)

/-! ### The lanes -/

/-- `t` differs from `s` in the link and the words in force alone. -/
def LinkOnly (s t : State) : Prop := t = { s with lnk := t.lnk, mem := t.mem }

theorem LinkOnly.refl (s : State) : LinkOnly s s := rfl

theorem LinkOnly.trans {s t u : State} (h : LinkOnly s t) (g : LinkOnly t u) : LinkOnly s u := by
  unfold LinkOnly at *; rw [g, h]

theorem LinkOnly.quiet {s t : State} (h : LinkOnly s t) : Quiet s t := by
  unfold LinkOnly at h; unfold Quiet; rw [h]

theorem foldl_linkOnly {α : Type} (f : State → α → State) (h : ∀ s a, LinkOnly s (f s a)) :
    ∀ (l : List α) (s : State), LinkOnly s (l.foldl f s)
  | [], s => LinkOnly.refl s
  | a :: l, s => LinkOnly.trans (h s a) (foldl_linkOnly f h l (f s a))

theorem iter_linkOnly (f : State → State) (h : ∀ s, LinkOnly s (f s)) : ∀ (n : Nat) (s : State), LinkOnly s (iter f n s)
  | 0, s => LinkOnly.refl s
  | n + 1, s => LinkOnly.trans (h s) (iter_linkOnly f h n (f s))

theorem laneSend_linkOnly (s : State) (i : Nat) (b : LaneBlock) : LinkOnly s (s.laneSend i b) := rfl

theorem lanesSend_linkOnly (s : State) (m : Nat) (b : Nat → LaneBlock) : LinkOnly s (s.lanesSend m b) :=
  foldl_linkOnly _ (fun s i => laneSend_linkOnly s i (b i)) _ s

theorem nextBlock_linkOnly (s : State) : LinkOnly s s.nextBlock.2 := by
  unfold State.nextBlock
  split
  · rfl
  · split <;> rfl

theorem stripe_linkOnly (s : State) (m : Nat) : LinkOnly s (s.stripe m) :=
  foldl_linkOnly _ (fun s i => LinkOnly.trans (nextBlock_linkOnly s) (laneSend_linkOnly _ i _)) _ s

theorem laneStep_linkOnly (s : State) : LinkOnly s s.laneStep := by
  have h : ∀ t : State, LinkOnly s t → LinkOnly s { t with lnk := { t.lnk with index := t.lnk.index + 1 } } :=
    fun t g => LinkOnly.trans g rfl
  unfold State.laneStep
  refine h _ ?_
  split
  · exact lanesSend_linkOnly s _ _
  · split
    · exact LinkOnly.trans (LinkOnly.trans (t := { s with lnk := { s.lnk with change := none } }) rfl (lanesSend_linkOnly _ _ _))
        (lanesSend_linkOnly _ _ _)
    · exact LinkOnly.trans (stripe_linkOnly s _) (lanesSend_linkOnly _ _ _)
  · exact LinkOnly.refl s

theorem marker_linkOnly (s : State) (m n : Nat) : LinkOnly s (s.marker m n) :=
  LinkOnly.trans (lanesSend_linkOnly s m _) rfl

theorem setFfe_linkOnly (s : State) (l p q : Nat) : LinkOnly s (s.setFfe l p q) := rfl

theorem settleFfe_quiet (s : State) : Quiet s s.settleFfe := by
  have h : LinkOnly s ((s.lnk.ffeNext.filter (fun p => !s.lnk.active.testBit p.1)).foldl
      (fun t p => t.setFfe p.1 p.2.1 p.2.2)
      { s with lnk := { s.lnk with ffeNext := s.lnk.ffeNext.filter (fun p => s.lnk.active.testBit p.1) } }) :=
    LinkOnly.trans (t := { s with lnk := _ }) rfl (foldl_linkOnly _ (fun s (p : Nat × Nat × Nat) => setFfe_linkOnly s p.1 p.2.1 p.2.2) _ _)
  unfold State.settleFfe
  simp only []
  split
  · exact Quiet.trans h.quiet (finishOp_quiet _ _ _ _ _)
  · exact h.quiet

theorem markerFfe_quiet (s : State) : Quiet s s.markerFfe := by
  have h : LinkOnly s (s.lnk.ffeNext.foldl (fun (t : State) p => t.setFfe p.1 p.2.1 p.2.2)
      { s with lnk := { s.lnk with ffeNext := [] } }) :=
    LinkOnly.trans (t := { s with lnk := _ }) rfl (foldl_linkOnly _ (fun s (p : Nat × Nat × Nat) => setFfe_linkOnly s p.1 p.2.1 p.2.2) _ _)
  exact Quiet.trans h.quiet (settleFfe_quiet _)

theorem laneBlock_quiet (s : State) : Quiet s s.laneBlock := by
  unfold State.laneBlock
  split
  · exact Quiet.trans (marker_linkOnly s _ _).quiet (markerFfe_quiet _)
  · exact (laneStep_linkOnly s).quiet

/-- What time without a command brings to the lanes: the link, the front end and the words in force change, and nothing else. -/
theorem lanesSlot_quiet (s : State) (d : Nat) : Quiet s (s.lanesSlot d) := by
  unfold State.lanesSlot
  split
  · exact Quiet.trans (lnk_quiet s _) (iter_quiet _ laneBlock_quiet _ _)
  · exact Quiet.refl s

/-! ### The interconnect -/

/-- `t` differs from `s` in the interconnect, the words in force and the counter of free values alone. -/
def IcnOnly (s t : State) : Prop := t = { s with icn := t.icn, mem := t.mem, free := t.free }

theorem IcnOnly.refl (s : State) : IcnOnly s s := rfl

theorem IcnOnly.trans {s t u : State} (h : IcnOnly s t) (g : IcnOnly t u) : IcnOnly s u := by
  unfold IcnOnly at *; rw [g, h]

theorem foldl_icnOnly {α : Type} (f : State → α → State) (h : ∀ s a, IcnOnly s (f s a)) :
    ∀ (l : List α) (s : State), IcnOnly s (l.foldl f s)
  | [], s => IcnOnly.refl s
  | a :: l, s => IcnOnly.trans (h s a) (foldl_icnOnly f h l (f s a))

theorem iter_icnOnly (f : State → State) (h : ∀ s, IcnOnly s (f s)) : ∀ (n : Nat) (s : State), IcnOnly s (iter f n s)
  | 0, s => IcnOnly.refl s
  | n + 1, s => IcnOnly.trans (h s) (iter_icnOnly f h n (f s))

theorem icnGrant_icnOnly (s : State) : IcnOnly s s.icnGrant := by
  unfold State.icnGrant; split <;> rfl

theorem icnSlot_icnOnly (s : State) : IcnOnly s s.icnSlot := by
  unfold State.icnSlot
  extract_lets n t ends t2 made old t3 fresh t4
  have h1 : IcnOnly s t := rfl
  have h2 : IcnOnly t t2 := foldl_icnOnly (fun (u : State) (p : Nat × IcnReq) => u.icnDone p.2) (fun _ _ => rfl) _ _
  have h3 : IcnOnly t2 t3 := foldl_icnOnly (fun (u : State) (p : Nat × Nat) => u.icnRequest p.1 p.2) (fun _ _ => rfl) _ _
  have h4 : IcnOnly t3 t4 := iter_icnOnly _ icnGrant_icnOnly _ _
  exact (((h1.trans h2).trans h3).trans h4).trans (foldl_icnOnly State.icnWaits (fun _ _ => rfl) _ _)

/-! ### The lines of the array -/

/-- While no frame is near and VPIX is on, every photodiode is held in reset and no row is selected or transfers (R45). -/
theorem gates_idle (s : State) (h : s.framesAbout = []) (b : s.biased = true) (row : Nat) (bx : Int) :
    s.sgs row bx = some true ∧ s.rowLines row = some RowLines.idle ∧ s.integrations row bx = [] ∧ s.pixelStep row bx = none := by
  refine ⟨?_, ?_, ?_, ?_⟩ <;> simp [State.sgs, State.rowLines, State.integrations, State.pixelStep, h, b]

end Sys2Proof.Machine
end

