-- ==== Sys2Proof/Laws/Mem.lean ====
section
/-!
SUPPORT. The memory: what a write leaves to read, and that every operation on it keeps the canonical form.
-/

namespace Sys2Proof.Machine.Mem

open Sys2Proof (Word)

theorem find_filter_eq {m : Mem} {k : Nat} {f : Nat × Word → Bool} (h : ∀ w, f (k, w) = true) :
    (m.filter f).find? (fun p => p.1 == k) = m.find? (fun p => p.1 == k) := by
  rw [List.find?_filter]
  congr 1; funext p
  by_cases hp : p.1 = k
  · have hf := h p.2
    rw [← hp] at hf
    simp [hp, show f p = true from hf]
  · simp [hp]

theorem find_filter_none {m : Mem} {k : Nat} {f : Nat × Word → Bool} (h : ∀ w, f (k, w) = false) :
    (m.filter f).find? (fun p => p.1 == k) = none := by
  rw [List.find?_eq_none]
  intro p hp hk
  have hf := h p.2
  rw [List.mem_filter] at hp
  rw [← (beq_iff_eq.mp hk)] at hf
  exact absurd hp.2 (by rw [show f p = f (p.1, p.2) from rfl, hf]; exact Bool.false_ne_true)

theorem find_cells_none {ws : List Word} {a k : Nat} (h : k < a ∨ a + ws.length ≤ k) :
    (cells a ws).find? (fun p => p.1 == k) = none := by
  induction ws generalizing a with
  | nil => rfl
  | cons w ws ih =>
    simp only [List.length_cons] at h
    unfold cells
    split
    · exact ih (by omega)
    · rw [List.find?_cons]
      have : (a == k) = false := by simp; omega
      simp only [this]
      exact ih (by omega)

theorem find_cells {ws : List Word} {a i : Nat} (h : i < ws.length) :
    (cells a ws).find? (fun p => p.1 == a + i) =
      if ws.getD i 0#32 = memReset (a + i) then none else some (a + i, ws.getD i 0#32) := by
  induction ws generalizing a i with
  | nil => simp at h
  | cons w ws ih =>
    simp only [List.length_cons] at h
    cases i with
    | zero =>
      by_cases hw : w = memReset a
      · simp only [cells, hw, if_true, Nat.add_zero, List.getD_cons_zero]
        exact find_cells_none (by omega)
      · simp only [cells, hw, if_false, Nat.add_zero, List.getD_cons_zero, List.find?_cons, beq_self_eq_true]
    | succ i =>
      have key := @ih (a + 1) i (by omega)
      rw [show a + 1 + i = a + (i + 1) by omega] at key
      have hne : (a == a + (i + 1)) = false := by simp
      by_cases hw : w = memReset a
      · simp only [cells, hw, if_true, List.getD_cons_succ]; exact key
      · simp only [cells, hw, if_false, List.getD_cons_succ, List.find?_cons, hne]; exact key

/-- A key outside a run reads as before. -/
theorem get_setRun_other (m : Mem) {a k : Nat} {ws : List Word} (h : k < a ∨ a + ws.length ≤ k) :
    (m.setRun a ws).get k = m.get k := by
  unfold setRun get
  rw [List.find?_append, List.find?_append, find_cells_none h]
  rcases h with h | h
  · rw [find_filter_eq (by simp [h]), find_filter_none (k := k) (f := fun p => decide (a + ws.length ≤ p.1)) (by intro w; simp; omega)]
    simp
  · rw [find_filter_none (k := k) (f := fun p => decide (p.1 < a)) (by intro w; simp; omega), find_filter_eq (by simp [h])]
    simp

/-- The words of a run read as they were written. -/
theorem get_setRun_same (m : Mem) {a i : Nat} {ws : List Word} (h : i < ws.length) :
    (m.setRun a ws).get (a + i) = ws.getD i 0#32 := by
  unfold setRun get
  rw [List.find?_append, find_filter_none (k := a + i) (f := fun p => decide (p.1 < a)) (by intro w; simp), Option.none_or]
  rw [List.find?_append, find_cells h, find_filter_none (k := a + i) (f := fun p => decide (a + ws.length ≤ p.1)) (by intro w; simp; omega)]
  by_cases e : ws.getD i 0#32 = memReset (a + i)
  · rw [if_pos e]; exact e.symm
  · rw [if_neg e]; rfl

/-- A word reads as it was written. -/
@[simp] theorem get_set_same (m : Mem) (k : Nat) (w : Word) : (m.set k w).get k = w := by
  have := get_setRun_same m (a := k) (i := 0) (ws := [w]) (by simp)
  simpa [set] using this

/-- Every other key reads as before. -/
theorem get_set_other (m : Mem) {a k : Nat} (w : Word) (h : k ≠ a) : (m.set a w).get k = m.get k :=
  get_setRun_other m (by simp; omega)

/-! ### The canonical form -/

theorem cells_bounds {ws : List Word} {a : Nat} {p : Nat × Word} (h : p ∈ cells a ws) :
    a ≤ p.1 ∧ p.1 < a + ws.length ∧ p.2 ≠ memReset p.1 := by
  induction ws generalizing a with
  | nil => simp [cells] at h
  | cons w ws ih =>
    simp only [List.length_cons]
    unfold cells at h
    split at h
    · have := ih h; exact ⟨by omega, by omega, this.2.2⟩
    · next hw =>
      rcases List.mem_cons.mp h with e | e
      · subst e; exact ⟨by simp, by simp, hw⟩
      · have := ih e; exact ⟨by omega, by omega, this.2.2⟩

theorem cells_rising (ws : List Word) (a : Nat) : (cells a ws).Pairwise (fun x y => x.1 < y.1) := by
  induction ws generalizing a with
  | nil => exact List.Pairwise.nil
  | cons w ws ih =>
    unfold cells
    split
    · exact ih _
    · refine List.Pairwise.cons ?_ (ih _)
      intro p hp
      have := cells_bounds hp
      show a < p.1
      omega

/-- What remains of a memory in its form has the form. -/
theorem filter_wf {m : Mem} (h : m.wf) (f : Nat × Word → Bool) : Mem.wf (m.filter f) :=
  ⟨h.1.filter f, fun p hp => h.2 p (List.mem_filter.mp hp).1⟩

/-- Writing a run keeps the canonical form. -/
theorem setRun_wf {m : Mem} (h : m.wf) (k : Nat) (ws : List Word) : Mem.wf (m.setRun k ws) := by
  unfold setRun
  refine ⟨?_, ?_⟩
  · refine List.pairwise_append.mpr ⟨h.1.filter _, List.pairwise_append.mpr ⟨cells_rising _ _, h.1.filter _, ?_⟩, ?_⟩
    · intro x hx y hy
      have := cells_bounds hx
      have := (List.mem_filter.mp hy).2
      simp only [decide_eq_true_eq] at this
      omega
    · intro x hx y hy
      have hx' := (List.mem_filter.mp hx).2
      simp only [decide_eq_true_eq] at hx'
      rcases List.mem_append.mp hy with e | e
      · have := cells_bounds e; omega
      · have := (List.mem_filter.mp e).2
        simp only [decide_eq_true_eq] at this
        omega
  · intro p hp
    rcases List.mem_append.mp hp with e | e
    · exact h.2 p (List.mem_filter.mp e).1
    · rcases List.mem_append.mp e with e | e
      · exact (cells_bounds e).2.2
      · exact h.2 p (List.mem_filter.mp e).1

/-- Writing a word keeps the canonical form. -/
theorem set_wf {m : Mem} (h : m.wf) (k : Nat) (w : Word) : Mem.wf (m.set k w) := setRun_wf h k [w]

/-- Clearing a run keeps the canonical form. -/
theorem clearRun_wf {m : Mem} (h : m.wf) (k n : Nat) : Mem.wf (m.clearRun k n) := by
  unfold clearRun
  refine ⟨List.pairwise_append.mpr ⟨h.1.filter _, h.1.filter _, ?_⟩, ?_⟩
  · intro x hx y hy
    have hx' := (List.mem_filter.mp hx).2
    have hy' := (List.mem_filter.mp hy).2
    simp only [decide_eq_true_eq] at hx' hy'
    omega
  · intro p hp
    rcases List.mem_append.mp hp with e | e
    · exact h.2 p (List.mem_filter.mp e).1
    · exact h.2 p (List.mem_filter.mp e).1

/-- The memory after reset lists nothing. -/
theorem reset_wf : Mem.wf State.reset.mem := ⟨List.Pairwise.nil, fun _ hp => absurd hp (List.not_mem_nil)⟩

end Sys2Proof.Machine.Mem
end

