-- ==== Sys2Proof/Laws/State.lean ====
section
/-!
SUPPORT. One lemma for each field of the state under each of the shared updates: a word in force written, a staged word written, a
command taken, and the queue kept. What reads the state through those fields alone follows.
-/

namespace Sys2Proof.Machine

open Sys2Proof (Word Pkt)

/-! ### `setReg` -/

@[simp] theorem State.setReg_pending (s : State) (k : Nat) (w : Word) : (s.setReg k w).pending = s.pending := rfl
@[simp] theorem State.setReg_mem (s : State) (k : Nat) (w : Word) : (s.setReg k w).mem = s.mem.set k w := rfl
@[simp] theorem State.setReg_stg (s : State) (k : Nat) (w : Word) : (s.setReg k w).stg = s.stg := rfl
@[simp] theorem State.setReg_pend (s : State) (k : Nat) (w : Word) : (s.setReg k w).pend = s.pend := rfl
@[simp] theorem State.setReg_taken (s : State) (k : Nat) (w : Word) : (s.setReg k w).taken = s.taken := rfl
@[simp] theorem State.setReg_free (s : State) (k : Nat) (w : Word) : (s.setReg k w).free = s.free := rfl
@[simp] theorem State.setReg_fe (s : State) (k : Nat) (w : Word) : (s.setReg k w).fe = s.fe := rfl
@[simp] theorem State.setReg_sys (s : State) (k : Nat) (w : Word) : (s.setReg k w).sys = s.sys := rfl
@[simp] theorem State.setReg_tt (s : State) (k : Nat) (w : Word) : (s.setReg k w).tt = s.tt := rfl
@[simp] theorem State.setReg_exp (s : State) (k : Nat) (w : Word) : (s.setReg k w).exp = s.exp := rfl
@[simp] theorem State.setReg_bel (s : State) (k : Nat) (w : Word) : (s.setReg k w).bel = s.bel := rfl
@[simp] theorem State.setReg_cnv (s : State) (k : Nat) (w : Word) : (s.setReg k w).cnv = s.cnv := rfl
@[simp] theorem State.setReg_lnk (s : State) (k : Nat) (w : Word) : (s.setReg k w).lnk = s.lnk := rfl
@[simp] theorem State.setReg_pix (s : State) (k : Nat) (w : Word) : (s.setReg k w).pix = s.pix := rfl
@[simp] theorem State.setReg_sp (s : State) (k : Nat) (w : Word) : (s.setReg k w).sp = s.sp := rfl
@[simp] theorem State.setReg_out (s : State) (k : Nat) (w : Word) : (s.setReg k w).out = s.out := rfl
@[simp] theorem State.setReg_pb (s : State) (k : Nat) (w : Word) : (s.setReg k w).pb = s.pb := rfl
@[simp] theorem State.setReg_pwr (s : State) (k : Nat) (w : Word) : (s.setReg k w).pwr = s.pwr := rfl
@[simp] theorem State.setReg_hk (s : State) (k : Nat) (w : Word) : (s.setReg k w).hk = s.hk := rfl
@[simp] theorem State.setReg_thm (s : State) (k : Nat) (w : Word) : (s.setReg k w).thm = s.thm := rfl
@[simp] theorem State.setReg_clk (s : State) (k : Nat) (w : Word) : (s.setReg k w).clk = s.clk := rfl
@[simp] theorem State.setReg_otp (s : State) (k : Nat) (w : Word) : (s.setReg k w).otp = s.otp := rfl
@[simp] theorem State.setReg_sec (s : State) (k : Nat) (w : Word) : (s.setReg k w).sec = s.sec := rfl
@[simp] theorem State.setReg_rec_ (s : State) (k : Nat) (w : Word) : (s.setReg k w).rec_ = s.rec_ := rfl
@[simp] theorem State.setReg_saf (s : State) (k : Nat) (w : Word) : (s.setReg k w).saf = s.saf := rfl
@[simp] theorem State.setReg_icn (s : State) (k : Nat) (w : Word) : (s.setReg k w).icn = s.icn := rfl
@[simp] theorem State.setReg_sw (s : State) (k : Nat) (w : Word) : (s.setReg k w).sw = s.sw := rfl

/-! ### `wr` -/

@[simp] theorem State.wr_pending (s : State) (f : Fld) (v : Nat) : (s.wr f v).pending = s.pending := rfl
@[simp] theorem State.wr_mem (s : State) (f : Fld) (v : Nat) : (s.wr f v).mem = s.mem.set f.addr (putBits (s.reg f.addr) f.lo f.len v) := rfl
@[simp] theorem State.wr_stg (s : State) (f : Fld) (v : Nat) : (s.wr f v).stg = s.stg := rfl
@[simp] theorem State.wr_pend (s : State) (f : Fld) (v : Nat) : (s.wr f v).pend = s.pend := rfl
@[simp] theorem State.wr_taken (s : State) (f : Fld) (v : Nat) : (s.wr f v).taken = s.taken := rfl
@[simp] theorem State.wr_free (s : State) (f : Fld) (v : Nat) : (s.wr f v).free = s.free := rfl
@[simp] theorem State.wr_fe (s : State) (f : Fld) (v : Nat) : (s.wr f v).fe = s.fe := rfl
@[simp] theorem State.wr_sys (s : State) (f : Fld) (v : Nat) : (s.wr f v).sys = s.sys := rfl
@[simp] theorem State.wr_tt (s : State) (f : Fld) (v : Nat) : (s.wr f v).tt = s.tt := rfl
@[simp] theorem State.wr_exp (s : State) (f : Fld) (v : Nat) : (s.wr f v).exp = s.exp := rfl
@[simp] theorem State.wr_bel (s : State) (f : Fld) (v : Nat) : (s.wr f v).bel = s.bel := rfl
@[simp] theorem State.wr_cnv (s : State) (f : Fld) (v : Nat) : (s.wr f v).cnv = s.cnv := rfl
@[simp] theorem State.wr_lnk (s : State) (f : Fld) (v : Nat) : (s.wr f v).lnk = s.lnk := rfl
@[simp] theorem State.wr_pix (s : State) (f : Fld) (v : Nat) : (s.wr f v).pix = s.pix := rfl
@[simp] theorem State.wr_sp (s : State) (f : Fld) (v : Nat) : (s.wr f v).sp = s.sp := rfl
@[simp] theorem State.wr_out (s : State) (f : Fld) (v : Nat) : (s.wr f v).out = s.out := rfl
@[simp] theorem State.wr_pb (s : State) (f : Fld) (v : Nat) : (s.wr f v).pb = s.pb := rfl
@[simp] theorem State.wr_pwr (s : State) (f : Fld) (v : Nat) : (s.wr f v).pwr = s.pwr := rfl
@[simp] theorem State.wr_hk (s : State) (f : Fld) (v : Nat) : (s.wr f v).hk = s.hk := rfl
@[simp] theorem State.wr_thm (s : State) (f : Fld) (v : Nat) : (s.wr f v).thm = s.thm := rfl
@[simp] theorem State.wr_clk (s : State) (f : Fld) (v : Nat) : (s.wr f v).clk = s.clk := rfl
@[simp] theorem State.wr_otp (s : State) (f : Fld) (v : Nat) : (s.wr f v).otp = s.otp := rfl
@[simp] theorem State.wr_sec (s : State) (f : Fld) (v : Nat) : (s.wr f v).sec = s.sec := rfl
@[simp] theorem State.wr_rec_ (s : State) (f : Fld) (v : Nat) : (s.wr f v).rec_ = s.rec_ := rfl
@[simp] theorem State.wr_saf (s : State) (f : Fld) (v : Nat) : (s.wr f v).saf = s.saf := rfl
@[simp] theorem State.wr_icn (s : State) (f : Fld) (v : Nat) : (s.wr f v).icn = s.icn := rfl
@[simp] theorem State.wr_sw (s : State) (f : Fld) (v : Nat) : (s.wr f v).sw = s.sw := rfl

/-! ### `setRun` -/

@[simp] theorem State.setRun_pending (s : State) (k : Nat) (ws : List Word) : (s.setRun k ws).pending = s.pending := rfl
@[simp] theorem State.setRun_mem (s : State) (k : Nat) (ws : List Word) : (s.setRun k ws).mem = s.mem.setRun k ws := rfl
@[simp] theorem State.setRun_stg (s : State) (k : Nat) (ws : List Word) : (s.setRun k ws).stg = s.stg := rfl
@[simp] theorem State.setRun_pend (s : State) (k : Nat) (ws : List Word) : (s.setRun k ws).pend = s.pend := rfl
@[simp] theorem State.setRun_taken (s : State) (k : Nat) (ws : List Word) : (s.setRun k ws).taken = s.taken := rfl
@[simp] theorem State.setRun_free (s : State) (k : Nat) (ws : List Word) : (s.setRun k ws).free = s.free := rfl
@[simp] theorem State.setRun_fe (s : State) (k : Nat) (ws : List Word) : (s.setRun k ws).fe = s.fe := rfl
@[simp] theorem State.setRun_sys (s : State) (k : Nat) (ws : List Word) : (s.setRun k ws).sys = s.sys := rfl
@[simp] theorem State.setRun_tt (s : State) (k : Nat) (ws : List Word) : (s.setRun k ws).tt = s.tt := rfl
@[simp] theorem State.setRun_exp (s : State) (k : Nat) (ws : List Word) : (s.setRun k ws).exp = s.exp := rfl
@[simp] theorem State.setRun_bel (s : State) (k : Nat) (ws : List Word) : (s.setRun k ws).bel = s.bel := rfl
@[simp] theorem State.setRun_cnv (s : State) (k : Nat) (ws : List Word) : (s.setRun k ws).cnv = s.cnv := rfl
@[simp] theorem State.setRun_lnk (s : State) (k : Nat) (ws : List Word) : (s.setRun k ws).lnk = s.lnk := rfl
@[simp] theorem State.setRun_pix (s : State) (k : Nat) (ws : List Word) : (s.setRun k ws).pix = s.pix := rfl
@[simp] theorem State.setRun_sp (s : State) (k : Nat) (ws : List Word) : (s.setRun k ws).sp = s.sp := rfl
@[simp] theorem State.setRun_out (s : State) (k : Nat) (ws : List Word) : (s.setRun k ws).out = s.out := rfl
@[simp] theorem State.setRun_pb (s : State) (k : Nat) (ws : List Word) : (s.setRun k ws).pb = s.pb := rfl
@[simp] theorem State.setRun_pwr (s : State) (k : Nat) (ws : List Word) : (s.setRun k ws).pwr = s.pwr := rfl
@[simp] theorem State.setRun_hk (s : State) (k : Nat) (ws : List Word) : (s.setRun k ws).hk = s.hk := rfl
@[simp] theorem State.setRun_thm (s : State) (k : Nat) (ws : List Word) : (s.setRun k ws).thm = s.thm := rfl
@[simp] theorem State.setRun_clk (s : State) (k : Nat) (ws : List Word) : (s.setRun k ws).clk = s.clk := rfl
@[simp] theorem State.setRun_otp (s : State) (k : Nat) (ws : List Word) : (s.setRun k ws).otp = s.otp := rfl
@[simp] theorem State.setRun_sec (s : State) (k : Nat) (ws : List Word) : (s.setRun k ws).sec = s.sec := rfl
@[simp] theorem State.setRun_rec_ (s : State) (k : Nat) (ws : List Word) : (s.setRun k ws).rec_ = s.rec_ := rfl
@[simp] theorem State.setRun_saf (s : State) (k : Nat) (ws : List Word) : (s.setRun k ws).saf = s.saf := rfl
@[simp] theorem State.setRun_icn (s : State) (k : Nat) (ws : List Word) : (s.setRun k ws).icn = s.icn := rfl
@[simp] theorem State.setRun_sw (s : State) (k : Nat) (ws : List Word) : (s.setRun k ws).sw = s.sw := rfl

/-! ### `stage` -/

@[simp] theorem State.stage_pending (s : State) (k : Nat) (w : Word) : (s.stage k w).pending = s.pending := rfl
@[simp] theorem State.stage_mem (s : State) (k : Nat) (w : Word) : (s.stage k w).mem = s.mem := rfl
@[simp] theorem State.stage_stg (s : State) (k : Nat) (w : Word) : (s.stage k w).stg = s.stg.put k w := rfl
@[simp] theorem State.stage_pend (s : State) (k : Nat) (w : Word) : (s.stage k w).pend = s.pend := rfl
@[simp] theorem State.stage_taken (s : State) (k : Nat) (w : Word) : (s.stage k w).taken = s.taken := rfl
@[simp] theorem State.stage_free (s : State) (k : Nat) (w : Word) : (s.stage k w).free = s.free := rfl
@[simp] theorem State.stage_fe (s : State) (k : Nat) (w : Word) : (s.stage k w).fe = s.fe := rfl
@[simp] theorem State.stage_sys (s : State) (k : Nat) (w : Word) : (s.stage k w).sys = s.sys := rfl
@[simp] theorem State.stage_tt (s : State) (k : Nat) (w : Word) : (s.stage k w).tt = s.tt := rfl
@[simp] theorem State.stage_exp (s : State) (k : Nat) (w : Word) : (s.stage k w).exp = s.exp := rfl
@[simp] theorem State.stage_bel (s : State) (k : Nat) (w : Word) : (s.stage k w).bel = s.bel := rfl
@[simp] theorem State.stage_cnv (s : State) (k : Nat) (w : Word) : (s.stage k w).cnv = s.cnv := rfl
@[simp] theorem State.stage_lnk (s : State) (k : Nat) (w : Word) : (s.stage k w).lnk = s.lnk := rfl
@[simp] theorem State.stage_pix (s : State) (k : Nat) (w : Word) : (s.stage k w).pix = s.pix := rfl
@[simp] theorem State.stage_sp (s : State) (k : Nat) (w : Word) : (s.stage k w).sp = s.sp := rfl
@[simp] theorem State.stage_out (s : State) (k : Nat) (w : Word) : (s.stage k w).out = s.out := rfl
@[simp] theorem State.stage_pb (s : State) (k : Nat) (w : Word) : (s.stage k w).pb = s.pb := rfl
@[simp] theorem State.stage_pwr (s : State) (k : Nat) (w : Word) : (s.stage k w).pwr = s.pwr := rfl
@[simp] theorem State.stage_hk (s : State) (k : Nat) (w : Word) : (s.stage k w).hk = s.hk := rfl
@[simp] theorem State.stage_thm (s : State) (k : Nat) (w : Word) : (s.stage k w).thm = s.thm := rfl
@[simp] theorem State.stage_clk (s : State) (k : Nat) (w : Word) : (s.stage k w).clk = s.clk := rfl
@[simp] theorem State.stage_otp (s : State) (k : Nat) (w : Word) : (s.stage k w).otp = s.otp := rfl
@[simp] theorem State.stage_sec (s : State) (k : Nat) (w : Word) : (s.stage k w).sec = s.sec := rfl
@[simp] theorem State.stage_rec_ (s : State) (k : Nat) (w : Word) : (s.stage k w).rec_ = s.rec_ := rfl
@[simp] theorem State.stage_saf (s : State) (k : Nat) (w : Word) : (s.stage k w).saf = s.saf := rfl
@[simp] theorem State.stage_icn (s : State) (k : Nat) (w : Word) : (s.stage k w).icn = s.icn := rfl
@[simp] theorem State.stage_sw (s : State) (k : Nat) (w : Word) : (s.stage k w).sw = s.sw := rfl

/-! ### `stageF` -/

@[simp] theorem State.stageF_pending (s : State) (f : Fld) (v : Nat) : (s.stageF f v).pending = s.pending := rfl
@[simp] theorem State.stageF_mem (s : State) (f : Fld) (v : Nat) : (s.stageF f v).mem = s.mem := rfl
@[simp] theorem State.stageF_stg (s : State) (f : Fld) (v : Nat) : (s.stageF f v).stg = s.stg.put f.addr (putBits (s.staged f.addr) f.lo f.len v) := rfl
@[simp] theorem State.stageF_pend (s : State) (f : Fld) (v : Nat) : (s.stageF f v).pend = s.pend := rfl
@[simp] theorem State.stageF_taken (s : State) (f : Fld) (v : Nat) : (s.stageF f v).taken = s.taken := rfl
@[simp] theorem State.stageF_free (s : State) (f : Fld) (v : Nat) : (s.stageF f v).free = s.free := rfl
@[simp] theorem State.stageF_fe (s : State) (f : Fld) (v : Nat) : (s.stageF f v).fe = s.fe := rfl
@[simp] theorem State.stageF_sys (s : State) (f : Fld) (v : Nat) : (s.stageF f v).sys = s.sys := rfl
@[simp] theorem State.stageF_tt (s : State) (f : Fld) (v : Nat) : (s.stageF f v).tt = s.tt := rfl
@[simp] theorem State.stageF_exp (s : State) (f : Fld) (v : Nat) : (s.stageF f v).exp = s.exp := rfl
@[simp] theorem State.stageF_bel (s : State) (f : Fld) (v : Nat) : (s.stageF f v).bel = s.bel := rfl
@[simp] theorem State.stageF_cnv (s : State) (f : Fld) (v : Nat) : (s.stageF f v).cnv = s.cnv := rfl
@[simp] theorem State.stageF_lnk (s : State) (f : Fld) (v : Nat) : (s.stageF f v).lnk = s.lnk := rfl
@[simp] theorem State.stageF_pix (s : State) (f : Fld) (v : Nat) : (s.stageF f v).pix = s.pix := rfl
@[simp] theorem State.stageF_sp (s : State) (f : Fld) (v : Nat) : (s.stageF f v).sp = s.sp := rfl
@[simp] theorem State.stageF_out (s : State) (f : Fld) (v : Nat) : (s.stageF f v).out = s.out := rfl
@[simp] theorem State.stageF_pb (s : State) (f : Fld) (v : Nat) : (s.stageF f v).pb = s.pb := rfl
@[simp] theorem State.stageF_pwr (s : State) (f : Fld) (v : Nat) : (s.stageF f v).pwr = s.pwr := rfl
@[simp] theorem State.stageF_hk (s : State) (f : Fld) (v : Nat) : (s.stageF f v).hk = s.hk := rfl
@[simp] theorem State.stageF_thm (s : State) (f : Fld) (v : Nat) : (s.stageF f v).thm = s.thm := rfl
@[simp] theorem State.stageF_clk (s : State) (f : Fld) (v : Nat) : (s.stageF f v).clk = s.clk := rfl
@[simp] theorem State.stageF_otp (s : State) (f : Fld) (v : Nat) : (s.stageF f v).otp = s.otp := rfl
@[simp] theorem State.stageF_sec (s : State) (f : Fld) (v : Nat) : (s.stageF f v).sec = s.sec := rfl
@[simp] theorem State.stageF_rec_ (s : State) (f : Fld) (v : Nat) : (s.stageF f v).rec_ = s.rec_ := rfl
@[simp] theorem State.stageF_saf (s : State) (f : Fld) (v : Nat) : (s.stageF f v).saf = s.saf := rfl
@[simp] theorem State.stageF_icn (s : State) (f : Fld) (v : Nat) : (s.stageF f v).icn = s.icn := rfl
@[simp] theorem State.stageF_sw (s : State) (f : Fld) (v : Nat) : (s.stageF f v).sw = s.sw := rfl

/-! ### `stageRun` -/

@[simp] theorem State.stageRun_pending (s : State) (k : Nat) (ws : List Word) : (s.stageRun k ws).pending = s.pending := rfl
@[simp] theorem State.stageRun_mem (s : State) (k : Nat) (ws : List Word) : (s.stageRun k ws).mem = s.mem := rfl
@[simp] theorem State.stageRun_stg (s : State) (k : Nat) (ws : List Word) : (s.stageRun k ws).stg = s.stg.putRun k ws := rfl
@[simp] theorem State.stageRun_pend (s : State) (k : Nat) (ws : List Word) : (s.stageRun k ws).pend = s.pend := rfl
@[simp] theorem State.stageRun_taken (s : State) (k : Nat) (ws : List Word) : (s.stageRun k ws).taken = s.taken := rfl
@[simp] theorem State.stageRun_free (s : State) (k : Nat) (ws : List Word) : (s.stageRun k ws).free = s.free := rfl
@[simp] theorem State.stageRun_fe (s : State) (k : Nat) (ws : List Word) : (s.stageRun k ws).fe = s.fe := rfl
@[simp] theorem State.stageRun_sys (s : State) (k : Nat) (ws : List Word) : (s.stageRun k ws).sys = s.sys := rfl
@[simp] theorem State.stageRun_tt (s : State) (k : Nat) (ws : List Word) : (s.stageRun k ws).tt = s.tt := rfl
@[simp] theorem State.stageRun_exp (s : State) (k : Nat) (ws : List Word) : (s.stageRun k ws).exp = s.exp := rfl
@[simp] theorem State.stageRun_bel (s : State) (k : Nat) (ws : List Word) : (s.stageRun k ws).bel = s.bel := rfl
@[simp] theorem State.stageRun_cnv (s : State) (k : Nat) (ws : List Word) : (s.stageRun k ws).cnv = s.cnv := rfl
@[simp] theorem State.stageRun_lnk (s : State) (k : Nat) (ws : List Word) : (s.stageRun k ws).lnk = s.lnk := rfl
@[simp] theorem State.stageRun_pix (s : State) (k : Nat) (ws : List Word) : (s.stageRun k ws).pix = s.pix := rfl
@[simp] theorem State.stageRun_sp (s : State) (k : Nat) (ws : List Word) : (s.stageRun k ws).sp = s.sp := rfl
@[simp] theorem State.stageRun_out (s : State) (k : Nat) (ws : List Word) : (s.stageRun k ws).out = s.out := rfl
@[simp] theorem State.stageRun_pb (s : State) (k : Nat) (ws : List Word) : (s.stageRun k ws).pb = s.pb := rfl
@[simp] theorem State.stageRun_pwr (s : State) (k : Nat) (ws : List Word) : (s.stageRun k ws).pwr = s.pwr := rfl
@[simp] theorem State.stageRun_hk (s : State) (k : Nat) (ws : List Word) : (s.stageRun k ws).hk = s.hk := rfl
@[simp] theorem State.stageRun_thm (s : State) (k : Nat) (ws : List Word) : (s.stageRun k ws).thm = s.thm := rfl
@[simp] theorem State.stageRun_clk (s : State) (k : Nat) (ws : List Word) : (s.stageRun k ws).clk = s.clk := rfl
@[simp] theorem State.stageRun_otp (s : State) (k : Nat) (ws : List Word) : (s.stageRun k ws).otp = s.otp := rfl
@[simp] theorem State.stageRun_sec (s : State) (k : Nat) (ws : List Word) : (s.stageRun k ws).sec = s.sec := rfl
@[simp] theorem State.stageRun_rec_ (s : State) (k : Nat) (ws : List Word) : (s.stageRun k ws).rec_ = s.rec_ := rfl
@[simp] theorem State.stageRun_saf (s : State) (k : Nat) (ws : List Word) : (s.stageRun k ws).saf = s.saf := rfl
@[simp] theorem State.stageRun_icn (s : State) (k : Nat) (ws : List Word) : (s.stageRun k ws).icn = s.icn := rfl
@[simp] theorem State.stageRun_sw (s : State) (k : Nat) (ws : List Word) : (s.stageRun k ws).sw = s.sw := rfl

/-! ### `takes` -/

@[simp] theorem State.takes_pending (s : State) (op : Nat) (k : Pkt) : (s.takes op k).pending = s.pending := rfl
@[simp] theorem State.takes_mem (s : State) (op : Nat) (k : Pkt) : (s.takes op k).mem = s.mem := rfl
@[simp] theorem State.takes_stg (s : State) (op : Nat) (k : Pkt) : (s.takes op k).stg = s.stg := rfl
@[simp] theorem State.takes_pend (s : State) (op : Nat) (k : Pkt) : (s.takes op k).pend = s.pend := rfl
@[simp] theorem State.takes_taken (s : State) (op : Nat) (k : Pkt) : (s.takes op k).taken = s.taken := rfl
@[simp] theorem State.takes_free (s : State) (op : Nat) (k : Pkt) : (s.takes op k).free = s.free := rfl
@[simp] theorem State.takes_sys (s : State) (op : Nat) (k : Pkt) : (s.takes op k).sys = s.sys := rfl
@[simp] theorem State.takes_tt (s : State) (op : Nat) (k : Pkt) : (s.takes op k).tt = s.tt := rfl
@[simp] theorem State.takes_exp (s : State) (op : Nat) (k : Pkt) : (s.takes op k).exp = s.exp := rfl
@[simp] theorem State.takes_bel (s : State) (op : Nat) (k : Pkt) : (s.takes op k).bel = s.bel := rfl
@[simp] theorem State.takes_cnv (s : State) (op : Nat) (k : Pkt) : (s.takes op k).cnv = s.cnv := rfl
@[simp] theorem State.takes_lnk (s : State) (op : Nat) (k : Pkt) : (s.takes op k).lnk = s.lnk := rfl
@[simp] theorem State.takes_pix (s : State) (op : Nat) (k : Pkt) : (s.takes op k).pix = s.pix := rfl
@[simp] theorem State.takes_sp (s : State) (op : Nat) (k : Pkt) : (s.takes op k).sp = s.sp := rfl
@[simp] theorem State.takes_out (s : State) (op : Nat) (k : Pkt) : (s.takes op k).out = s.out := rfl
@[simp] theorem State.takes_pb (s : State) (op : Nat) (k : Pkt) : (s.takes op k).pb = s.pb := rfl
@[simp] theorem State.takes_pwr (s : State) (op : Nat) (k : Pkt) : (s.takes op k).pwr = s.pwr := rfl
@[simp] theorem State.takes_hk (s : State) (op : Nat) (k : Pkt) : (s.takes op k).hk = s.hk := rfl
@[simp] theorem State.takes_thm (s : State) (op : Nat) (k : Pkt) : (s.takes op k).thm = s.thm := rfl
@[simp] theorem State.takes_clk (s : State) (op : Nat) (k : Pkt) : (s.takes op k).clk = s.clk := rfl
@[simp] theorem State.takes_otp (s : State) (op : Nat) (k : Pkt) : (s.takes op k).otp = s.otp := rfl
@[simp] theorem State.takes_sec (s : State) (op : Nat) (k : Pkt) : (s.takes op k).sec = s.sec := rfl
@[simp] theorem State.takes_rec_ (s : State) (op : Nat) (k : Pkt) : (s.takes op k).rec_ = s.rec_ := rfl
@[simp] theorem State.takes_saf (s : State) (op : Nat) (k : Pkt) : (s.takes op k).saf = s.saf := rfl
@[simp] theorem State.takes_icn (s : State) (op : Nat) (k : Pkt) : (s.takes op k).icn = s.icn := rfl
@[simp] theorem State.takes_sw (s : State) (op : Nat) (k : Pkt) : (s.takes op k).sw = s.sw := rfl

/-! ### `takeTrailer` -/

@[simp] theorem State.takeTrailer_pending (s : State) (k : Pkt) : (s.takeTrailer k).pending = s.pending := rfl
@[simp] theorem State.takeTrailer_mem (s : State) (k : Pkt) : (s.takeTrailer k).mem = s.mem := rfl
@[simp] theorem State.takeTrailer_stg (s : State) (k : Pkt) : (s.takeTrailer k).stg = s.stg := rfl
@[simp] theorem State.takeTrailer_pend (s : State) (k : Pkt) : (s.takeTrailer k).pend = s.pend := rfl
@[simp] theorem State.takeTrailer_taken (s : State) (k : Pkt) : (s.takeTrailer k).taken = s.taken := rfl
@[simp] theorem State.takeTrailer_free (s : State) (k : Pkt) : (s.takeTrailer k).free = s.free := rfl
@[simp] theorem State.takeTrailer_fe (s : State) (k : Pkt) : (s.takeTrailer k).fe = s.fe := rfl
@[simp] theorem State.takeTrailer_sys (s : State) (k : Pkt) : (s.takeTrailer k).sys = s.sys := rfl
@[simp] theorem State.takeTrailer_tt (s : State) (k : Pkt) : (s.takeTrailer k).tt = s.tt := rfl
@[simp] theorem State.takeTrailer_exp (s : State) (k : Pkt) : (s.takeTrailer k).exp = s.exp := rfl
@[simp] theorem State.takeTrailer_bel (s : State) (k : Pkt) : (s.takeTrailer k).bel = s.bel := rfl
@[simp] theorem State.takeTrailer_cnv (s : State) (k : Pkt) : (s.takeTrailer k).cnv = s.cnv := rfl
@[simp] theorem State.takeTrailer_lnk (s : State) (k : Pkt) : (s.takeTrailer k).lnk = s.lnk := rfl
@[simp] theorem State.takeTrailer_pix (s : State) (k : Pkt) : (s.takeTrailer k).pix = s.pix := rfl
@[simp] theorem State.takeTrailer_sp (s : State) (k : Pkt) : (s.takeTrailer k).sp = s.sp := rfl
@[simp] theorem State.takeTrailer_out (s : State) (k : Pkt) : (s.takeTrailer k).out = s.out := rfl
@[simp] theorem State.takeTrailer_pb (s : State) (k : Pkt) : (s.takeTrailer k).pb = s.pb := rfl
@[simp] theorem State.takeTrailer_pwr (s : State) (k : Pkt) : (s.takeTrailer k).pwr = s.pwr := rfl
@[simp] theorem State.takeTrailer_hk (s : State) (k : Pkt) : (s.takeTrailer k).hk = s.hk := rfl
@[simp] theorem State.takeTrailer_thm (s : State) (k : Pkt) : (s.takeTrailer k).thm = s.thm := rfl
@[simp] theorem State.takeTrailer_clk (s : State) (k : Pkt) : (s.takeTrailer k).clk = s.clk := rfl
@[simp] theorem State.takeTrailer_otp (s : State) (k : Pkt) : (s.takeTrailer k).otp = s.otp := rfl
@[simp] theorem State.takeTrailer_sec (s : State) (k : Pkt) : (s.takeTrailer k).sec = { s.sec with sess := s.sec.sess.map (fun x => { x with cctr := some (trailerCctr k) }) } := rfl
@[simp] theorem State.takeTrailer_rec_ (s : State) (k : Pkt) : (s.takeTrailer k).rec_ = s.rec_ := rfl
@[simp] theorem State.takeTrailer_saf (s : State) (k : Pkt) : (s.takeTrailer k).saf = s.saf := rfl
@[simp] theorem State.takeTrailer_icn (s : State) (k : Pkt) : (s.takeTrailer k).icn = s.icn := rfl
@[simp] theorem State.takeTrailer_sw (s : State) (k : Pkt) : (s.takeTrailer k).sw = s.sw := rfl

/-! ### `keepQueue` -/

@[simp] theorem State.keepQueue_pending (s t : State) : (s.keepQueue t).pending = s.pending := rfl
@[simp] theorem State.keepQueue_mem (s t : State) : (s.keepQueue t).mem = t.mem := rfl
@[simp] theorem State.keepQueue_stg (s t : State) : (s.keepQueue t).stg = t.stg := rfl
@[simp] theorem State.keepQueue_pend (s t : State) : (s.keepQueue t).pend = t.pend := rfl
@[simp] theorem State.keepQueue_taken (s t : State) : (s.keepQueue t).taken = t.taken := rfl
@[simp] theorem State.keepQueue_free (s t : State) : (s.keepQueue t).free = t.free := rfl
@[simp] theorem State.keepQueue_fe (s t : State) : (s.keepQueue t).fe = t.fe := rfl
@[simp] theorem State.keepQueue_sys (s t : State) : (s.keepQueue t).sys = t.sys := rfl
@[simp] theorem State.keepQueue_tt (s t : State) : (s.keepQueue t).tt = t.tt := rfl
@[simp] theorem State.keepQueue_exp (s t : State) : (s.keepQueue t).exp = t.exp := rfl
@[simp] theorem State.keepQueue_bel (s t : State) : (s.keepQueue t).bel = t.bel := rfl
@[simp] theorem State.keepQueue_cnv (s t : State) : (s.keepQueue t).cnv = t.cnv := rfl
@[simp] theorem State.keepQueue_lnk (s t : State) : (s.keepQueue t).lnk = t.lnk := rfl
@[simp] theorem State.keepQueue_pix (s t : State) : (s.keepQueue t).pix = t.pix := rfl
@[simp] theorem State.keepQueue_sp (s t : State) : (s.keepQueue t).sp = t.sp := rfl
@[simp] theorem State.keepQueue_out (s t : State) : (s.keepQueue t).out = t.out := rfl
@[simp] theorem State.keepQueue_pb (s t : State) : (s.keepQueue t).pb = t.pb := rfl
@[simp] theorem State.keepQueue_pwr (s t : State) : (s.keepQueue t).pwr = t.pwr := rfl
@[simp] theorem State.keepQueue_hk (s t : State) : (s.keepQueue t).hk = t.hk := rfl
@[simp] theorem State.keepQueue_thm (s t : State) : (s.keepQueue t).thm = t.thm := rfl
@[simp] theorem State.keepQueue_clk (s t : State) : (s.keepQueue t).clk = t.clk := rfl
@[simp] theorem State.keepQueue_otp (s t : State) : (s.keepQueue t).otp = { t.otp with cells := s.otp.cells } := rfl
@[simp] theorem State.keepQueue_sec (s t : State) : (s.keepQueue t).sec = t.sec := rfl
@[simp] theorem State.keepQueue_rec_ (s t : State) : (s.keepQueue t).rec_ = t.rec_ := rfl
@[simp] theorem State.keepQueue_saf (s t : State) : (s.keepQueue t).saf = t.saf := rfl
@[simp] theorem State.keepQueue_icn (s t : State) : (s.keepQueue t).icn = t.icn := rfl
@[simp] theorem State.keepQueue_sw (s t : State) : (s.keepQueue t).sw = t.sw := rfl

/-! ### What a command that is taken finds -/

@[simp] theorem State.takes_reg (s : State) (op : Nat) (k : Pkt) (a : Nat) : (s.takes op k).reg a = s.reg a := rfl
@[simp] theorem State.takes_rd (s : State) (op : Nat) (k : Pkt) (f : Fld) : (s.takes op k).rd f = s.rd f := rfl
@[simp] theorem State.takes_tst (s : State) (op : Nat) (k : Pkt) (f : Fld) : (s.takes op k).tst f = s.tst f := rfl
@[simp] theorem State.takes_live (s : State) (op : Nat) (k : Pkt) : (s.takes op k).live = s.live := rfl
@[simp] theorem State.takes_staged (s : State) (op : Nat) (k : Pkt) : (s.takes op k).staged = s.staged := rfl
@[simp] theorem State.takes_pendView (s : State) (op : Nat) (k : Pkt) : (s.takes op k).pendView = s.pendView := rfl
@[simp] theorem State.takes_takenView (s : State) (op : Nat) (k : Pkt) : (s.takes op k).takenView = s.takenView := rfl
@[simp] theorem State.takes_viewFor (s : State) (op : Nat) (k : Pkt) (fn : Nat) : (s.takes op k).viewFor fn = s.viewFor fn := rfl
@[simp] theorem State.takes_run (s : State) (op : Nat) (k : Pkt) (a n : Nat) : (s.takes op k).run a n = s.run a n := rfl
@[simp] theorem State.takes_checkMode (s : State) (op : Nat) (k : Pkt) : (s.takes op k).checkMode = s.checkMode := rfl
@[simp] theorem State.takes_serverUp (s : State) (op : Nat) (k : Pkt) : (s.takes op k).serverUp = s.serverUp := rfl
@[simp] theorem State.takes_aeOn (s : State) (op : Nat) (k : Pkt) : (s.takes op k).aeOn = s.aeOn := rfl
@[simp] theorem State.takes_slotsOfNs (s : State) (op : Nat) (k : Pkt) (t : Nat) : (s.takes op k).slotsOfNs t = s.slotsOfNs t := rfl
@[simp] theorem State.takes_tlRef (s : State) (op : Nat) (k : Pkt) (v : View) : (s.takes op k).tlRef v = s.tlRef v := rfl
@[simp] theorem State.takes_outSizeBad (s : State) (op : Nat) (k : Pkt) (w : Word) : (s.takes op k).outSizeBad w = s.outSizeBad w := rfl
@[simp] theorem State.takes_lenReason (s : State) (op : Nat) (k : Pkt) (n : Nat) : (s.takes op k).lenReason n = s.lenReason n := rfl
@[simp] theorem State.takes_dgainBad (s : State) (op : Nat) (k : Pkt) (g : Nat) : (s.takes op k).dgainBad g = s.dgainBad g := rfl
@[simp] theorem State.takes_toneBank (s : State) (op : Nat) (k : Pkt) : (s.takes op k).toneBank = s.toneBank := rfl
@[simp] theorem State.takes_tonePending (s : State) (op : Nat) (k : Pkt) : (s.takes op k).tonePending = s.tonePending := rfl
@[simp] theorem State.takes_meshBank (s : State) (op : Nat) (k : Pkt) : (s.takes op k).meshBank = s.meshBank := rfl
@[simp] theorem State.takes_meshPending (s : State) (op : Nat) (k : Pkt) : (s.takes op k).meshPending = s.meshPending := rfl
@[simp] theorem State.takes_bondFailed (s : State) (op : Nat) (k : Pkt) (x y : Nat) : (s.takes op k).bondFailed x y = s.bondFailed x y := rfl
@[simp] theorem State.takes_quizFn (s : State) (op : Nat) (k : Pkt) : (s.takes op k).quizFn = s.quizFn := rfl
@[simp] theorem State.takes_supplyOk (s : State) (op : Nat) (k : Pkt) : (s.takes op k).supplyOk = s.supplyOk := rfl
@[simp] theorem State.takes_emmcHeld (s : State) (op : Nat) (k : Pkt) : (s.takes op k).emmcHeld = s.emmcHeld := rfl
@[simp] theorem State.takes_statPart (s : State) (op : Nat) (k : Pkt) (age part : Nat) : (s.takes op k).statPart age part = s.statPart age part := rfl
@[simp] theorem State.takes_canSend (s : State) (op : Nat) (k : Pkt) : (s.takes op k).canSend = s.canSend := rfl
@[simp] theorem State.takes_rpNow (s : State) (op : Nat) (k : Pkt) : (s.takes op k).rpNow = s.rpNow := rfl
@[simp] theorem State.takes_rateReason (s : State) (op : Nat) (k : Pkt) : (s.takes op k).rateReason = s.rateReason := rfl
@[simp] theorem State.takes_isOpen (s : State) (op : Nat) (k : Pkt) (o : Nat) : (s.takes op k).isOpen o = s.isOpen o := rfl
@[simp] theorem State.takes_trailerReason (s : State) (op : Nat) (k : Pkt) (o : Nat) (p : Pkt) (v : Bool) : (s.takes op k).trailerReason o p v = s.trailerReason o p v := rfl

end Sys2Proof.Machine
end

