-- ==== Sys2Proof/Laws/Otp.lean ====
section
/-!
SUPPORT. Laws of the OTP: what the boot copies (R594, R598) and what does not touch the cells.
-/

namespace Sys2Proof.Machine

theorem noteMarginal_otp (s : State) (l : List Nat) : (s.noteMarginal l).otp = s.otp := by
  unfold State.noteMarginal; split <;> rfl

theorem wrs_otp : ∀ (l : List (Fld × Nat)) (s : State), (s.wrs l).otp = s.otp
  | [], _ => rfl
  | p :: l, s => wrs_otp l (s.wr p.1 p.2)

theorem setCounters_otp (s : State) : s.setCounters.otp = s.otp := rfl

theorem event_otp (s : State) (code : Nat) (pl : List Word) : (s.event code pl).otp = s.otp := (event_quiet s code pl).otp

theorem reply_otp (s : State) (op tag gen st fn : Nat) (pl : List Word) : (s.reply op tag gen st fn pl).otp = s.otp :=
  (reply_quiet s op tag gen st fn pl).otp

/-- The boot copies every word at the reference that its region uses, and blows nothing. -/
theorem otpStart_otp (s : State) :
    s.otpStart.otp.sel = (List.range 1024).map s.otp.value ∧ s.otpStart.otp.cells = s.otp.cells ∧ s.otpStart.otp.job = none := by
  unfold State.otpStart
  extract_lets found due o t t2 t3 t4 t5 t6
  have h3 : t2.otp = t.otp := (setCounters_otp _).trans (noteMarginal_otp _ _)
  have h4 : t3.otp = t2.otp := wrs_otp _ _
  have h5 : t4.otp = t3.otp := State.setReg_otp _ _ _
  have h6 : t5.otp = t4.otp := State.setReg_otp _ _ _
  have h7 : t6.otp = t5.otp := State.setReg_otp _ _ _
  rw [(foldl_quiet _ (fun s r => event_quiet s _ _) _ _).otp, h7, h6, h5, h4, h3]
  simp only [t, o, and_self]

/-- The state of a region after the boot follows from the copied words alone. -/
theorem otpStart_otpCodeState (s : State) (code : Nat) : s.otpStart.otpCodeState code =
    State.otpCodeState { s with otp := { s.otp with sel := (List.range 1024).map s.otp.value } } code := by
  unfold State.otpCodeState State.otpState State.otpSel
  rw [(otpStart_otp s).1]

end Sys2Proof.Machine
end

