-- ==== Sys2Proof/Machine/Pins.lean ====
section
/-!
DEFINITION. The signal balls (R678, R679): what each is in reset and unpowered, and as the state has it otherwise.
-/

namespace Sys2Proof.Machine

/-- The signals of R678; signals with the same states in every column stand for one another. -/
inductive Pin where
  /-- L0 to L3. -/
  | lane (n : Fin 4)
  /-- CK. -/
  | ck
  /-- XTAL_IN and XTAL_OUT. -/
  | xtal
  /-- CP_D0 to CP_D15, CP_PCLK, CP_HS and CP_VS. -/
  | cpIn
  /-- CP_SCL and CP_SDA. -/
  | cpBus
  /-- CP_RST_N. -/
  | cpRstN
  /-- CP_PWDN. -/
  | cpPwdn
  /-- CLKOUT0. -/
  | clkOut0
  /-- CLKOUT1. -/
  | clkOut1
  /-- The balls of the eMMC. -/
  | mmc
  /-- PWM_PH0 to PWM_PH3. -/
  | pwm (n : Fin 4)
  /-- SW1 to SW6. -/
  | sw (n : Fin 6)
  /-- EN_STG. -/
  | enStg
  /-- VPIX_C. -/
  | vpixC
  /-- HTR_G. -/
  | htrG
  /-- VID_DAT. -/
  | vidDat
  /-- SYNC_OUT. -/
  | syncOut
  /-- STROBE_OUT. -/
  | strobeOut
  /-- FAULT_N. -/
  | faultN
  /-- WAKE. -/
  | wake
  /-- LOCK_A. -/
  | lockA
  /-- TDO. -/
  | tdo
  /-- The balls that are inputs in every state with power: REFCLK_IN, CS_PHn, TMON_STG, CORE_FB, FBn, AINn, HTR_CS, NTC, VID_CLK, TRIG_IN,
  RESET_N and the other JTAG balls. -/
  | input
  deriving DecidableEq, Repr

/-- What a ball does (R678). -/
inductive PinState where
  /-- High impedance. -/
  | highZ
  /-- High impedance with the internal pull-down, which holds it low. -/
  | pulledLow
  /-- Driven low. -/
  | low
  /-- Driven high. -/
  | high
  /-- The middle level of a three-level output, which turns its stage off (R683). -/
  | mid
  /-- An open drain that is not pulled. -/
  | released
  /-- An input. -/
  | input
  /-- Electrical idle (R408). -/
  | idle
  /-- At work as its interface has it: a lane, the crystal, a bus. -/
  | works
  /-- A clock of a frequency in Hz. -/
  | clock (hz : Rat)
  /-- At a voltage in mV. -/
  | mV (v : Nat)
  deriving DecidableEq, Repr

/-- A driven level. -/
def PinState.ofLevel (b : Bool) : PinState := if b then .high else .low

/-- What a clock pin does, as the state of a ball. -/
def ClkPin.ball : ClkPin → PinState
  | .highZ => .highZ
  | .level b => .ofLevel b
  | .clock hz => .clock hz

/-- The state of a ball with VIN below 4.5 V (R678, R679). -/
def Pin.unpowered : Pin → PinState
  | .lane _ | .ck => .idle
  | .cpRstN | .enStg | .htrG | .strobeOut => .pulledLow
  | .faultN => .low
  | .vpixC => .mV 0
  | .xtal | .cpIn | .cpBus | .cpPwdn | .clkOut0 | .clkOut1 | .mmc | .pwm _ | .sw _ | .vidDat | .syncOut | .wake | .lockA | .tdo
  | .input => .highZ

/-- The level of a switching output, of which the core phases are the first four (R541): while it is off, the middle level on a phase
and high impedance at a switch node. -/
def State.switchBall (s : State) (n : Nat) : PinState :=
  if s.swEnabled n then .ofLevel (s.swOn n)
  else if n < 4 then .mid
  else .highZ

/-- A phase output: low at step 1 of R547 until VDD_LOGIC rises. -/
def State.phaseBall (s : State) (n : Nat) : PinState := if s.pwr.step < 6 then .low else s.switchBall n

/-- EN_STG (R547, R678). -/
def State.enStg (s : State) : PinState := .ofLevel (decide (6 ≤ s.pwr.step))

/-- VPIX_C (R547, R678): 2.90 V from step 7. -/
def State.vpixBall (s : State) : PinState := .mV (if 7 ≤ s.pwr.step then 2900 else 0)

/-- The state of a ball in reset (R678). -/
def State.resetBall (s : State) : Pin → PinState
  | .lane _ | .ck => .idle
  | .cpRstN | .htrG | .faultN => .low
  | .strobeOut => .pulledLow
  | .cpBus | .vidDat | .wake => .released
  | .cpIn | .input => .input
  | .enStg => s.enStg
  | .vpixC => s.vpixBall
  | .pwm n => s.phaseBall n
  | .sw n => s.switchBall (4 + n)
  | .xtal | .cpPwdn | .clkOut0 | .clkOut1 | .mmc | .syncOut | .lockA | .tdo => .highZ

/-- CP_PWDN at the level of the profile's PWDN_POL (R307, R310, R311). -/
def State.cpPwdn (s : State) : Bool := s.pb.pwdn != bit (s.prof 5) 24

/-- A lane or CK as the link runs (R408, R512). -/
def State.linkBall (s : State) : PinState := if s.lnk.state = 0 ∨ s.sys.park.idle = true then .idle else .works

/-- The state of a ball (R678): unpowered, in reset, or as the units that drive it have it. The JTAG port has no TAP selected. -/
def State.ball (s : State) (p : Pin) : PinState :=
  if s.sys.phase = .unpowered then p.unpowered
  else if s.sys.phase = .reset then s.resetBall p
  else match p with
    | .lane _ | .ck => s.linkBall
    | .xtal => if s.tst F.CLK_CFG_REFSRC then .highZ else .works
    | .cpIn | .input => .input
    | .cpBus => if s.tst F.PB_CTRL_EN then .works else .released
    | .cpRstN => .ofLevel s.pb.rstN
    | .cpPwdn => .ofLevel s.cpPwdn
    | .clkOut0 => s.clkOut0.ball
    | .clkOut1 => s.clkOut1.ball
    | .mmc => if s.rec_.present then .works else .highZ
    | .pwm n => s.phaseBall n
    | .sw n => s.switchBall (4 + n)
    | .enStg => s.enStg
    | .vpixC => s.vpixBall
    | .htrG => .ofLevel s.htrG
    | .vidDat => .works
    | .syncOut => match s.syncOut with
      | some b => .ofLevel b
      | none => .highZ
    | .strobeOut => .ofLevel s.strobeOut
    | .faultN => if s.faultLow then .low else .released
    | .wake => if s.sys.wakeLow.isSome then .low else .input
    | .lockA => match s.lockA with
      | some b => .ofLevel b
      | none => .highZ
    | .tdo => .highZ

end Sys2Proof.Machine
end

