-- ==== Sys2Proof/WellFormed.lean ====
section
/-!
DEFINITION. Which terms of `Instr` stand for something that can happen: operands within the widths that the spec gives them.
-/

namespace Sys2Proof

/-- A packet's fields lie within the widths of R455, and its length is one that a frame can carry (R460). -/
def Pkt.wellFormed (k : Pkt) : Bool :=
  decide (k.tag < 4096 ∧ k.gen < 16 ∧ k.rsvd < 8192 ∧ k.seq < 65536 ∧ k.payload.length ≤ 257)

/-- The operands of a command lie within their widths. -/
def Instr.wellFormed (i : Instr) : Bool :=
  match i with
  | .ping k => k.wellFormed
  | .getIdentity k => k.wellFormed
  | .getStatus k => k.wellFormed
  | .setMode k => k.wellFormed
  | .getMode k => k.wellFormed
  | .softReset k => k.wellFormed
  | .eventMask k => k.wellFormed
  | .hallPassQuery k => k.wellFormed
  | .regRead k => k.wellFormed
  | .regWrite k => k.wellFormed
  | .regModify k => k.wellFormed
  | .regReadBlock k => k.wellFormed
  | .regWriteBlock k => k.wellFormed
  | .tableWrite k => k.wellFormed
  | .tableRead k => k.wellFormed
  | .settingsCommit k => k.wellFormed
  | .setFrameRate k => k.wellFormed
  | .lockReference k => k.wellFormed
  | .getTimebase k => k.wellFormed
  | .eventTableLoad k => k.wellFormed
  | .strobeConfig k => k.wellFormed
  | .aeConfig k => k.wellFormed
  | .setExposure k => k.wellFormed
  | .hdrConfig k => k.wellFormed
  | .seqContextWrite k => k.wellFormed
  | .seqListLoad k => k.wellFormed
  | .seqStart k => k.wellFormed
  | .seqStop k => k.wellFormed
  | .flickerConfig k => k.wellFormed
  | .spEnable k => k.wellFormed
  | .spLawConfig k => k.wellFormed
  | .spMaskLoad k => k.wellFormed
  | .spOverride k => k.wellFormed
  | .spMapRead k => k.wellFormed
  | .windowSet k => k.wellFormed
  | .windowClear k => k.wellFormed
  | .binningSet k => k.wellFormed
  | .triggerConfig k => k.wellFormed
  | .triggerFire k => k.wellFormed
  | .pipeAConfig k => k.wellFormed
  | .toneCurveLoad k => k.wellFormed
  | .ccmSet k => k.wellFormed
  | .tnrConfig k => k.wellFormed
  | .pipeBConfig k => k.wellFormed
  | .companionProfileLoad k => k.wellFormed
  | .companionRegAccess k => k.wellFormed
  | .statsConfig k => k.wellFormed
  | .statsRead k => k.wellFormed
  | .outputRoute k => k.wellFormed
  | .displayFormat k => k.wellFormed
  | .warpMeshLoad k => k.wellFormed
  | .codingConfig k => k.wellFormed
  | .visionFormat k => k.wellFormed
  | .streamPriority k => k.wellFormed
  | .linkStatus k => k.wellFormed
  | .linkRate k => k.wellFormed
  | .laneMap k => k.wellFormed
  | .ffeRequest k => k.wellFormed
  | .prbsConfig k => k.wellFormed
  | .prbsRead k => k.wellFormed
  | .loopback k => k.wellFormed
  | .powerStatus k => k.wellFormed
  | .railConfig k => k.wellFormed
  | .reportCardRead k => k.wellFormed
  | .reportCardClear k => k.wellFormed
  | .hkSequenceLoad k => k.wellFormed
  | .hkRead k => k.wellFormed
  | .thermalConfig k => k.wellFormed
  | .throttleAck k => k.wellFormed
  | .heaterConfig k => k.wellFormed
  | .otpRead k => k.wellFormed
  | .otpProgram k => k.wellFormed
  | .otpFuseLock k => k.wellFormed
  | .counterAdvance k => k.wellFormed
  | .otpStatus k => k.wellFormed
  | .authHello k => k.wellFormed
  | .authFinish k => k.wellFormed
  | .livenessConfig k => k.wellFormed
  | .noncePush k => k.wellFormed
  | .popQuiz k => k.wellFormed
  | .alarmStatus k => k.wellFormed
  | .alarmClear k => k.wellFormed
  | .recMount k => k.wellFormed
  | .recConfig k => k.wellFormed
  | .recEvent k => k.wellFormed
  | .recIndexRead k => k.wellFormed
  | .recClipRead k => k.wellFormed
  | .recErase k => k.wellFormed
  | .recUnmount k => k.wellFormed
  | .fwStageBegin k => k.wellFormed
  | .fwStageChunk k => k.wellFormed
  | .fwStageVerify k => k.wellFormed
  | .fwSwitch k => k.wellFormed
  | .fwInfo k => k.wellFormed
  | .selftestRun k => k.wellFormed
  | .faultRead k => k.wellFormed
  | .faultClear k => k.wellFormed
  | .eccStatus k => k.wellFormed
  | .rollCallResult k => k.wellFormed
  | .registerWrite addr _ => decide (addr < 65536)
  | .cnvCalStart _ => true
  | .ttCommitReq => true
  | .tplCheck _ => true
  | .seqCtrlStart _ => true
  | .seqCtrlStop _ => true
  | .companionEnable _ => true
  | .companionDisable _ => true
  | .profCheck _ => true
  | .hkApply => true
  | .lnkTestStart _ => true
  | .lnkLoopWrite _ => true
  | .lnkCfgWrite _ => true
  | .relock pll _ => decide (pll < 4)
  | .sysCtrlSoftReset => true
  | .kick => true
  | .counterClr addr => decide (addr < 65536)
  | .lockSet addr => decide (addr < 65536)
  | .otpLockWrite _ => true
  | .ttTbLoRead => true
  | .belLastLoRead => true
  | .pbVstbLoRead => true
  | .lnkPrbsbitsLoRead => true
  | .vinRise vin => decide (vin < 65536)
  | .uvlo vin => decide (vin < 540)
  | .vinHi vin => decide (1950 < vin)
  | .surge vin => decide (2450 < vin)
  | .surgeRecovery vin => decide (vin < 1900)
  | .resetNAssert => true
  | .resetRelease _ _ _ => true
  | .softStartStep => true
  | .softStartTimeout rail => decide (rail < 8)
  | .railFault rail => decide (rail < 8)
  | .railOv rail => decide (rail < 8)
  | .hiccupRestart rail => decide (rail < 8)
  | .vcmdDone rail => decide (rail < 8)
  | .vcmdTimeout rail => decide (rail < 8)
  | .vidFrame bits => decide (bits < 2 ^ 24)
  | .phaseShed => true
  | .shedAbort => true
  | .shedHoldExpiry => true
  | .thermalComparatorTrip sensor => decide (sensor < 10)
  | .pllLockDone pll _ _ _ => decide (pll < 4)
  | .lossOfLock pll => decide (pll < 4)
  | .referenceLost => true
  | .referenceReturn => true
  | .dramReady _ _ _ => true
  | .quickCalibration _ => true
  | .firmwareReady => true
  | .takeoverTimeout => true
  | .backChannelFrame chars ended => decide (chars.length ≤ 1040 ∧ (ended = false → chars.length = 1040))
  | .mark _ line hfc crc => decide (line < 65536 ∧ hfc < 65536 ∧ crc < 256)
  | .markMissed => true
  | .coastTimeout => true
  | .acquireTimeout => true
  | .lstate b ack crc => decide (b < 256 ∧ ack < 65536 ∧ crc < 256)
  | .laneReadd lane => decide (lane < 4)
  | .hostSilent => true
  | .bcIdle chars _ => decide (chars.length = 7)
  | .bcAdaptWindow _ _ _ => true
  | .eyeMonitor _ _ => true
  | .linkActive => true
  | .trainTimeout => true
  | .ffeApply lane => decide (lane < 4)
  | .testEnd => true
  | .frameStart => true
  | .commitEvent => true
  | .rowReset row => decide (row < 4144)
  | .blockReset row k => decide (row < 4144 ∧ 1 ≤ k ∧ k ≤ 15)
  | .shortReset row => decide (row < 4144)
  | .longRead row _ => decide (row < 4144)
  | .shortRead row => decide (row < 4144)
  | .popQuizEvent n => decide (n < 4)
  | .strobeOn => true
  | .strobeOff => true
  | .lstep => true
  | .statsCut => true
  | .conversionCycle _ => true
  | .offsetTracking _ => true
  | .statsSetClose => true
  | .aeRun => true
  | .awbRun => true
  | .displayLineDue _ => true
  | .dstall => true
  | .bellTake => true
  | .trigInEdge _ _ _ => true
  | .triggerAtReached => true
  | .bellBusyEnd => true
  | .calibrationComplete _ => true
  | .companionPowerupDelay => true
  | .companionStartTimeout => true
  | .companionPowerdownDelay => true
  | .companionFrameStart _ _ => true
  | .companionFrameEnd _ => true
  | .writeSetBurst => true
  | .i2cTransferDone _ _ _ => true
  | .companionLost => true
  | .pclkTimeout => true
  | .hkFastRound conv _ => decide (conv < 2)
  | .hkTick _ _ => true
  | .urgentRequest _ => true
  | .unsolicitedUrgentRequest _ => true
  | .graceExpiry => true
  | .clearHoldExpiry => true
  | .enf2Timeout => true
  | .heaterPwmOff => true
  | .otpWordProgrammed _ _ => true
  | .alarmDetect source => decide (source < 9)
  | .handshakeDone => true
  | .handshakeTimeout => true
  | .watchdog => true
  | .lockstep => true
  | .memUncorr _ => true
  | .switchLoadDone => true
  | .switchTimeout => true
  | .parkingFrame sums => decide (sums.length = 262144)
  | .externalWake => true
  | .wakePulseEnd => true
  | .parkingLinkIdle => true
  | .warmStartWrite => true
  | .chalkboardAdd => true
  | .emmcCommandDone _ => true
  | .postWindowEnd => true
  | .clipWriteComplete => true
  | .mountComplete _ _ => true
  | .wearCheck _ _ _ => true
  | .unpowered => true
  | .vinHiEnd => true
  | .recessResume => true
  | .pendingSetTaken => true
  | .frameEnd => true
  | .mtpWriteDone => true
  | .slewComplete => true
  | .planLockTimeout pll => decide (pll < 4)
  | .healthTestPass => true
  | .finishCheckDone => true
  | .stageVerifyDone => true
  | .selftestComplete _ => true
  | .pclkEdge => true

end Sys2Proof
end

