-- ==== Sys2Proof/Tests/Slice0.lean ====
section
/-!
SUPPORT. Tests: terms that are not well formed; for each statement a state and operands that meet the hypotheses of each of its clauses;
and examples that the spec works out.
-/

namespace Sys2Proof.Tests

set_option Elab.async false

open Sys2Proof (Word Byte Pkt Instr)
open Sys2Proof.Machine

/-! ### Well-formed terms -/

/-- A packet with a payload. -/
def pkt (pl : List Word) : Pkt := ⟨1, 0, false, 0, 0, pl⟩

theorem test_wellFormed_packet :
    (pkt []).wellFormed = true ∧ ({ pkt [] with tag := 4096 } : Pkt).wellFormed = false ∧
    ({ pkt [] with gen := 16 } : Pkt).wellFormed = false ∧ ({ pkt [] with rsvd := 8192 } : Pkt).wellFormed = false ∧
    ({ pkt [] with seq := 65536 } : Pkt).wellFormed = false ∧ (pkt (List.replicate 258 0#32)).wellFormed = false ∧
    (Instr.ping { pkt [] with tag := 4096 }).wellFormed = false := by decide +kernel

theorem test_wellFormed_rows :
    (Instr.registerWrite 65536 0#32).wellFormed = false ∧ (Instr.relock 4 0#32).wellFormed = false ∧
    (Instr.counterClr 65536).wellFormed = false ∧ (Instr.lockSet 65536).wellFormed = false ∧
    (Instr.vinRise 65536).wellFormed = false ∧ (Instr.uvlo 540).wellFormed = false ∧ (Instr.vinHi 1950).wellFormed = false ∧
    (Instr.surge 2450).wellFormed = false ∧ (Instr.surgeRecovery 1900).wellFormed = false ∧
    (Instr.softStartTimeout 8).wellFormed = false ∧ (Instr.railFault 8).wellFormed = false ∧ (Instr.railOv 8).wellFormed = false ∧
    (Instr.hiccupRestart 8).wellFormed = false ∧ (Instr.vcmdDone 8).wellFormed = false ∧ (Instr.vcmdTimeout 8).wellFormed = false ∧
    (Instr.vidFrame (2 ^ 24)).wellFormed = false ∧ (Instr.thermalComparatorTrip 10).wellFormed = false ∧
    (Instr.pllLockDone 4 0 0 ⟨0, [], 0⟩).wellFormed = false ∧ (Instr.lossOfLock 4).wellFormed = false ∧
    (Instr.planLockTimeout 4).wellFormed = false := by decide +kernel

theorem test_wellFormed_link_rows :
    (Instr.backChannelFrame (List.replicate 1041 0#8) true).wellFormed = false ∧
    (Instr.backChannelFrame [0#8] false).wellFormed = false ∧ (Instr.mark 0 65536 0 0).wellFormed = false ∧
    (Instr.mark 0 0 65536 0).wellFormed = false ∧ (Instr.mark 0 0 0 256).wellFormed = false ∧
    (Instr.lstate 256 0 0).wellFormed = false ∧ (Instr.lstate 0 65536 0).wellFormed = false ∧ (Instr.lstate 0 0 256).wellFormed = false ∧
    (Instr.laneReadd 4).wellFormed = false ∧ (Instr.bcIdle [0#8] false).wellFormed = false ∧
    (Instr.ffeApply 4).wellFormed = false ∧ (Instr.rowReset 4144).wellFormed = false ∧
    (Instr.blockReset 4144 1).wellFormed = false ∧ (Instr.blockReset 0 0).wellFormed = false ∧
    (Instr.blockReset 0 16).wellFormed = false ∧ (Instr.shortReset 4144).wellFormed = false ∧
    (Instr.longRead 4144 []).wellFormed = false ∧ (Instr.shortRead 4144).wellFormed = false ∧
    (Instr.popQuizEvent 4).wellFormed = false ∧ (Instr.hkFastRound 2 []).wellFormed = false ∧
    (Instr.alarmDetect 9).wellFormed = false ∧ (Instr.parkingFrame []).wellFormed = false := by decide +kernel

/-! ### States -/

/-- A device that runs in a mode, its link up and its firmware in control. -/
def on (mode : Nat) : State :=
  { State.reset with
    sys := { State.reset.sys with
      phase := .run, resetN := true, mode := mode, fw := .running, takenOver := true, imageGood := true, rollDone := true }
    lnk := { State.reset.lnk with state := 2, active := 15, good := 15 }
    pwr := { State.reset.pwr with vin := 1200, pgood := 255, step := 8 } }

/-- The device while a frame is read. -/
def reading (mode : Nat) : State :=
  { on mode with tt := { (on mode).tt with run := true, started := true, fn := 100, rp0 := 0, rpCur := 400000, vcur := 4160 } }

/-- A session of a kind, which has accepted no trailer yet. -/
def session (kind : Nat) : Session := ⟨kind, 7, List.replicate 160 1#8, 0, none⟩

/-- The device in SERVICE with a session. -/
def service : State := { on 0xC with sec := { (on 0xC).sec with sess := some (session 3) } }

/-- A packet with its trailer (R624). -/
def sealed_ (op : Nat) (pl : List Word) : Pkt :=
  let body := pl ++ [5#32]
  let open_ := pkt (body ++ List.replicate 4 0#32)
  pkt (body ++ wordsOf (Config.cmac ((session 3).keys.drop 128 |>.take 32) (bytesOf ((pktWordsOf op open_).take (body.length + 2)))) 4)

theorem sealed_accepted (s : State) (op : Nat) (pl : List Word) (service : Bool) (h : s.sec.sess = some (session 3)) :
    s.trailerReason op (sealed_ op pl) service = none := by
  unfold State.trailerReason
  rw [h]
  have hl : (sealed_ op pl).payload.length = pl.length + 5 := by simp [sealed_, pkt, wordsOf]
  have hd : (sealed_ op pl).payload.drop (pl.length + 5 - 4) =
      wordsOf (Config.cmac ((session 3).keys.drop 128 |>.take 32)
        (bytesOf ((pktWordsOf op (pkt ((pl ++ [5#32]) ++ List.replicate 4 0#32))).take ((pl ++ [5#32]).length + 2)))) 4 := by
    show ((pl ++ [5#32]) ++ _).drop _ = _
    rw [List.drop_append_of_le_length (by simp), List.drop_of_length_le (by simp), List.nil_append]
  have ht : (pktWordsOf op (sealed_ op pl)).take (pl.length + 5 - 2) =
      (pktWordsOf op (pkt ((pl ++ [5#32]) ++ List.replicate 4 0#32))).take ((pl ++ [5#32]).length + 2) := by
    have e1 : pl.length + 5 - 2 = (pl ++ [5#32]).length + 2 := by simp
    rw [e1]
    unfold pktWordsOf
    simp only [hl]
    simp [sealed_, pkt, List.take_append]
  simp only [hl, hd, ht]
  simp [session]

/-! ### Commands: what their statements ask -/

theorem test_meets_SystemCommandsAnswer :
    ready 0x01 (pkt []) (on 2) = true ∧ ready 0x02 (pkt []) (on 3) = true ∧ ready 0x04 (pkt []) (on 0xB) = true ∧
    ready 0x06 (pkt [0xFFFFFFFF#32]) (on 2) = true ∧ ready 0xE4 (pkt []) (on 2) = true := by decide +kernel

theorem test_meets_FrontEndAnswersItself :
    wellSent (pkt (List.replicate 256 9#32)) (on 2) = true ∧ reaches (pkt (List.replicate 256 9#32)) (on 2) = true ∧
    wellSent (pkt []) (on 2) = true ∧ reaches (pkt []) (on 2) = true := by decide +kernel

theorem test_meets_SetModeChangesMode_idle :
    (ready 0x03 (pkt [2#32]) (on 2) = true ∧ (on 2).sys.chg = none) ∧
    (ready 0x03 (pkt [3#32]) (on 2) = true ∧ (modeTargets (on 2).checkMode).contains 3 = true ∧ (on 2).tt.run = false ∧
      (on 2).lnk.test = none ∧ (on 2).lnk.loop = none) ∧
    (ready 0x03 (pkt [7#32, 0x100#32]) (on 2) = true ∧ bits 0x100#32 8 16 ≠ 0) := by decide +kernel

theorem test_meets_SetModeChangesMode_reading :
    (ready 0x03 (pkt [5#32]) (reading 3) = true ∧ (reading 3).tt.run = true ∧ (modeTargets 3).contains 5 = true) ∧
    ready 0x03 (pkt [7#32, 0x100#32]) (reading 3) = true := by decide +kernel

theorem test_meets_SetModeChangesMode_service :
    let s : State := { reading 3 with sec := { (reading 3).sec with sess := some (session 3) } }
    ready 0x03 (sealed_ 0x03 [0xC#32]) s = true ∧ (s.takes 0x03 (sealed_ 0x03 [0xC#32])).trailerReason 0x03 (sealed_ 0x03 [0xC#32]) true = none :=
  ⟨by decide +kernel, sealed_accepted _ _ _ _ rfl⟩

theorem test_meets_SoftResetClearsFrontEnd :
    ready 0x05 (pkt []) (on 3) = true ∧ (on 3).sys.fw = .running ∧ (on 3).sys.takenOver = true ∧ (on 3).canSend = true ∧
    (on 3).fe.waiting = [] ∧ (on 3).fe.events = [] := by decide +kernel

theorem test_meets_RegisterCommandsAnswer :
    (ready 0x10 (pkt [0x0501#32]) (on 2) = true ∧ assigned 0x0501 = true) ∧
    (ready 0x11 (pkt [w32 R.EXP_FLICKER, 0#32]) (on 2) = true ∧ softAsked 0x11 (pkt [w32 R.EXP_FLICKER, 0#32]) = false ∧
      (writeReg R.EXP_FLICKER 0#32 allOnes ((on 2).takes 0x11 (pkt [w32 R.EXP_FLICKER, 0#32]))).1 = .ok) ∧
    (ready 0x12 (pkt [w32 R.EXP_FLICKER, 1#32, 1#32]) (on 2) = true ∧
      (writeReg R.EXP_FLICKER 1#32 1#32 ((on 2).takes 0x12 (pkt [w32 R.EXP_FLICKER, 1#32, 1#32]))).1 = .ok) ∧
    (ready 0x13 (pkt [0x05FF#32, 1#32]) (on 2) = true ∧ 0x05FF % 256 + 1 ≤ 256) ∧
    (ready 0x14 (pkt [w32 R.EXP_FLICKER, 0#32]) (on 2) = true ∧
      (writeRun [0#32] R.EXP_FLICKER 0 ((on 2).takes 0x14 (pkt [w32 R.EXP_FLICKER, 0#32]))).1 = none) := by decide +kernel

theorem test_meets_RegisterCommandsAnswer_windows :
    (ready 0x15 (pkt [0x0601#32, 63#32, 0#32]) (on 2) = true ∧ readOnlyWindow 0x0601 = false ∧ windowWords 0x0601 = some 64 ∧
      (windowWrite 0x0601 63 [0#32] ((on 2).takes 0x15 (pkt [0x0601#32, 63#32, 0#32]))).1 = .ok) ∧
    (ready 0x15 (pkt [0x0001#32, 126#32, 0#32]) (on 2) = true ∧ (on 2).checkMode = 2) ∧
    (ready 0x16 (pkt [0x0001#32, 0#32, 128#32]) (on 2) = true ∧
      (windowRead 0x0001 0 128 ((on 2).takes 0x16 (pkt [0x0001#32, 0#32, 128#32]))).1.isSome = true) := by decide +kernel
/-! ### Timetable and Exposure -/
/-- A template of one span of rows and a commit event, to load. -/
def template : Pkt := pkt [0x30000#32, w32 (4160 + 2 * 65536), w32 (2 ^ 21), w32 (1036 * 8192), w32 (10 * 2 ^ 21), 0#32]
/-- The settings with one list entry, of context 0. -/
def listed (mode : Nat) : State :=
  ((on mode).setRun (wkey 0x0600 0) [w32 (0xF + 4 * 16), 43936#32]).setRun (wkey 0x0601 0) [0x10000#32] |>.wr F.SEQ_STAT_LEN 1
/-- A sequence that runs. -/
def sequence_ : State := { reading 6 with exp := { (reading 6).exp with seq := some ⟨100, 0xFFFF, [], 101, 0, 0, 0, 43936, none, false, false, []⟩ } }
theorem test_meets_TimetableCommandsAnswer :
    (ready 0x17 (pkt []) (on 3) = true ∧ (on 3).pend = none ∧ (on 3).commitReason = none) ∧
    (let s := on 3; let k := pkt [20000000#32, 0#32]; let u := s.takes 0x20 k;
      let windows := maskCount (vMask s.staged); let vt := vtFill 20000000 windows; let rp := rpMinRaw windows;
      let t := ((u.stage R.TT_RP (w32 rp)).stageF F.TT_VTOTAL_VTOTAL vt).stage (wkey widTpl 0) 0#32;
      ready 0x20 k s = true ∧ rpTooLong rp = false ∧ vVmin s.staged ≤ vt ∧ vt ≤ 65535 ∧ stagedReason t = none) ∧
    (let s := on 3; let k := pkt [16666667#32, 0x10000#32]; let u := s.takes 0x20 k;
      let windows := maskCount (vMask s.staged); let vt := vVmin s.live; let rp := rpFill 16666667 vt;
      let t := ((u.stage R.TT_RP (w32 rp)).stageF F.TT_VTOTAL_VTOTAL vt).stage (wkey widTpl 0) 0#32;
      ready 0x20 k s = true ∧ rpMinRaw windows ≤ rp ∧ rpTooLong rp = false ∧ vVmin s.staged ≤ vt ∧ vt ≤ 65535 ∧ stagedReason t = none) ∧
    (ready 0x21 (pkt [0#32, 0#32, 0#32, 0#32]) (on 3) = true ∧ (on 3).sys.chg = none ∧ (on 3).isOpen 0x21 = false ∧
      (on 3).checkMode ≠ 0x4) ∧
    (ready 0x21 (pkt [w32 (1 + 256 + 4160 * 65536), 256410#32, w32 (4160 * 65536), 0#32]) (on 3) = true) ∧
    (2000 * (16 * rpRaw (on 3).live * 25 * 2 ^ 0 * vVtotal (on 3).live - 524288 * (4160 * 256410)) ≤ 16 * rpRaw (on 3).live * 25 * 2 ^ 0 * vVtotal (on 3).live ∧ 524288 * (4160 * 256410) < 16 * rpRaw (on 3).live * 25 * 2 ^ 0 * vVtotal (on 3).live ∧ 16 * rpMinRaw (maskCount (vMask (on 3).live)) * 25 * 2 ^ 0 * vVtotal (on 3).live ≤ 524288 * (4160 * 256410) ∧ excursionBad (on 3).staged = false) ∧
    (ready 0x22 (pkt []) (on 0xD) = true) ∧
    (ready 0x23 (pkt [w32 (0x10000 + 251), 0#32, 0#32, 0#32]) (on 3) = true) ∧
    (ready 0x23 template (on 3) = true ∧ (stageTemplate widTplLoad ((((on 3).takes 0x23 template).setRun (wkey widTplLoad 0) (pw template 1 :: List.replicate 512 0#32)).setRun (wkey widTplLoad 1) (template.payload.drop 2))).1 = .ok) ∧
    (ready 0x24 (pkt [0#32]) (on 3) = true) ∧
    (16 * (2745 - 0 + 1) ≤ vTl (on 3).staged ∧ ready 0x24 (pkt [1#32, w32 (2745 * 8192)]) (on 3) = true) ∧
    (ready 0x24 (pkt [2#32, 0#32, 100#32]) (on 3) = true ∧ entPos 0#32 = 0 ∧ entPos 100#32 < (vVtotal (on 3).staged : Int) ∧
      -(vVtotal (on 3).staged : Int) ≤ entPos 100#32) := by decide +kernel

theorem test_meets_ExposureCommandsAnswer :
    (ready 0x30 (pkt [0#32, 0#32, 0#32, 0#32]) (on 3) = true) ∧
    (let k := pkt [10000000#32, 0x10000#32]; ready 0x31 k (on 3) = true ∧ (on 3).checkMode ≠ 6 ∧ (on 3).aeOn = false ∧
      256 ≤ (on 3).slotsOfNs 10000000 ∧ (on 3).slotsOfNs 10000000 ≤ 1048560 ∧
      stagedReason (((on 3).takes 0x31 k).stageF F.EXP_TL_SLOTS ((on 3).slotsOfNs 10000000)) = none) ∧
    (let k := pkt [0#32, 0x80010000#32]; ready 0x31 k (on 3) = true ∧ (on 3).pend = none ∧ stagedReason ((on 3).takes 0x31 k) = none) ∧
    (let k := pkt [4#32, 0xC00D80#32, 0xC00D80#32, 0xC00D80#32, 0#32]; let u := (on 3).takes 0x32 k;
      let t := ((((u.stage R.EXP_RATIO (ratioWord (pw k 0))).stage R.EXP_MTH_HCG (keepMask (pw k 1) 0xFF0FFF)).stage (R.EXP_MTH_HCG + 1) (keepMask (pw k 2) 0xFF0FFF)).stage (R.EXP_MTH_HCG + 2) (keepMask (pw k 3) 0xFF0FFF)).stage R.EXP_MOTION (keepMask (pw k 4) 0x7FF);
      ready 0x32 k (on 3) = true ∧ stagedReason t = none ∧ ([1, 2, 3].all (fun i => decide (pf k i 0 12 ≤ 3839 ∧
      pf k i 16 8 ≤ pf k i 0 12))) = true) ∧
    (let k := pkt [15#32, w32 (0xF + 4 * 16), 43936#32]; ready 0x33 k (on 3) = true ∧ (on 3).exp.seq = none ∧
      ctxReason (on 3).staged (ctxWords (((on 3).takes 0x33 k).setRun (wkey 0x0600 30) [w32 (0xF + 4 * 16), 43936#32]).live 15) (on 3).seqTlRef = none) ∧
    (ready 0x34 (pkt [w32 (0x30000 + 63), 0x1000F#32]) (on 3) = true) ∧
    (let s := listed 3; ready 0x35 (pkt [0#32, 0xFFFF#32]) s = true ∧ s.checkMode = 3 ∧ s.exp.seq = none ∧ s.pend = none ∧
      0 < (seqList s.live).length ∧
      listReason s s.staged s.takenView s.effBefore (seqList s.live) 0 0xFFFF (s.tlRef s.takenView) = none) ∧
    (ready 0x36 (pkt [2#32]) sequence_ = true ∧ (sequence_.exp.seq.map (fun r => (r.trig, r.back))) = some (false, false)) ∧
    (let s : State := { sequence_ with exp := { sequence_.exp with seq := sequence_.exp.seq.map (fun r => { r with back := true }) } };
      ready 0x36 (pkt [2#32]) s = true ∧ (s.exp.seq.map (fun r => (r.trig, r.back))) = some (false, true)) ∧
    (ready 0x37 (pkt [0#32]) (on 3) = true) := by decide +kernel

/-! ### Seating Plan, Windows and the Bell, Pipelines -/
/-- A kept map. -/
def mapped : State := { on 3 with sp := { (on 3).sp with maps := [(99, [])] } }
/-- A device with a companion profile that is in range. -/
def profiled : State :=
  let s := (on 3).setRun (wkey 0x0B00 0) [0#32, 0#32, w32 (16 + 16 * 65536), 0#32, 6000#32, 0#32, 0#32, 0#32, 0x80000#32]
  { s with pb := { s.pb with profOk := true } }
/-- Pipeline B in service, its bus in use or idle. -/
def served (now : I2cNow) : State :=
  let s := profiled.wr F.PB_CTRL_EN 1
  { s with pb := { s.pb with state := 4, step := 0, now := now, line := 1000000 } }
theorem test_meets_SeatingCommandsAnswer :
    (ready 0x40 (pkt [1#32]) (on 3) = true) ∧
    (ready 0x41 (pkt [w32 (3839 * 65536 + 0xFF), 4#32, 0#32]) (on 3) = true ∧ pf (pkt [w32 (3839 * 65536 + 0xFF)]) 0 16 12 = 3839) ∧
    (ready 0x42 (pkt [0#32, 0#32, 0x100#32]) (on 3) = true) ∧
    (ready 0x42 (pkt [w32 (1023 + 1023 * 65536), w32 (1 + 65536), 0#32]) (on 3) = true) ∧
    (ready 0x43 (pkt [0xF2#32]) (on 3) = true) ∧
    (ready 0x44 (pkt [0#32, w32 (1023 + 1023 * 65536), 1#32]) mapped = true ∧ mapped.sp.maps[0]?.isSome = true) ∧
    (ready 0x44 (pkt [0x100#32, 0#32, 1020#32]) mapped = true ∧ ready 0x44 (pkt [0#32, 0#32, 2040#32]) mapped = true) := by decide +kernel

/-- A device with a frame period. -/
def paced : State := { on 3 with tt := { (on 3).tt with period := 20000000 } }
theorem test_meets_WindowCommandsAnswer :
    (let s := paced; let k := pkt [15#32, 0#32, w32 (1024 + 1024 * 65536), 0#32]; let u := s.takes 0x50 k;
      let t := ((u.stage (winAddr 15 0) (keepMask (pw k 1) 0x3FF03FF)).stage (winAddr 15 1) (keepMask (pw k 2) 0x7FF07FF)).stage
        (winAddr 15 2) (keepMask (pw k 3) 0x3F ||| 1#32);
      ready 0x50 k s = true ∧ (winChange t 15).isRight = true) ∧
    (let u := paced.takes 0x51 (pkt [0xFF#32]); let off := fun (t : State) (n : Nat) => t.stage (winAddr n 2) (clearMask (t.staged (winAddr n 2)) 1);
      ready 0x51 (pkt [0xFF#32]) paced = true ∧ (winChange (((List.range 16).drop 1).foldl off u) 0).isRight = true) ∧
    (let u := paced.takes 0x51 (pkt [15#32]);
      ready 0x51 (pkt [15#32]) paced = true ∧ (winChange (u.stage (winAddr 15 2) (clearMask (u.staged (winAddr 15 2)) 1)) 15).isRight = true) ∧
    (let u := paced.takes 0x52 (pkt [0#32]); ready 0x52 (pkt [0#32]) paced = true ∧ (binChange (u.stage R.WIN_BIN 0#32)).isRight = true) ∧
    (ready 0x53 (pkt [0#32]) (on 3) = true ∧ (on 3).bel.busy = false ∧ (on 3).bel.queue = none) ∧
    (let s := (on 5).wr F.BEL_CFG_SRC 2; let k := pkt [1#32, 0#32]; wellSent k s = true ∧ reaches k s = true ∧ s.fe.held = [] ∧
      (s.rd F.BEL_CFG_SRC).testBit 1 = true ∧ s.bel.sched = none ∧ s.tt.tb < 1) ∧
    (let s := (on 5).wr F.BEL_CFG_SRC 2; let k := pkt [0#32, 0#32]; wellSent k s = true ∧ reaches k s = true ∧ s.bel.busy = false ∧
      s.bel.raised = none ∧ s.bel.sched = none) := by decide +kernel

theorem test_meets_PipelineCommandsAnswer :
    (ready 0x60 (pkt [0#32, 0#32, 0#32, 0#32]) (on 3) = true ∧ (on 3).lenReason 0 = none) ∧
    (ready 0x60 (pkt [0#32, 0#32, 0#32, 256#32]) (on 3) = true ∧ (on 3).dgainBad 256 = false) ∧
    (ready 0x64 (pkt [256#32, 0#32]) (on 3) = true ∧ ready 0x64 (pkt [0x10000#32, 0#32]) (on 3) = true ∧ (on 3).tonePending = false) ∧
    (let s := (on 3).stageF F.PA_CTRL_AWB_EN 1; ready 0x65 (pkt (List.replicate 8 0#32)) s = true ∧ vtst s.staged F.PA_CTRL_AWB_EN = true) ∧
    (ready 0x65 (pkt (List.replicate 8 0#32)) (on 3) = true ∧ vtst (on 3).staged F.PA_CTRL_AWB_EN = false) ∧
    (ready 0x66 (pkt [0x1000#32]) (on 3) = true ∧ tnrBad 0x1000#32 = false) ∧
    (let k := pkt [0#32, 0#32, 16#32]; let t := (((on 3).takes 0x61 k).stage R.PB_CTRL 0#32 |>.stage R.PB_OUT 0#32).stage R.PB_DGAIN 16#32;
      ready 0x61 k (on 3) = true ∧ (on 3).outSizeBad 0#32 = false ∧ t.rateReason = none ∧ bit 0#32 0 = (on 3).tst F.PB_CTRL_EN) ∧
    (let k := pkt [1#32, 0#32, 0#32]; let t := ((profiled.takes 0x61 k).stage R.PB_CTRL 0#32).stage R.PB_OUT 0#32;
      ready 0x61 k profiled = true ∧ profiled.outSizeBad 0#32 = false ∧ t.rateReason = none ∧
      bit 1#32 0 = (!profiled.tst F.PB_CTRL_EN) ∧ (pbEnable true (some 1) t).1 = .ok) ∧
    (ready 0x62 (pkt [w32 (511 + 0x10000), 0#32]) (on 3) = true ∧ (on 3).tst F.PB_CTRL_EN = false) ∧
    (let k := pkt [0x20000#32, 0#32]; let u := profiled.takes 0x62 k;
      let t := State.setRun { u with pb := { u.pb with profOk := false } } (wkey 0x0B00 0) [0#32];
      ready 0x62 k profiled = true ∧ (profCheck t).1 = .ok) ∧
    (let k := pkt [1#32, 0#32, 0#32, 0#32, 0#32]; ready 0x63 k (served .job) = true ∧ ready 0x63 k (served .idle) = true ∧
      (served .job).pb.now ≠ .idle) ∧
    (let k := pkt [2#32, 0#32, 0#32, 0#32, 0#32]; ready 0x63 k (served .idle) = true ∧
      (match (writeSet k [i2cReg 0#32 0#32] ((served .idle).takes 0x63 k)).1 with | .accepted _ => true | _ => false) = true) ∧
    (let w := w32 (64 * 4096 + 64 * 524288); ready 0x68 (pkt [0xF#32, w]) (on 3) = true ∧ roiBad w = false ∧
      ((((on 3).takes 0x68 (pkt [0xF#32, w])).stage R.STA_CFG 0xF#32).stage R.STA_ROI (keepMask w 0x03FFFFFF)).rateReason = none) ∧
    (let s := { on 3 with pix := { (on 3).pix with bclosed := [(99, [])] } }; ready 0x69 (pkt [0x40#32, 257#32, 255#32]) s = true ∧
      257 + 255 ≤ partWords 4 ∧ (s.statPart 0 4).isSome = true) := by decide +kernel

/-! ### Outputs, Link, Power -/
theorem test_meets_OutputCommandsAnswer :
    (ready 0x70 (pkt [1#32]) (on 3) = true ∧ outReason (((on 3).takes 0x70 (pkt [1#32])).stage R.OUT_ROUTE 1#32) = none) ∧
    (let k := pkt [0#32, 0#32, 0#32, 0#32]; let t := ((((on 3).takes 0x71 k).stage R.OUT_DFMT 0#32).stage R.OUT_DSIZE 0#32).stage R.OUT_CROP0 0#32;
      ready 0x71 k (on 3) = true ∧ outReason (t.stage R.OUT_CROP1 0#32) = none) ∧
    (ready 0x72 (pkt [4224#32, 0#32]) (on 3) = true ∧ ready 0x72 (pkt [0x20000#32, 0#32]) (on 3) = true ∧ (on 3).meshPending = false ∧
      (on 3).checkMode ≠ 4) ∧
    (let w := (on 3).staged R.OUT_CODE; ready 0x73 (pkt [w]) (on 3) = true ∧
      outReason (((on 3).takes 0x73 (pkt [w])).stage R.OUT_CODE (keepMask w 0x7F7F)) = none) ∧
    (let w := (on 3).staged R.OUT_VIS; ready 0x74 (pkt [w]) (on 3) = true ∧ pf (pkt [w]) 0 3 2 ≠ 2 ∧
      outReason (((on 3).takes 0x74 (pkt [w])).stage R.OUT_VIS (keepMask w 0x7FFF)) = none) ∧
    (let w := putBits ((on 3).staged R.OUT_VIS) 3 2 2; let ws := (List.range 17).map (fun i => w32 (255 * i)); let k := pkt (w :: ws);
      ready 0x74 k (on 3) = true ∧ k.payload.length = 18 ∧ outReason ((((on 3).takes 0x74 k).stage R.OUT_VIS (keepMask w 0x7FFF)).stageRun (wkey 0x0D01 0) (ws.map (fun w => keepMask w 0xFFFF))) = none) ∧
    (ready 0x75 (pkt [0x1B#32]) (on 3) = true ∧ prioOk 0x1B#32 = true) := by decide +kernel

theorem test_meets_LinkCommandsAnswer :
    (ready 0x80 (pkt []) (on 2) = true ∧ ready 0x85 (pkt [9#32]) (on 2) = true) ∧
    (let s := on 2; let cfg := putBits (s.reg R.LNK_CFG) 0 2 0; ready 0x81 (pkt [0#32]) s = true ∧ s.lnk.prevCfg = none ∧
      s.lnk.test = none ∧ s.lnk.loop = none ∧ bits cfg 0 2 ≠ 3 ∧ bits cfg 4 4 ≠ 0 ∧ mapPerm (bits cfg 16 8) = true ∧
      s.bandwidthOk s.staged (bits cfg 0 2) (bits cfg 4 4) = true) ∧
    (let s := on 2; let k := pkt [w32 (0xF0 + 0xE4 * 65536)]; let cfg := putBits (keepMask (pw k 0) 0xFF0FF0) 0 2 (s.rd F.LNK_CFG_RATE); ready 0x82 k s = true ∧ bits cfg 0 2 ≠ 3 ∧ bits cfg 4 4 ≠ 0 ∧ mapPerm (bits cfg 16 8) = true ∧
      s.bandwidthOk s.staged (bits cfg 0 2) (bits cfg 4 4) = true) ∧
    (let k := pkt [0x10#32]; ready 0x83 k (on 2) = true ∧ ((List.range 4).foldl (ffeLane k) ((on 2).takes 0x83 k)).lnk.ffeNext.all (fun p => !((List.range 4).foldl (ffeLane k) ((on 2).takes 0x83 k)).lnk.active.testBit p.1) = true) ∧
    (let k := pkt [0x2F#32, 0#32]; ready 0x83 k (on 2) = true ∧ ffeOk 0 0 = true ∧
      ((List.range 4).foldl (ffeLane k) ((on 2).takes 0x83 k)).lnk.ffeNext.all (fun p => !((List.range 4).foldl (ffeLane k) ((on 2).takes 0x83 k)).lnk.active.testBit p.1) = false) ∧
    (ready 0x84 (pkt [w32 (1 + 4 * 1024), 1#32]) (on 9) = true ∧ (on 9).lnk.test = none) ∧
    (ready 0x86 (pkt [1#32, 1#32]) (on 9) = true ∧ ready 0x86 (pkt [2#32, 0#32]) (on 9) = true ∧
      ready 0x86 (pkt [0#32, 0#32]) (on 9) = true ∧ (on 9).lnk.loop = none) := by decide +kernel

theorem test_meets_PowerCommandsAnswer :
    (ready 0x90 (pkt []) (on 2) = true) ∧
    (let code := roundUp (2 * (850 - 600)) 5; ready 0x91 (pkt [0#32, 850#32]) (on 2) = true ∧ (on 2).rd F.PWR_CORE_VMIN ≤ code ∧
      code ≠ (on 2).rd F.PWR_CORE_VSET) ∧
    (let s := (on 2).wr F.PWR_CORE_VSET 100; ready 0x91 (pkt [0#32, 850#32]) s = true ∧
      s.rd F.PWR_CORE_VMIN ≤ roundUp (2 * (850 - 600)) 5 ∧ roundUp (2 * (850 - 600)) 5 = s.rd F.PWR_CORE_VSET ∧
      (∀ c ∈ s.pwr.cmds, c.rail ≠ 0)) ∧
    (ready 0x91 (pkt [0x106#32, 3300#32]) (on 2) = true ∧ (on 2).tst F.PWR_VCMP_OWNER = false ∧ (on 2).pwr.vcmpOn = false) ∧
    (let s : State := { (on 2).wr F.PWR_VCMP_CODE 210 with pwr := { (on 2).pwr with vcmpOn := true } };
      ready 0x91 (pkt [0x106#32, 3300#32]) s = true ∧ s.pwr.vcmpOn = true ∧ roundUp (3300 - 1200) 10 = s.rd F.PWR_VCMP_CODE ∧
      (∀ c ∈ s.pwr.cmds, c.rail ≠ 6)) ∧
    (ready 0x91 (pkt [6#32, 0#32]) (on 2) = true) ∧
    (ready 0x92 (pkt [w32 (31 * 256), 0#32]) (on 2) = true) ∧
    (let w := (on 2).reg (wkey 0x1100 0); let k := pkt [0x10000#32, w];
      let t := ((on 2).takes 0x92 k).setRun (wkey 0x1100 0) [keepMask w 0x3FFF]; ready 0x92 k (on 2) = true ∧
      seqReason (t.seqStaged 0) (t.seqStaged 1) ((on 2).tst F.THM_HTR_EN) = none) ∧
    (ready 0x93 (pkt [w32 (31 * 256 + 65536)]) (on 2) = true ∧ ready 0x93 (pkt [w32 (0x1000000 + 32 * 65536)]) (on 2) = true) ∧
    (let w := (on 2).reg R.THM_CFG; ready 0x94 (pkt [w]) (on 2) = true ∧ thmCfgBad w = false) ∧
    (let s := { on 2 with thm := { (on 2).thm with state := 1 } }; ready 0x95 (pkt [0#32]) s = true ∧
      ready 0x95 (pkt [1#32]) s = true ∧ s.thm.extended = false) ∧
    (let w := (on 2).reg R.THM_HTR; ready 0x96 (pkt [w]) (on 2) = true ∧ heaterBad w = false) ∧
    (ready 0x97 (pkt [w32 (10 * 256)]) (on 2) = true) := by decide +kernel

theorem test_meets_PowerCommandsAnswer_clear :
    ready 0x98 (sealed_ 0x98 []) service = true ∧ service.trailerReason 0x98 (sealed_ 0x98 []) true = none :=
  ⟨by decide +kernel, sealed_accepted _ _ _ _ rfl⟩
/-! ### OTP, Security, Recorder, Firmware -/
/-- SERVICE with a session, the supplies and the temperature right for programming, and a signing key in slot 0. -/
def programmer : State :=
  { service with
    hk := { service.hk with codes := [(69, 3300), (68, 3600)] },
    otp := { service.otp with sel := ((List.replicate 1024 0#32).set 66 1#32).set 90 1#32 } }
/-- A medium mounted, with a clip. -/
def mounted (mode : Nat) : State :=
  { on mode with rec_ := { (on mode).rec_ with mount := 2, superblock := true, units := 1000, clips := [⟨List.replicate 16 0#32, [0], []⟩] } }
/-- A command of SERVICE with its trailer is taken, and its trailer accepted. -/
theorem trailer_accepted (op : Nat) (pl : List Word) (s : State) (service : Bool) (h : ready op (sealed_ op pl) s = true)
    (hs : s.sec.sess = some (session 3)) :
    ready op (sealed_ op pl) s = true ∧ s.trailerReason op (sealed_ op pl) service = none :=
  ⟨h, sealed_accepted s op pl service hs⟩
theorem test_meets_OtpCommandsAnswer :
    (ready 0xA0 (pkt [1023#32, 1#32]) (on 2) = true ∧ (on 2).readLocked 1023 = false) ∧
    (let s : State := { on 2 with otp := { (on 2).otp with sel := List.replicate 1024 0#32 } }; s.otpDeviates 1023 = false) ∧
    (ready 0xA4 (pkt []) (on 2) = true) ∧
    (programmer.otp.job = none ∧ programmer.supplyOk = true ∧ notTarget 1015 = false ∧ programmer.writeLocked 1015 = false ∧
      programmer.conflicts 1015 1#32 = false) ∧
    (programmer.tst F.OTP_LOCK_PROG_DIS = false ∧ programmer.tst F.OTP_LOCK_CNT_WL = false ∧ bit (programmer.otp.value 127) 2 = false ∧
      bit (programmer.otp.value 127) 3 = false ∧ bit (programmer.otp.value 1016) 15 = false) ∧
    (programmer.rd F.OTP_FW_VERSION_VALUE < 128 ∧ programmer.rd F.OTP_KEY_EPOCH_VALUE < 16 ∧
      (programmer.rd F.OTP_KEY_EPOCH_REVOKE ||| 2).testBit programmer.saf.slot = false ∧
      programmer.slotUsable 0 0 (programmer.rd F.OTP_KEY_EPOCH_REVOKE ||| 2) = true ∧
      (programmer.rd F.OTP_KEY_EPOCH_REVOKE ||| 2) ≠ programmer.rd F.OTP_KEY_EPOCH_REVOKE) := by decide +kernel

theorem test_meets_OtpCommandsAnswer_program :
    ready 0xA1 (sealed_ 0xA1 [1015#32, 1#32]) programmer = true ∧
      programmer.trailerReason 0xA1 (sealed_ 0xA1 [1015#32, 1#32]) true = none :=
  trailer_accepted _ _ _ _ (by decide +kernel) rfl
theorem test_meets_OtpCommandsAnswer_lock :
    (ready 0xA2 (sealed_ 0xA2 [0x102#32]) programmer = true ∧
      programmer.trailerReason 0xA2 (sealed_ 0xA2 [0x102#32]) true = none) ∧
    (ready 0xA2 (sealed_ 0xA2 [0x1F#32]) programmer = true ∧
      programmer.trailerReason 0xA2 (sealed_ 0xA2 [0x1F#32]) true = none) :=
  ⟨trailer_accepted _ _ _ _ (by decide +kernel) rfl, trailer_accepted _ _ _ _ (by decide +kernel) rfl⟩
/-- A device whose firmware has SVN 128. -/
def newest : State := { programmer with saf := { programmer.saf with svn := 128 } }
theorem test_meets_OtpCommandsAnswer_count :
    (ready 0xA3 (sealed_ 0xA3 [0#32, 128#32]) newest = true ∧ newest.trailerReason 0xA3 (sealed_ 0xA3 [0#32, 128#32]) true = none) ∧
    (ready 0xA3 (sealed_ 0xA3 [1#32, 16#32]) newest = true ∧ newest.trailerReason 0xA3 (sealed_ 0xA3 [1#32, 16#32]) true = none) ∧
    (ready 0xA3 (sealed_ 0xA3 [2#32, 2#32]) newest = true ∧ newest.trailerReason 0xA3 (sealed_ 0xA3 [2#32, 2#32]) true = none) :=
  ⟨trailer_accepted _ _ _ _ (by decide +kernel) rfl, trailer_accepted _ _ _ _ (by decide +kernel) rfl,
    trailer_accepted _ _ _ _ (by decide +kernel) rfl⟩
/-- A device that can authenticate, a frame being read. -/
def entitled : State := (reading 3).wr F.SEC_STAT_RNG_OK 1
theorem test_meets_SecurityCommandsAnswer :
    (ready 0xB0 (pkt (List.replicate 17 0#32)) entitled = true ∧ entitled.tst F.SEC_STAT_ERASED = false ∧
      entitled.tst F.SEC_STAT_RNG_OK = true) ∧
    (let s := programmer.wr F.SEC_STAT_RNG_OK 1; s.tst F.SEC_STAT_ERASED = false ∧ s.tst F.SEC_STAT_RNG_OK = true ∧
      s.otpCodeState 2 = 0 ∧ s.tst F.OTP_LOCK_RS_WL = false ∧ s.tst F.OTP_LOCK_PROG_DIS = false ∧ s.supplyOk = true) ∧
    (let s : State := { entitled with sec := { entitled.sec with hand := some ⟨0, 1, [], [], [], none, 0, false⟩ } };
      ready 0xB1 (pkt (List.replicate 6 0#32)) s = true ∧ s.sec.finish = none ∧ s.sec.hand.isSome = true) ∧
    (let s : State := { entitled with sec := { entitled.sec with hand := some ⟨1, 1, [], [], [], none, 0, false⟩ } };
      ready 0xB1 (pkt (0#32 :: 1#32 :: List.replicate 36 0#32)) s = true) ∧
    (ready 0xB3 (pkt [1#32, 0#32, 0#32, 0#32, 0#32]) entitled = true ∧ entitled.sec.arrivals = []) ∧
    (ready 0xB4 (pkt [w32 4, 0#32, 0#32, 0#32, w32 (1023 + 1023 * 65536)]) entitled = true ∧ entitled.tt.run = true ∧
      entitled.isOpen 0xB4 = false ∧ inWindow entitled.live 1023 1023 = true ∧ inWindow entitled.live 0 0 = true ∧
      entitled.bondFailed 1023 1023 = false ∧ entitled.bondFailed 0 0 = false) ∧
    (ready 0xB5 (pkt []) (on 2) = true) := by decide +kernel

theorem test_meets_SecurityCommandsAnswer_provision :
    let s := programmer.wr F.SEC_STAT_RNG_OK 1
    ready 0xB0 (sealed_ 0xB0 [1#32]) s = true ∧ s.trailerReason 0xB0 (sealed_ 0xB0 [1#32]) true = none :=
  trailer_accepted _ _ _ _ (by decide +kernel) rfl
theorem test_meets_SecurityCommandsAnswer_sealed :
    (ready 0xB2 (sealed_ 0xB2 [0x200#32]) service = true ∧ service.trailerReason 0xB2 (sealed_ 0xB2 [0x200#32]) false = none) ∧
    (ready 0xB2 (sealed_ 0xB2 [0x10F#32]) service = true ∧ service.trailerReason 0xB2 (sealed_ 0xB2 [0x10F#32]) false = none) ∧
    (ready 0xB6 (sealed_ 0xB6 [0x1FF#32]) service = true ∧ service.trailerReason 0xB6 (sealed_ 0xB6 [0x1FF#32]) true = none) :=
  ⟨trailer_accepted _ _ _ _ (by decide +kernel) rfl, trailer_accepted _ _ _ _ (by decide +kernel) rfl,
    trailer_accepted _ _ _ _ (by decide +kernel) rfl⟩
theorem test_meets_RecorderCommandsAnswer :
    (ready 0xC0 (pkt [0#32]) (on 3) = true ∧ (on 3).rec_.mount ≠ 1) ∧
    (let w := (on 3).reg R.REC_CFG; ready 0xC1 (pkt [w, w32 (60000 + 60000 * 65536)]) (on 3) = true ∧
      bits w 4 6 = (on 3).rd F.REC_CFG_CB_MB ∧ 1 ≤ bits w 4 6 ∧ bits w 4 6 ≤ 32 ∧ 1 ≤ bits w 16 6 ∧ bits w 16 6 ≤ 40 ∧
      bit w 1 = false ∧ bit w 0 = (on 3).tst F.REC_CFG_EN) ∧
    (let c : OpenClip := ⟨5, 0, false, 0#32, 100, 0, 0, 100, 110, 200, [], false, 0, true⟩;
      let s : State := { mounted 3 with rec_ := { (mounted 3).rec_ with opens := [c] } }; ready 0xC2 (pkt [0#32, 0#32]) s = true ∧
      (s.rec_.opens.find? (fun c => c.post)).isSome = true) ∧
    (ready 0xC2 (pkt [1#32, 0#32]) (mounted 3) = true ∧ (State.recEvent ((mounted 3).takes 0xC2 (pkt [1#32, 0#32])) 0 true 0#32 [] true).1.1.isSome = true) ∧
    (ready 0xC3 (pkt [65528#32, 8#32]) (mounted 3) = true ∧ (mounted 3).rec_.mount = 2) ∧
    (ready 0xC4 (pkt [0#32, 0#32, 0#32]) (mounted 3) = true ∧ (mounted 3).emmcHeld = false ∧
      ((mounted 3).rec_.clips.find? (fun c => c.id == 0)).isSome = true) ∧
    (let t : State := { mounted 3 with rec_ := { (mounted 3).rec_ with reading := some ⟨1, []⟩ } };
      t.bandwidthOk t.staged (t.rd F.LNK_CFG_RATE) (t.rd F.LNK_CFG_LANES) = true) ∧
    (ready 0xC6 (pkt []) (mounted 3) = true ∧ (mounted 3).rec_.unmountTag = none) := by decide +kernel

/-- A medium mounted and a session open. -/
def trusted : State := { mounted 3 with sec := { (mounted 3).sec with sess := some (session 3) } }
theorem test_meets_RecorderCommandsAnswer_sealed :
    (ready 0xC0 (sealed_ 0xC0 [1#32]) trusted = true ∧ trusted.trailerReason 0xC0 (sealed_ 0xC0 [1#32]) true = none) ∧
    (ready 0xC1 (sealed_ 0xC1 [0x280102#32, 0#32]) trusted = true ∧
      trusted.trailerReason 0xC1 (sealed_ 0xC1 [0x280102#32, 0#32]) true = none) ∧
    bits 0x280102#32 16 6 = 40 ∧
    (ready 0xC5 (sealed_ 0xC5 [0x10000#32, 65536#32]) trusted = true ∧
      trusted.trailerReason 0xC5 (sealed_ 0xC5 [0x10000#32, 65536#32]) true = none) :=
  ⟨trailer_accepted _ _ _ _ (by decide +kernel) rfl, trailer_accepted _ _ _ _ (by decide +kernel) rfl, by decide +kernel,
    trailer_accepted _ _ _ _ (by decide +kernel) rfl⟩
theorem test_meets_RecorderCommandsAnswer_erase :
    trusted.rec_.clips.filter (fun c => decide (0 ≤ c.id) && decide (c.id < 0 + 65536)) ≠ [] ∧
    trusted.tst F.REC_CFG_RING = false ∧ trusted.emmcHeld = false ∧
    (trusted.rd F.REC_CFG_CB_MB = 16 ∧ trusted.tst F.REC_CFG_EN = false) := by decide +kernel
theorem test_meets_FirmwareCommandsAnswer :
    (ready 0xD2 (pkt []) service = true ∧ service.isOpen 0xD2 = false) ∧
    (ready 0xD4 (pkt []) (on 2) = true ∧ ready 0xE0 (pkt [0xF#32]) (on 2) = true ∧ (on 2).saf.selftest = none) ∧
    (ready 0xE1 (pkt []) (on 2) = true ∧ ready 0xE2 (pkt [0x1FFFFF#32]) (on 2) = true ∧ ready 0xE3 (pkt [0#32]) (on 2) = true ∧
      ready 0xE3 (pkt [1#32]) (on 2) = true) := by decide +kernel

/-- An image being staged. -/
def staging (stage : Nat) : State := { service with saf := { service.saf with stage := stage, target := 1, total := 4, offset := 0 } }
theorem test_meets_FirmwareCommandsAnswer_stage :
    (ready 0xD0 (sealed_ 0xD0 [1#32, 8388864#32]) service = true ∧
      service.trailerReason 0xD0 (sealed_ 0xD0 [1#32, 8388864#32]) true = none) ∧
    (ready 0xD1 (sealed_ 0xD1 [0#32, 7#32]) (staging 1) = true ∧ (staging 1).trailerReason 0xD1 (sealed_ 0xD1 [0#32, 7#32]) true = none) ∧
    (service.saf.switching = none ∧ 1 ≠ service.sys.image ∧ (staging 1).saf.offset + 4 ≤ (staging 1).saf.total + 3) :=
  ⟨trailer_accepted _ _ _ _ (by decide +kernel) rfl, trailer_accepted _ _ _ _ (by decide +kernel) rfl, by decide +kernel⟩
theorem test_meets_FirmwareCommandsAnswer_switch :
    (ready 0xD3 (sealed_ 0xD3 [3#32]) (staging 2) = true ∧ (staging 2).trailerReason 0xD3 (sealed_ 0xD3 [3#32]) true = none) ∧
    (ready 0xD3 (sealed_ 0xD3 [2#32]) (staging 2) = true ∧ (staging 2).trailerReason 0xD3 (sealed_ 0xD3 [2#32]) true = none) ∧
    (ready 0xD3 (sealed_ 0xD3 [0#32]) (staging 2) = true ∧ (staging 2).trailerReason 0xD3 (sealed_ 0xD3 [0#32]) true = none) :=
  ⟨trailer_accepted _ _ _ _ (by decide +kernel) rfl, trailer_accepted _ _ _ _ (by decide +kernel) rfl,
    trailer_accepted _ _ _ _ (by decide +kernel) rfl⟩
/-! ### Events: what their statements ask -/
/-- A device in reset, all its rails up. -/
def held_ : State := { State.reset with sys := { State.reset.sys with phase := .reset }, pwr := { (on 2).pwr with step := 8 } }
/-- A device whose soft start is at a step. -/
def rising (n : Nat) : State := { held_ with pwr := { held_.pwr with pgood := 0, step := n } }
/-- A device whose synthesisers are all in one state. -/
def clocked (st : Nat) : State :=
  { on 2 with clk := { (on 2).clk with plls := List.replicate 4 ⟨st, 0, false, 0, false⟩ }, lnk := { (on 2).lnk with state := 0 } }
/-- OTP cells whose factory words are 0 and bear their check words. -/
def fused : List (Nat × Word × Word) :=
  (List.range 96).map (fun a =>
    let w := if a = 63 then checkWord (List.replicate 63 0#32) else if a = 95 then checkWord (List.replicate 31 0#32) else 0#32
    (a, w, w))
theorem test_meets_SupplyEventsAct :
    (State.reset.pwr.vin < 450 ∧ State.reset.sys.phase = .unpowered) ∧
    ((on 2).sys.phase ≠ .unpowered ∧ (on 2).pwr.down = none ∧ (on 2).pwr.pgood ≠ 0 ∧ (on 2).rec_.jobs = []) ∧
    (let s : State := { on 2 with pwr := { (on 2).pwr with surge := true } }; s.pwr.surge = true) ∧
    ((on 2).coreRuns = true ∧ held_.railsGood = true ∧ held_.railWaits = false) ∧
    (20 * (25000 - 23750) ≤ 25000 ∧ (rising 1).sys.phase = .reset ∧ (rising 7).railWaits = false) ∧
    ((List.range 8).all (fun rail => rail == 6 || (List.range 8).any (fun n => n != 0 && (stepRails n).contains rail)) = true) ∧
    (let s : State := { on 2 with pwr := { (on 2).pwr with vcmpOn := true, pgood := 191 } }; s.pwr.pgood.testBit 6 = false) ∧
    ((on 2).railOn 0 = true ∧ (on 2).railOn 7 = true) ∧
    (let s : State := { held_ with pwr := { held_.pwr with waiting := [(7, 0)] } };
      (s.pwr.waiting.find? (fun q => q.1 == 7)).isSome = true) := by decide +kernel

theorem test_meets_SupplyEventsAct_release :
    let u : State := { held_ with sys := { held_.sys with resetN := true }, otp := { held_.otp with cells := fused } }
    u.otpStart.otpCodeState 0 = 2 ∧ u.otpStart.otpCodeState 1 = 2 := by
  intro u
  rw [otpStart_otpCodeState, otpStart_otpCodeState]
  decide +kernel
theorem test_meets_RailFaultStopsLaterRails :
    riseStep 0 < 8 ∧ (List.range 8).all (fun r => r == 6 || decide (riseStep r < 8)) = true := by decide +kernel

theorem test_meets_RailEventsAct :
    (let s : State := { on 2 with pwr := { (on 2).pwr with cmds := [⟨6, none, none, 1800000⟩, ⟨0, none, none, 850000⟩] } };
      (s.vcmdOf 6).isSome = true ∧ (s.vcmdOf 0).isSome = true) ∧
    (State.reset.pwr.vin < 450 ∧ 450 ≤ (on 2).pwr.vin ∧ (on 2).tst F.PWR_VCMP_OWNER = false) ∧
    (let w := w32 (0xA2FF00 + crc8 [w8 0xA2, w8 0xFF]); bits w 20 4 = 0xA ∧ bits w 8 8 = 0xFF ∧
      crc8 [w8 (bits w 16 8), w8 (bits w 8 8)] = bits w 0 8) ∧
    (let w := w32 (0xA2FF01 + crc8 [w8 0xA2, w8 0xFF]); crc8 [w8 (bits w 16 8), w8 (bits w 8 8)] ≠ bits w 0 8) ∧
    (let w := w32 (0xA2D300 + crc8 [w8 0xA2, w8 0xD3]); bits w 8 8 = 211 ∧ crc8 [w8 (bits w 16 8), w8 (bits w 8 8)] = bits w 0 8) ∧
    (let s := (on 2).wr F.PWR_VCMP_OWNER 1; let w := w32 (0xA2D200 + crc8 [w8 0xA2, w8 0xD2]); bits w 8 8 = 210 ∧
      crc8 [w8 (bits w 16 8), w8 (bits w 8 8)] = bits w 0 8 ∧ s.tst F.PWR_VCMP_OWNER = true ∧ s.pwr.vcmpOn = false) ∧
    (let s : State := { ((on 2).wr F.PWR_VCMP_OWNER 1).wr F.PWR_VCMP_CODE 210 with pwr := { (on 2).pwr with vcmpOn := true } };
      s.pwr.vcmpOn = true ∧ s.pwr.cmds.all (fun c => c.rail != 6) = true ∧ s.rd F.PWR_VCMP_CODE = 210 ∧ s.tst F.PWR_VCMP_OWNER = true) ∧
    (let s := ((on 2).wr F.PWR_SHED_SHED_EN 1).wr F.PWR_SHED_ACTIVE 3; s.tst F.PWR_SHED_SHED_EN = true ∧ s.tt.lstep = false ∧
      s.sys.rollFails.testBit 5 = false ∧ s.pwr.holdEnd = none ∧ 2 ≤ s.rd F.PWR_SHED_ACTIVE) ∧
    (let s := ((on 2).wr F.PWR_SHED_SHED_EN 1).wr F.PWR_SHED_ACTIVE 1; s.rd F.PWR_SHED_ACTIVE ≤ 1) ∧
    (let s : State := { on 2 with pwr := { (on 2).pwr with holdEnd := some 5 } }; s.pwr.holdEnd = some 5) ∧
    ({ (on 2).sys with rollFails := 32 }.rollFails.testBit 5 = true) ∧
    (let s := (on 2).wr F.PWR_RECESS_STBY 1; s.sys.rollFails.testBit 5 = false ∧ s.tt.lstep = false ∧ s.sys.mode = 2 ∧
      s.tst F.PWR_RECESS_STBY = true ∧ (on 7).tt.lstep = false) ∧
    (let s : State := { on 2 with sys := { (on 2).sys with mtpQueue := [⟨wkey widHrBuf 0, [1#32], none⟩] } };
      s.sys.mtpQueue.length = 1 ∧ wkey widHrBuf 0 ≠ 0) := by decide +kernel

theorem test_meets_StartEventsAct :
    ((clocked 1).clk.plls.length = 4 ∧ (List.range 4).all (fun n => decide (((clocked 1).pll n).state = 1) && !((clocked 1).pll n).search) = true ∧ (clocked 1).sys.phase = .run) ∧
    (let s : State := { clocked 2 with sys := { (clocked 2).sys with phase := .boot, rollDone := false }, clk := { (clocked 2).clk with plls := ⟨1, 0, false, 0, false⟩ :: List.replicate 3 ⟨2, 0, false, 0, false⟩ } }; s.sys.phase = .boot ∧ (s.pll 0).state = 1 ∧ (s.pll 3).state = 2 ∧ s.clk.plls.length = 4) ∧
    (((clocked 2).pll 3).state = 2 ∧ ((clocked 3).pll 3).state = 3 ∧ (clocked 3).lnk.state = 0 ∧ (clocked 3).clk.plls.length = 4) ∧
    (let s : State := { clocked 2 with clk := { (clocked 2).clk with plls := ⟨2, 0, false, 7, false⟩ :: List.replicate 3 ⟨2, 0, false, 0, false⟩ } }; (s.pll 0).applied ≠ s.corrPpm ∧ s.clk.plls.length = 4) ∧
    (let s : State := { on 2 with sys := { (on 2).sys with phase := .boot, fw := .rom, fwReady := false, dramReady := false } };
      s.sys.phase = .boot ∧ s.coreRuns = true ∧ s.sys.rollDone = true ∧ s.sys.dramReady = false ∧ s.sys.imageGood = true ∧
      s.fe.held = [] ∧ s.sys.fwReady = false) ∧
    (let s : State := { on 2 with sys := { (on 2).sys with phase := .boot, dramReady := true, fw := .restarting } };
      s.sys.phase = .boot ∧ s.coreRuns = true ∧ s.sys.dramReady = true ∧ s.sys.imageGood = true ∧ s.fe.held = []) := by decide +kernel

/-- A device locked to marks of 750 lines, the last of them at time 0. -/
def marked (lock : Nat) (seen : Bool) : State :=
  let s := (reading 4).wr F.TT_REF_VTOTAL_RL 750
  { s with tt := { s.tt with lock := lock, last := if seen then some ⟨0, 0, 0, 0⟩ else none } }
/-- A device whose link trains. -/
def training (ready : Bool) : State := { on 2 with lnk := { (on 2).lnk with state := 1, ready := ready } }
theorem test_meets_LinkEventsAct :
    ((on 2).coreRuns = true ∧ crc8 [w8 0, w8 (0 / 256), w8 0] ≠ (crc8 [w8 0, w8 (0 / 256), w8 0]) + 1) ∧
    ((training false).lnk.state = 1 ∧ (0x1F : Nat).testBit 4 = true ∧ ((0x1F : Nat) % 16) &&& (training false).lanes ≠ 0 ∧
      (training false).lnk.ready = false) ∧
    (let s : State := { on 2 with lnk := { (on 2).lnk with idleRun := 63 } }; 64 ≤ s.lnk.idleRun + 1) ∧
    (let s : State := { on 2 with lnk := { (on 2).lnk with goodSince := [none, none, none, some 0] } };
      s.lnk.goodSince.getD 3 none = some 0 ∧ s.lnk.state = 2 ∧ s.lnk.hostSilent = false) ∧
    (let s := (on 2).wr F.LNK_BCCLAMP_ADAPT_EN 1; s.tst F.LNK_BCCLAMP_ADAPT_EN = true ∧ s.sys.park.idle = false ∧ s.lnk.state ≠ 0) ∧
    (let t := (on 2).wrs [(F.LNK_EYE_HEIGHT, 0), (F.LNK_EYE_WIDTH, 0)]; 0 < t.rd F.LNK_BCCLAMP_EYE_MIN ∧
      ((on 2).wrs [(F.LNK_EYE_HEIGHT, min 255 255), (F.LNK_EYE_WIDTH, 0)]).rd F.LNK_BCCLAMP_EYE_MIN ≤ 255) ∧
    ((training true).lnk.state = 1 ∧ (training true).lnk.ready = true ∧ (training true).otp.margDue = [] ∧
      (training false).lnk.prevCfg = none) ∧
    (let s : State := { training false with lnk := { (training false).lnk with prevCfg := some 1#32 } }; s.lnk.state = 1 ∧
      s.lnk.ready = false ∧ s.lnk.prevCfg.isSome = true) ∧
    (let s : State := { on 2 with lnk := { (on 2).lnk with ffeNext := [(3, 0, 0)] } };
      (s.lnk.ffeNext.find? (fun q => q.1 == 3)).isSome = true) ∧
    (let s : State := { on 9 with lnk := { (on 9).lnk with test := some ⟨none, 1, 0, false, 0, 5⟩ } }; s.lnk.test.isSome = true ∧
      s.lnk.loop = none) ∧
    (let s : State := { on 9 with lnk := { (on 9).lnk with loop := some ⟨none, 0xF, 0, false, 0, 5⟩ } }; s.lnk.loop.isSome = true ∧
      s.lnk.test = none) := by decide +kernel

theorem test_meets_ReferenceEventsAct :
    ((marked 2 true).coreRuns = true ∧ (marked 2 true).rd F.TT_REF_VTOTAL_RL = 750 ∧ crc8 [w8 0, w8 0, w8 0, w8 0] = 0 ∧
      crc8 [w8 (750 / 256), w8 750, w8 0, w8 0] ≠ 256) ∧
    (let s := marked 2 true; let t := s.elapse (ns (2 * 10) + s.tt.clk);
      0 < t.rlTime (t.rd F.TT_REF_M) 2 → t.tt.clk < 0 + t.rlTime (t.rd F.TT_REF_M) 2) ∧
    (let s := marked 2 true; let n := s.rlTime (s.rd F.TT_REF_M) 2; let t := s.elapse (ns (2 * n) + s.tt.clk);
      n = s.rlTime (s.rd F.TT_REF_M) 2 ∧ 0 + t.rlTime (t.rd F.TT_REF_M) 2 ≤ t.tt.clk) ∧
    ((marked 1 false).tt.last = none ∧ (marked 2 false).tt.last = none ∧ (marked 3 false).tt.last = none ∧
      (marked 3 true).tt.lock = 3 ∧ (marked 1 true).tt.last.isSome = true) ∧
    ((marked 2 true).tt.last.isSome = true ∧ (marked 2 true).fe.evMask.testBit 9 = false ∧ (marked 2 true).fe.events = [] ∧
      (marked 2 true).fe.waiting = [] ∧ (marked 1 true).tt.lock = 1 ∧ (marked 1 true).tt.acqLate = false) := by decide +kernel

/-- A frame being read, with what a frame start asks. -/
def paired : State := { reading 3 with pend := some ⟨[], 0, 400000, false⟩, tt := { (reading 3).tt with rp0 := 10 ^ 12 } }
theorem test_meets_FrameEventsAct :
    ((reading 3).sys.phase = .run ∧ (reading 3).tt.run = true ∧ (reading 3).sys.limpDue = none ∧ (reading 3).stopsFrames = false ∧
      (reading 3).sys.mode ≠ 5) ∧
    (let s : State := { on 3 with tt := { (on 3).tt with startDue := some 1000 } }; s.sys.phase = .run ∧ s.tt.run = false ∧
      s.pend = none ∧ s.tt.startDue = some 1000) ∧
    (paired.tt.run = true ∧ paired.tt.committed = 0 ∧ paired.sys.chg = none ∧ paired.thm.want = none ∧ paired.exp.seq = none ∧
      paired.sys.fw = .running ∧ paired.saf.switching = none ∧ paired.fe.held = [] ∧ paired.pend.isSome = true) ∧
    (0 + 16 * 400000 ≤ (paired.elapse (onCycle (commitTime paired 0))).tt.clk) ∧
    (let s : State := { reading 3 with sys := { (reading 3).sys with chg := some ⟨2, 0, none⟩ } }; streamingMode 2 = false ∧
      s.tt.run = true ∧ s.sys.chg.isSome = true) ∧
    (let s : State := { on 3 with pend := some ⟨[], 0, 400000, false⟩ }; s.tt.run = false ∧ s.tt.startDue = none ∧
      s.pend.isSome = true) := by decide +kernel

theorem test_meets_RowEventsAct :
    (((reading 3).rowDue 48 (fun v p => 16 * p + 4 * vW v - placedLong (vTl v) 0)).isSome = true ∧
      ((reading 3).rowDue 4143 (fun v p => 16 * p + 4 * vW v - placedLong (vTl v) 0)).isSome = true) ∧
    (((reading 3).rowDue 48 (fun v p => 16 * p + 4 * vW v - placedLong (vTl v) (min 15 15))).isSome = true) ∧
    (vShort (reading 3).live = true ∧ ((reading 3).shortDue 48).isSome = true) ∧
    ((readRp (reading 3).live 48).isSome = true ∧ (readRp (reading 3).live 0).isSome = true ∧ (readRp (reading 3).live 50).isSome = true) ∧
    (let s := (reading 3).wr F.TT_STROBE_MODE 1; (s.strobeDue true).isSome = true ∧ (s.strobeDue false).isSome = true) ∧
    (let s : State := { (on 3).wr F.TT_CTRL_LSTEP_EN 1 with tt := { (on 3).tt with startDue := some (10 ^ 12) } };
      s.tst F.TT_CTRL_LSTEP_EN = true ∧ ((s.lstepRises.filter (fun w => decide (s.tt.clk < w))).foldl (fun (a : Option Nat) t => some (min t (a.getD t))) none).isSome = true) ∧
    (let s : State := { reading 3 with pix := { (reading 3).pix with opened := [100] } };
      (s.pix.opened.find? (fun n => !s.pix.cut.contains n)) = some 100) := by decide +kernel

/-- A locked frame whose first lit rows have come to the logic die. -/
def displayed : State :=
  let s := marked 2 true
  { s with
    pix := { s.pix with rows := [⟨100, 48, 0, 0#32, 0, 0, 0, []⟩] },
    out := { s.out with live := [⟨1, 100, 100, false, true, 0, none, [], [], [], [], 0, []⟩] } }
theorem test_meets_PictureEventsAct :
    ((reading 3).sys.phase = .run ∧ (reading 3).tt.started = true ∧ (reading 3).tt.run = true ∧
      streamingMode (reading 3).sys.mode = true ∧ (reading 3).tst F.CNV_CTRL_TRACK_EN = true ∧ (reading 3).cnv.tracked = false) ∧
    (let s : State := { reading 3 with cnv := { (reading 3).cnv with tracked := true } }; s.cnv.tracked = true) ∧
    (let s : State := { reading 3 with tt := { (reading 3).tt with vcur := 4146 } };
      s.tt.vcur < trackStart s.live s.effNow + 2 * vW s.live) ∧
    (let s : State := { reading 3 with tt := { (reading 3).tt with vcur := 5000 } };
      trackStart s.live s.effNow + 2 * vW s.live ≤ s.tt.vcur) ∧
    (let s : State := { reading 3 with pix := { (reading 3).pix with opened := [99], cut := [99], rows := [⟨99, 4143, 3, 0#32, 0, 0, 0, []⟩] } }; s.closing.isSome = true) ∧
    (let s : State := { reading 3 with pix := { (reading 3).pix with closed := [⟨99, [], [], [], []⟩] } }; s.pix.closed.length = 1 ∧
      s.exp.aeDone ≠ some 99 ∧ s.exp.awbDone ≠ some 99) ∧
    (let s : State := { reading 3 with exp := { (reading 3).exp with aeDone := some 99, awbDone := some 99 } };
      s.exp.aeDone = some 99 ∧ s.exp.awbDone = some 99) ∧
    (let s := (reading 3).wr F.PA_CTRL_AWB_EN 1; s.sys.fw = .running ∧ s.tst F.PA_CTRL_AWB_EN = true) ∧
    (let t := displayed.elapse (displayed.lineDue 0); displayed.tt.run = true ∧ displayed.tt.lock = 2 ∧
      t.pix.rows.any (fun c => c.fn == t.tt.fn && decide (48 ≤ c.row)) = true ∧ (t.dispLive t.tt.fn).isSome = true ∧
      (dispWin t.live).isSome = true ∧ (dispLineView t.live (t.halfSize t.live)).isSome = true) ∧
    (streamingMode 0xB = true ∧ (on 0xB).sys.phase = .run ∧ streamingMode 3 = true ∧ (on 3).sys.phase = .run) ∧
    (let s : State := { on 8 with cnv := { (on 8).cnv with calBusy := true } }; s.cnv.calBusy = true) := by decide +kernel

theorem test_meets_BellEventsAct :
    (let s : State := { on 5 with bel := { (on 5).bel with raised := some ⟨0, 0, none⟩ } }; s.bel.raised.isSome = true ∧ s.sys.mode = 5) ∧
    (let s := (on 5).wr F.BEL_CFG_SRC 1; (s.rd F.BEL_CFG_SRC).testBit 0 = true ∧ s.tst F.BEL_CFG_EDGE = false ∧
      2 * max 1 (s.rd F.BEL_CFG_MINW) ≤ 510 ∧ 1 < 2 * max 1 (s.rd F.BEL_CFG_MINW)) ∧
    (let s : State := { on 5 with bel := { (on 5).bel with sched := some (100, 7) } }; s.bel.sched.isSome = true) ∧
    (let s : State := { on 5 with bel := { (on 5).bel with busy := true } }; s.bel.busy = true ∧ s.exp.seq = none ∧
      s.bel.queue = none ∧ s.tt.startDue = none) ∧
    (let s : State := { on 5 with bel := { (on 5).bel with busy := true, queue := some ⟨0, 0, none⟩ }, tt := { (on 5).tt with startDue := some 7 } }; s.bel.busy = true ∧ s.exp.seq = none ∧ s.bel.queue.isSome = true ∧ s.tt.startDue = some 7) := by decide +kernel

/-- Pipeline B in a state and at a step. -/
def companionAt (st step : Nat) : State := { profiled with pb := { profiled.pb with state := st, step := step } }
theorem test_meets_CompanionEventsAct :
    ((companionAt 1 1).pb.step = 1 ∧ (companionAt 1 2).pb.step = 2 ∧ (companionAt 1 3).pb.step = 3 ∧ (companionAt 0 4).pb.step = 4 ∧
      (companionAt 0 5).pb.step = 5 ∧ (companionAt 3 3).pb.state = 3) ∧
    (let s : State := { companionAt 4 0 with pb := { (companionAt 4 0).pb with queue := [⟨0, 1, none, [(0, ⟨0, 1, 0, 0#32⟩)], [], none, false⟩] } }; s.pb.opened ≠ some s.pb.cfn ∧ (∃ w ∈ s.pb.queue, w.due s.pb.cfn ≠ none)) ∧
    ((served (.init 0)).pb.now = .init 0) ∧
    (let s : State := { served .job with pb := { (served .job).pb with jobs := [⟨1, true, [], 0, [], none⟩] } }; s.pb.now = .job ∧
      s.pb.jobs.length = 1) ∧
    (let s : State := { served (.set 1 0) with pb := { (served (.set 1 0)).pb with queue := [⟨0, 1, none, [(0, ⟨0, 1, 0, 0#32⟩)], [], none, false⟩] } }; s.pb.now = .set 1 0 ∧ (s.pb.queue.find? (fun w => w.tag == 1)).isSome = true) ∧
    ((companionAt 4 3).pb.queue = [] ∧ (companionAt 4 3).pb.jobs = [] ∧ (companionAt 3 0).pb.state = 3 ∧ (companionAt 5 0).pb.state = 5) ∧
    (let s : State := { companionAt 3 0 with pb := { (companionAt 3 0).pb with receiving := true } }; s.pb.receiving = true ∧
      s.profLines.1 + s.profLines.2.1 + s.profLines.2.2 = 16 ∧ bits (s.prof 2) 0 12 = 16) := by decide +kernel

theorem test_meets_HousekeepingEventsAct :
    (let s : State := { on 2 with hk := { (on 2).hk with urgent := false } }; s.sys.phase ≠ .unpowered ∧ s.hk.urgent = false) ∧
    (let s : State := { on 2 with hk := { (on 2).hk with urgent := true } }; s.sys.phase ≠ .unpowered ∧ s.hk.urgent = true) ∧
    (let s : State := { on 2 with thm := { (on 2).thm with state := 1, clearAt := some 0 } }; s.thm.state = 1 ∧ s.thm.clearAt = some 0) ∧
    (let s : State := { on 2 with thm := { (on 2).thm with state := 3, clearAt := some 0 } }; s.thm.state = 3 ∧ s.thm.clearAt = some 0) ∧
    (let s : State := { (on 2).wr F.THM_MAX_TMAX 1680 with thm := { (on 2).thm with state := 2, clearAt := some 0 } };
      s.thm.state = 2 ∧ s.warnLevel ≤ s.tMax) ∧
    (let s : State := { on 2 with thm := { (on 2).thm with htrOn := true } }; s.thm.htrOn = true) := by decide +kernel

theorem test_meets_SecurityEventsAct :
    (let s : State := { programmer with otp := { programmer.otp with job := some ⟨0xA1, 1, [(1015, 1#32)], []⟩ } };
      (s.otp.job.map (fun j => j.words.length)) = some 1) ∧
    (let s : State := { on 2 with sec := { (on 2).sec with hand := some ⟨0, 1, [], [], [], some 4, 0, false⟩ } };
      (s.sec.hand.bind (fun h => h.tag)) = some 4) ∧
    (let s : State := { on 2 with sec := { (on 2).sec with hand := some ⟨0, 1, [], [], [], none, 0, false⟩, finish := some ⟨1, [], 0⟩ } }; (s.sec.hand.map (fun h => (h.tag, h.expired))) = some (none, false) ∧ s.sec.finish.isSome = true) ∧
    (let s : State := { reading 3 with sec := { (reading 3).sec with quizzes := [⟨100, none, false, [⟨0, 0, false, true, 0⟩]⟩] } };
      ((s.sec.quizzes.find? (fun q => q.fn == s.tt.fn)).bind (fun q => q.blocks[0]?)).isSome = true) ∧
    ((on 2).coreRuns = true) := by decide +kernel

theorem test_meets_DependabilityEventsAct :
    (let s : State := { on 2 with saf := { (on 2).saf with wdogRun := true, selftest := some 15 } }; s.saf.wdogRun = true ∧
      s.saf.selftest = some 15 ∧ s.coreRuns = true) ∧
    (let s : State := { on 2 with saf := { (on 2).saf with switching := some (1, true) } }; s.saf.switching ≠ none ∧
      s.saf.switchReady = false) ∧
    (let s : State := { on 2 with fe := { (on 2).fe with opn := [⟨0xD2, 1, 0⟩] } }; s.isOpen 0xD2 = true ∧
      (s.imageFail (imageWid s.stageTarget)).isSome = true) := by decide +kernel

theorem test_meets_ParkingEventsAct :
    ((on 7).sys.phase = .run ∧ (on 7).sys.mode = 7 ∧ (on 7).sys.park.frames < 8 ∧ (on 7).sys.wakeLow = none ∧
      (on 7).sys.park.idle = false ∧ (on 7).fe.waiting = [] ∧ (on 7).fe.events = []) ∧
    (let s : State := { on 7 with sys := { (on 7).sys with park := { (on 7).sys.park with frames := 8, holdoff := 0, ncell := 0, nfrm := 1, autostream := false } } }; 8 ≤ s.sys.park.frames ∧ s.sys.park.holdoff = 0 ∧ s.sys.park.ncell = 0 ∧ s.sys.park.nfrm ≤ s.sys.park.moving + 1 ∧ s.sys.park.autostream = false) ∧
    (let s : State := { on 7 with sys := { (on 7).sys with park := { (on 7).sys.park with frames := 8, holdoff := 1 } } };
      s.sys.park.holdoff ≠ 0) ∧
    (let s : State := { on 3 with sys := { (on 3).sys with wakeLow := some 0 } }; s.sys.wakeLow = some 0) ∧
    ((on 3).sys.fw = .running ∧ streamingMode 3 = true ∧ (on 3).sys.warmAt = none ∧ (on 3).warmDue = true) := by decide +kernel

theorem test_meets_RecorderEventsAct :
    (let s : State := { mounted 3 with rec_ := { (mounted 3).rec_ with formed := some ⟨0, 1, 0#32, 4, [], [], []⟩, jobs := [.readFrame] } }; s.rec_.formed.isSome = true ∧ s.rec_.jobs.length = 1) ∧
    (let c : OpenClip := ⟨5, 0, false, 0#32, 100, 0, 0, 100, 110, 200, [], false, 0, true⟩;
      let s : State := { mounted 3 with rec_ := { (mounted 3).rec_ with opens := [c, { c with id := 6, post := false }] } };
      (s.rec_.opens.find? (fun d => d.post)).isSome = true ∧ (s.rec_.opens.find? (fun d => !d.post)).isSome = true ∧ s.tt.run = false ∧
      seqLe (fnNext 110) 111 = true) ∧
    (let s : State := { on 3 with rec_ := { (on 3).rec_ with mount := 1, format := true } }; s.rec_.mount = 1 ∧ s.rec_.format = true ∧
      (mounted 3).rec_.mount = 2) ∧
    (let s : State := { on 3 with rec_ := { (on 3).rec_ with mount := 1 } }; s.rec_.mount = 1 ∧ s.rec_.format = false) := by decide +kernel

theorem test_meets_RegisterBitsStart :
    ((on 8).sys.mode = 8 ∧ (on 8).cnv.calBusy = false ∧ bit 1#32 0 = true ∧ bit 1#32 2 = false) ∧
    ((on 3).pend = none ∧ (on 3).commitReason = none ∧ bit 0x10#32 4 = true) ∧
    ((seqStart ((listed 3).rd F.SEQ_LOOPS_FIRST) ((listed 3).rd F.SEQ_LOOPS_LOOPS) (listed 3)).1 = .ok) ∧
    ((sequence_.exp.seq.map (fun r => (r.trig, r.back))) = some (false, false) ∧ bits 2#32 0 2 = 2) ∧
    (profiled.tst F.PB_CTRL_EN = false ∧ profiled.pb.step < 4 ∧ profiled.pb.profOk = true ∧ profiled.profBad = none) ∧
    (let s := profiled.wr F.PB_CTRL_EN 1; s.tst F.PB_CTRL_EN = true ∧ (pbEnable false none s).1 = .ok) ∧
    (seqReason ((on 2).seqStaged 0) ((on 2).seqStaged 1) ((on 2).tst F.THM_HTR_EN) = none) ∧
    (let v := w32 (1 + 4 * 1024 + 0x4000 + 65536); bit v 14 = true ∧ (on 9).checkMode = 9 ∧ bits v 0 10 ≠ 0 ∧ bits v 10 3 < 5 ∧
      bits v 16 16 ≠ 0) ∧
    (let s := (on 9).wr F.LNK_TEST_DURATION 1; s.checkMode = 9 ∧ s.rd F.LNK_TEST_DURATION ≠ 0 ∧ s.lnk.loop = none) ∧
    ([2, 9, 0xC].contains (on 2).checkMode = true ∧ (linkSet (keepMask 0xE400F0#32 0xFF0FF3) (on 2)).1 = .ok) ∧
    (relockOk 0 (on 2).sys.mode = true ∧ relockOk 1 0xC = true ∧ relockOk 2 9 = true ∧ relockOk 3 2 = false ∧
      bit 0x10#32 4 = true) := by decide +kernel

theorem test_meets_RegisterRowsAct :
    ((writeReg R.EXP_FLICKER 0#32 allOnes (on 2)).1 = .ok) ∧
    ((on 2).sys.phase ≠ .unpowered ∧ (on 2).sys.phase ≠ .reset ∧ (on 2).sys.fw = .running ∧ (on 2).sys.takenOver = true) ∧
    (let s : State := { on 2 with saf := { (on 2).saf with wdogRun := true }, tt := { (on 2).tt with clk := (on 2).wdogTime } };
      s.saf.wdogRun = true ∧ s.wdogTime ≤ 8 * (s.tt.clk - s.saf.kickAt)) ∧
    (((findReg F.TT_MARKERR_DISCARD.addr).map (fun d => d.isCounter)) = some true) := by decide +kernel

/-! ### General statements: what they ask -/
/-- A device whose firmware is not up. -/
def unserved : State := { on 2 with sys := { (on 2).sys with fw := .restarting } }
/-- A device with a command open under tag 1. -/
def occupied : State := { on 2 with fe := { (on 2).fe with opn := [⟨0xD2, 1, 0⟩] } }
/-- A device whose event queue is full. -/
def crowded : State :=
  { on 2 with fe := { (on 2).fe with events := (List.range 64).map (fun n => ⟨n + 1, 1, 0, []⟩) } }
theorem test_meets_IdleStepPassesOneSlot :
    (on 2).pending = [] ∧ (on 2).fe.held = [] ∧ (on 2).pwr.down = none ∧ IcnBounded (on 2) :=
  ⟨rfl, rfl, rfl, fun c => Nat.zero_le (icnReserved c), Nat.zero_le icnPool⟩

theorem test_meets_FrameOfOnePacketIsItsCommand :
    let k : Pkt := ⟨4095, 15, true, 8191, 65535, List.replicate 257 0#32⟩; k.tag < 4096 ∧ k.gen < 16 ∧ k.rsvd < 8192 ∧ k.seq < 65536 ∧
      k.payload.length ≤ 257 := by decide +kernel

theorem test_meets_FrontEndChecksInOrder :
    ((on 2).coreRuns = true ∧ (on 2).sys.mode ≠ 7 ∧ (on 2).lnk.echo = false ∧ wellSent (pkt []) (on 2) = true) ∧
    (let s : State := { on 2 with fe := { (on 2).fe with held := List.replicate 256 ⟨0x14, pkt (List.replicate 254 0#32), []⟩ } };
      s.creditsFree.1 < (charge 0x01 0).1 ∨ s.creditsFree.2 < (charge 0x14 254).2) ∧
    ((charge 0x14 256).1 ≤ (on 2).creditsFree.1 ∧ (charge 0x14 256).2 ≤ (on 2).creditsFree.2 ∧ (charge 0x14 257).2 ≤ (on 2).creditsFree.2) ∧
    (occupied.busy.contains 1 = true ∧ (on 2).busy.contains 1 = false) ∧
    (findCmd 0x07 = none ∧ (findCmd 0x01).isSome = true ∧ (findCmd 0x03).map (fun c => (c.lo, c.hi)) = some (1, 7)) ∧
    (unserved.serverUp = false ∧ (on 2).serverUp = true ∧ (on 2).fe.held = [] ∧ unserved.coreRuns = true) ∧
    (legalIn 0x84 (on 2).checkMode = false ∧ legalIn 0x03 (on 2).checkMode = true ∧ formOk 0x03 (pkt [2#32, 0#32]) = false ∧
      2 ≤ 7) := by decide +kernel

theorem test_meets_RepliesHaveTheirForm :
    (on 2).canSend = true ∧ (on 2).fe.waiting = [] ∧ (∀ o ∈ (on 2).fe.opn, o.tag ≠ 1) := by decide +kernel

theorem test_meets_BusyTagIsDiscarded :
    wellSent { pkt [] with gen := 15 } occupied = true ∧ occupied.coreRuns = true ∧ occupied.busy.contains 1 = true ∧
      (charge 0x01 0).1 ≤ occupied.creditsFree.1 ∧ (charge 0x01 0).2 ≤ occupied.creditsFree.2 ∧ occupied.fe.evMask.testBit 1 = false ∧
      occupied.fe.events = [] := by decide +kernel

theorem test_meets_IllegalCommandIsAnsweredState :
    wellSent (pkt [1#32, 0#32]) (on 2) = true ∧ (on 2).coreRuns = true ∧ (on 2).busy.contains 1 = false ∧ (on 2).canSend = true ∧
      (on 2).fe.waiting = [] ∧ legalIn 0x84 (on 2).checkMode = false ∧ (on 2).serverUp = true ∧
      (findCmd 0x84).map (fun c => (c.lo, c.hi)) = some (2, 2) := by decide +kernel

theorem test_meets_SequenceNumbersAreCounted :
    let s : State := { on 2 with fe := { (on 2).fe with lastSeq := some 65535 } };
      (s.fe.lastSeq.map (fun p => (p + 1) % 65536)) = some 0 ∧ (on 2).fe.lastSeq = none := by decide +kernel

theorem test_meets_EventMaskIsInForce :
    (ready 0x06 (pkt [0xFFFFFFFF#32]) (on 2) = true) ∧
    (let s : State := { on 2 with fe := { (on 2).fe with evMask := 2 } }; s.fe.evMask.testBit 1 = true) := by decide +kernel

theorem test_meets_EventQueueKeepsItsRules :
    crowded.fe.events.length = 64 ∧ (crowded.fe.events.map (fun e => e.code)).Nodup ∧ crowded.fe.evMask.testBit 1 = false ∧
      (crowded.fe.events.any (fun e => e.code == 65)) = false := by decide +kernel

theorem test_meets_TrailerNeverReplays :
    service.trailerReason 0x98 (sealed_ 0x98 []) true = none ∧ trailerCctr (sealed_ 0x98 []) ≤ trailerCctr (sealed_ 0x98 []) :=
  ⟨sealed_accepted _ _ _ _ rfl, Nat.le_refl _⟩
theorem test_meets_ReadCommandsChangeNoSetting :
    (on 2).fe.held = [] ∧ (on 2).sys.mode ≠ 7 ∧ (on 2).lnk.echo = false := by decide +kernel

theorem test_meets_CountersSaturate :
    F.CMD_STATE_COUNT.lo + F.CMD_STATE_COUNT.len ≤ 32 := by decide +kernel

theorem test_meets_ReadOnlyAndLockedWrites :
    ((findReg 0x05FF).isNone = true) ∧
    (((on 2).setReg R.CNV_CTRL 0x80000000#32).bankLocked (0x0403 / 256) = true ∧ ((findReg 0x0403).map (fun d => decide (d.rwl ≠ 0 ∧
      d.rw = 0 ∧ d.w1c = 0 ∧ d.w1s = 0 ∧ d.wo = 0))) = some true) ∧
    (((findReg R.SYS_ID).map (fun d => decide (d.rw = 0 ∧ d.rwl = 0 ∧ d.w1c = 0 ∧ d.w1s = 0 ∧ d.wo = 0))) = some true) := by decide +kernel

theorem test_meets_FoldedEdgesKeepTheMosaic :
    (0 : Int) < 4 ∧ (4 : Int) ≤ 3 - 0 + 1 := by decide +kernel

theorem test_meets_CarriedErrorIsBounded :
    (1 : Rat) ≠ 0 ∧ (-1 : Rat) ≠ 0 := by decide +kernel

theorem test_meets_ReplayBufferIsBounded :
    pktWords 257 ≤ 131072 ∧ lseqLe 65535 0 = true ∧ lseqLe 1 0 = false := by decide +kernel

theorem test_meets_EveryStepKeepsOtpSound :
    OtpSound { State.reset with otp := { State.reset.otp with cells := [(5, 1#32, 3#32)] } } := fun a => by
  unfold Otp.cell within
  by_cases h : a = 5
  · subst h; decide
  · have h5 : (5 == a) = false := by simp; omega
    simp [List.find?, h5]
/-! ### Examples that the spec works out -/

/-- The example after R43, and the one after R145. -/
theorem test_example_placed_integrations :
    placedLong 43936 5 = 7767 ∧ placedShort 43936 5 4 = 485 ∧ placedShort 62632 0 4 = 3915 ∧ placedShort 62628 0 4 = 3914 := by
  decide +kernel

/-- The example after R352: D_S and KCAP at the reset settings. -/
theorem test_example_reset_exposure : vDs State.reset.live = 172 ∧ kcapOf State.reset.live = 0 := by decide +kernel

/-- The example after R230: the rows read and VMIN of two windows. -/
theorem test_example_two_windows :
    let s := (State.reset.setRun (winAddr 0 0) [w32 (224 * 65536), w32 (1024 + 576 * 65536), 0x39#32]).setRun (winAddr 1 0)
      [w32 (512 + 128 * 65536), w32 (512 + 256 * 65536), 0x39#32]
    vNrow s.live = 2688 ∧ vVmin s.live = 2752 := by decide +kernel

/-- The example after R463. -/
theorem test_example_packet_words :
    pktWordsOf 0x31 { pkt [] with tag := 0x123, gen := 2, seq := 0x40, payload := [0#32, 0#32] } =
      [0x31123200#32, 0x00800040#32, 0#32, 0#32] := by decide +kernel

/-- The example after R468. -/
theorem test_example_credits : charge 0x15 254 = (1, 8) ∧ charge 0x11 2 = (1, 1) := by decide +kernel

/-- The example of R355. -/
theorem test_example_crc8 : crc8 [1#8] = 7 := by decide +kernel

/-- The example after R604. -/
theorem test_example_fw_version :
    thermo [0xFFFFFFFF#32, 0x1F#32, 0#32, 0#32] = 37 ∧ thermoBits 37 = 0x1FFFFFFFFF := by decide +kernel

/-- QUIET within a conversion cycle (R61, R109), here of a calibration's: high from 350 ns to 550 ns, and from 3,750 ns on. -/
theorem test_example_quiet_spans :
    let at_ := fun (t : Nat) =>
      ({ on 8 with cnv := { (on 8).cnv with calBusy := true }, tt := { (on 8).tt with clk := t } } : State).quiet
    at_ (ns 349) = some false ∧ at_ (ns 351) = some true ∧ at_ (ns 549) = some true ∧ at_ (ns 551) = some false ∧
      at_ (ns 3749) = some false ∧ at_ (ns 3751) = some true := by
  decide +kernel

/-- A pulse of 150 ns that may begin at once and finds QUIET high up to 100 ns and from 300 ns on ends at 100 ns, and what it lacks is
carried, as R541 has it. -/
theorem test_switch_pulse :
    SwOut.go [(0, (ns 100 : Int)), ((ns 300 : Int), (ns 500 : Int))] (ns 200) 4 [(0, ns 150)] 0 ⟨0, 0, none⟩ =
      ⟨0, (ns 150 : Int) - ns 100 + 1, some (0, ns 100 - 1)⟩ := by decide +kernel

/-- Between frames the photodiodes are held in reset (R45), and without VPIX no gate is biased. -/
theorem test_gates_between_frames :
    (on 2).sgs 4143 1023 = some true ∧ (on 2).rowLines 0 = some RowLines.idle ∧ State.reset.sgs 48 0 = none := by decide +kernel

/-- The sync header of a block goes in the clear, 0b10 for a control block (R413). -/
theorem test_lane_sync_header : (LaneTx.send ⟨0, 0⟩ idleBlock).sent % 4 = 2 := by decide +kernel

/-! ### One step -/

/-- Whether a step of `s` answers a next state that `p` holds of. -/
def leaves (s : State) (p : State → Bool) : Bool :=
  match step s with
  | .next t => p t
  | _ => false

theorem test_step_ping :
    leaves ((on 2).withPending [.ping (pkt [7#32]), .unpowered])
      (fun t => t.pending == [.unpowered] && t.fe.out == [.reply 0 1 0 0 0 [7#32]]) = true := by decide +kernel

theorem test_step_power :
    leaves (State.reset.withPending [.vinRise 1200])
      (fun t => decide (t.sys.phase = .reset) && t.pwr.poc == 1 && t.pwr.vin == 1200) = true := by decide +kernel

theorem test_step_idle : leaves State.reset (fun t => t.tt.clk == State.reset.slot && t.pending == []) = true := by decide +kernel

theorem test_step_wrong_length :
    leaves ((on 2).withPending [.getStatus (pkt [7#32])]) (fun t => t.fe.out == [.reply 2 1 0 3 0 []]) = true := by decide +kernel

/-- The balls of R678 with VIN absent, and in reset before the rails rise. -/
theorem test_balls_off :
    ([Pin.ck, .cpRstN, .cpPwdn, .enStg, .strobeOut, .faultN, .wake].map State.reset.ball
        = [.idle, .pulledLow, .highZ, .pulledLow, .pulledLow, .low, .highZ]) ∧
      leaves (State.reset.withPending [.vinRise 1200]) (fun t =>
        decide ([Pin.ck, .cpRstN, .cpPwdn, .enStg, .strobeOut, .faultN, .wake].map t.ball
          = [.idle, .low, .highZ, .low, .pulledLow, .low, .released])) = true := by decide +kernel

end Sys2Proof.Tests
end

section
/-!
PROOF. What a write does to a register by its type codes alone (R11, R482, R483): read-only registers, locked registers, and
addresses that no chapter assigns.
-/

namespace Sys2Proof.Machine

open Sys2Proof (Word)

/-! ### The register table -/

/-- The register tables mark no bit as staged that a write cannot reach: every staged bit is RW, RWL or WO (R11, R111). -/
theorem regBank_stg_sub_writable (b : Nat) :
    (regBank b).all (fun d => d.stg &&& (d.rw ||| d.rwl ||| d.wo) == d.stg) = true := by
  unfold regBank
  split <;> decide +kernel

theorem stg_sub_writable_of_findReg {a : Nat} {d : RegDesc} (h : findReg a = some d) :
    d.stg &&& (d.rw ||| d.rwl ||| d.wo) = d.stg :=
  beq_iff_eq.mp (List.all_eq_true.mp (regBank_stg_sub_writable (a / 256)) d (List.mem_of_find?_eq_some h))

theorem stg_eq_zero_of_findReg {a : Nat} {d : RegDesc} (h : findReg a = some d) (hrw : d.rw = 0) (hrwl : d.rwl = 0)
    (hwo : d.wo = 0) : d.stg = 0 := by
  have hstg := stg_sub_writable_of_findReg h
  rw [hrw, hrwl, hwo, Nat.or_self, Nat.or_self, Nat.and_zero] at hstg
  exact hstg.symm

theorem RegDesc.allRwl_iff (d : RegDesc) :
    d.allRwl = true ↔ d.rwl ≠ 0 ∧ d.rw = 0 ∧ d.w1c = 0 ∧ d.w1s = 0 ∧ d.wo = 0 := by
  simp [RegDesc.allRwl, Nat.or_eq_zero_iff, and_assoc]

/-! ### The parts of a write that a read-only register makes empty -/

theorem bankWrite_of_no_writable {d : RegDesc} (locked : Bool) (w : Word) (s : State) (hrw : d.rw = 0) (hrwl : d.rwl = 0)
    (hwo : d.wo = 0) (hw1s : d.w1s = 0) : bankWrite d locked w s = (.ok, plainWrite d w s) := by
  simp [bankWrite, hrw, hrwl, hwo, hw1s]

theorem plainWrite_of_no_writable {d : RegDesc} (w : Word) (s : State) (hrw : d.rw = 0) (hrwl : d.rwl = 0) (hwo : d.wo = 0)
    (hstg : d.stg = 0) : plainWrite d w s = s := by
  simp [plainWrite, RegDesc.isCounter, hrw, hrwl, hwo, hstg]

theorem onesWrite_of_no_ones {d : RegDesc} (w : Word) (s : State) (hw1c : d.w1c = 0) (hw1s : d.w1s = 0) : onesWrite d w s = s := by
  simp [onesWrite, hw1c, hw1s]

/-! ### The three outcomes of a write -/

theorem writeReg_of_unassigned {a : Nat} (h : findReg a = none) (v mask : Word) (s : State) : writeReg a v mask s = (.ok, s) := by
  simp only [writeReg, h]

theorem writeReg_of_locked {a : Nat} {d : RegDesc} {s : State} (h : findReg a = some d) (hlock : s.bankLocked (a / 256) = true)
    (hall : d.allRwl = true) (v mask : Word) : writeReg a v mask s = (.refuse 7 0 0, s) := by
  simp [writeReg, h, hlock, hall]

theorem writeReg_of_bankWrite_ok {a : Nat} {d : RegDesc} {v mask : Word} {s t : State} (h : findReg a = some d)
    (hopen : d.allRwl = false)
    (hok : bankWrite d (s.bankLocked (a / 256)) (d.incoming (s.bankLocked (a / 256)) (s.view d) v mask) s = (.ok, t)) :
    writeReg a v mask s = (.ok, onesWrite d (d.incoming (s.bankLocked (a / 256)) (s.view d) v mask) t) := by
  simp [writeReg, h, hopen, hok]

theorem writeReg_of_readOnly {a : Nat} {d : RegDesc} (h : findReg a = some d) (hrw : d.rw = 0) (hrwl : d.rwl = 0) (hw1c : d.w1c = 0)
    (hw1s : d.w1s = 0) (hwo : d.wo = 0) (v mask : Word) (s : State) : writeReg a v mask s = (.ok, s) := by
  have hopen : d.allRwl = false := by simp [RegDesc.allRwl, hrwl]
  have hok := bankWrite_of_no_writable (s.bankLocked (a / 256)) (d.incoming (s.bankLocked (a / 256)) (s.view d) v mask) s
    hrw hrwl hwo hw1s
  rw [plainWrite_of_no_writable _ _ hrw hrwl hwo (stg_eq_zero_of_findReg h hrw hrwl hwo)] at hok
  rw [writeReg_of_bankWrite_ok h hopen hok, onesWrite_of_no_ones _ _ hw1c hw1s]

/-- Settles O52: an unassigned address, a read-only register and a locked register are the three cases of the laws above. -/
theorem readOnlyAndLockedWrites : Obligations.ReadOnlyAndLockedWrites := by
  intro s a v mask
  refine ⟨fun h => writeReg_of_unassigned h v mask s, fun d h => ⟨?_, ?_⟩⟩
  · intro hrw hrwl hw1c hw1s hwo
    exact writeReg_of_readOnly h hrw hrwl hw1c hw1s hwo v mask s
  · intro hlock hrwl hrw hw1c hw1s hwo
    exact writeReg_of_locked h hlock (d.allRwl_iff.mpr ⟨hrwl, hrw, hw1c, hw1s, hwo⟩) v mask

end Sys2Proof.Machine
end

section
/-!
PROOF. The square root that the model finds bit by bit is the whole part of the root, and a placed integration is the nearest whole
number to such a root, never below one (R42, R43, R140).
-/

namespace Sys2Proof.Machine

/-! ### The square root found bit by bit -/

/-- With `k` bits still to try, the root lies in the 2^k numbers from `r` up; each bit tried halves that range. -/
theorem isqrtFrom_bounds {n : Nat} (k r : Nat) (hlow : r * r ≤ n) (hhigh : n < (r + 2 ^ k) * (r + 2 ^ k)) :
    isqrtFrom n k r * isqrtFrom n k r ≤ n ∧ n < (isqrtFrom n k r + 1) * (isqrtFrom n k r + 1) := by
  induction k generalizing r with
  | zero => exact ⟨hlow, hhigh⟩
  | succ k ih =>
    by_cases hset : (r + 2 ^ k) * (r + 2 ^ k) ≤ n
    · rw [Nat.pow_succ, Nat.mul_two, ← Nat.add_assoc] at hhigh
      rw [isqrtFrom, if_pos hset]
      exact ih (r + 2 ^ k) hset hhigh
    · rw [isqrtFrom, if_neg hset]
      exact ih r hlow (Nat.not_le.mp hset)

/-- The bits that `isqrt` tries are enough for the root. -/
theorem lt_two_pow_half_log2_squared (n : Nat) : n < 2 ^ (n.log2 / 2 + 1) * 2 ^ (n.log2 / 2 + 1) := by
  rw [← Nat.pow_add]
  calc n < 2 ^ (n.log2 + 1) := Nat.lt_log2_self
    _ ≤ 2 ^ (n.log2 / 2 + 1 + (n.log2 / 2 + 1)) := Nat.pow_le_pow_right (by decide) (by omega)

/-- `isqrt n` is the greatest number whose square is at most `n`. -/
theorem le_isqrt_iff {m n : Nat} : m ≤ isqrt n ↔ m * m ≤ n := by
  have hbits : n < (0 + 2 ^ (n.log2 / 2 + 1)) * (0 + 2 ^ (n.log2 / 2 + 1)) := by
    rw [Nat.zero_add]
    exact lt_two_pow_half_log2_squared n
  obtain ⟨hsquare, hnext⟩ := isqrtFrom_bounds (n.log2 / 2 + 1) 0 (Nat.zero_le n) hbits
  constructor
  · intro hm
    exact Nat.le_trans (Nat.mul_self_le_mul_self hm) hsquare
  · intro hm
    exact Nat.le_of_lt_succ (Nat.mul_self_lt_mul_self_iff.mp (Nat.lt_of_le_of_lt hm hnext))

/-! ### The nearest root -/

/-- The nearest whole number lies above `j` exactly where the root of n / d is at least j + 1/2: a tie goes up. -/
theorem lt_nearestRoot_iff {n d j : Nat} (hd : 0 < d) : j < nearestRoot n d ↔ (2 * j + 1) * (2 * j + 1) * d ≤ 4 * n := by
  have hhalf : j < nearestRoot n d ↔ 2 * j + 1 ≤ isqrt (4 * n / d) := by
    rw [nearestRoot]
    omega
  rw [hhalf, le_isqrt_iff, Nat.le_div_iff_mul_le hd]

theorem lt_nearestRoot_square_one_iff {n j : Nat} : j < nearestRoot (n * n) 1 ↔ j < n := by
  calc j < nearestRoot (n * n) 1 ↔ (2 * j + 1) * (2 * j + 1) ≤ (2 * n) * (2 * n) := by
        rw [lt_nearestRoot_iff Nat.one_pos, Nat.mul_one, Nat.mul_mul_mul_comm 2 n 2 n]
    _ ↔ 2 * j + 1 ≤ 2 * n := Nat.mul_self_le_mul_self_iff
    _ ↔ j < n := by omega

theorem nearestRoot_square_one (n : Nat) : nearestRoot (n * n) 1 = n :=
  Nat.le_antisymm (Nat.not_lt.mp fun h => Nat.lt_irrefl n (lt_nearestRoot_square_one_iff.mp h))
    (Nat.not_lt.mp fun h => Nat.lt_irrefl _ (lt_nearestRoot_square_one_iff.mpr h))

theorem nearestRoot_antitone {d e : Nat} (n : Nat) (hd : 0 < d) (hde : d ≤ e) : nearestRoot n e ≤ nearestRoot n d := by
  refine Nat.not_lt.mp fun hlt => Nat.lt_irrefl (nearestRoot n d) ?_
  rw [lt_nearestRoot_iff (Nat.lt_of_lt_of_le hd hde)] at hlt
  exact (lt_nearestRoot_iff hd).mpr (Nat.le_trans (Nat.mul_le_mul_left _ hde) hlt)

/-! ### The placed integrations -/

/-- An integration of tl / √d slots placed to the nearest slot, and never below one (R43): both lengths of R42 are of this form. -/
theorem placed_within_half_slot (tl : Nat) {d : Nat} (hd : 0 < d) :
    let n := max 1 (nearestRoot (tl * tl) d)
    1 ≤ n ∧ 4 * tl * tl < (2 * n + 1) * (2 * n + 1) * d ∧ (n = 1 ∨ (2 * n - 1) * (2 * n - 1) * d ≤ 4 * tl * tl) := by
  intro n
  have hpos : 1 ≤ n := Nat.le_max_left ..
  have hge : nearestRoot (tl * tl) d ≤ n := Nat.le_max_right ..
  refine ⟨hpos, ?_, ?_⟩
  · rw [Nat.mul_assoc 4, ← Nat.not_le, ← lt_nearestRoot_iff hd]
    exact Nat.not_lt_of_le hge
  · by_cases hone : n = 1
    · exact .inl hone
    · have hlt : n - 1 < nearestRoot (tl * tl) d := by omega
      rw [lt_nearestRoot_iff hd, show 2 * (n - 1) + 1 = 2 * n - 1 by omega, ← Nat.mul_assoc 4] at hlt
      exact .inr hlt

theorem placedLong_zero (tl : Nat) : placedLong tl 0 = max 1 tl := by
  rw [placedLong, Nat.pow_zero, nearestRoot_square_one]

theorem max_one_nearestRoot_antitone {d e : Nat} (n : Nat) (hd : 0 < d) (hde : d ≤ e) :
    max 1 (nearestRoot n e) ≤ max 1 (nearestRoot n d) :=
  Nat.max_le.mpr ⟨Nat.le_max_left .., Nat.le_trans (nearestRoot_antitone n hd hde) (Nat.le_max_right ..)⟩

theorem placedLong_succ_le (tl k : Nat) : placedLong tl (k + 1) ≤ placedLong tl k :=
  max_one_nearestRoot_antitone _ (Nat.two_pow_pos k) (Nat.pow_le_pow_right (by decide) k.le_succ)

theorem placedShort_le_placedLong (tl k q : Nat) : placedShort tl k q ≤ placedLong tl k :=
  max_one_nearestRoot_antitone _ (Nat.two_pow_pos k) (Nat.le_mul_of_pos_right _ (Nat.pow_pos (by decide)))

/-- Settles O54: both lengths are the nearest whole number to a root, and that root falls as the index or Q grows. -/
theorem edgesLieAtTheNearestSlot : Obligations.EdgesLieAtTheNearestSlot := by
  intro tl k q
  have hshort : 0 < 2 ^ k * 4 ^ q := Nat.mul_pos (Nat.two_pow_pos k) (Nat.pow_pos (by decide))
  exact ⟨placed_within_half_slot tl (Nat.two_pow_pos k), placed_within_half_slot tl hshort,
    placedLong_zero tl, placedLong_succ_le tl k, placedShort_le_placedLong tl k q⟩

end Sys2Proof.Machine
end

section
/-!
PROOF. Fields of a word: what a field holds after it or another field is replaced, and that a count saturates (R85).
-/

namespace Sys2Proof.Machine

open Sys2Proof (Word)

/-! ### Bits of a word with one field replaced -/

/-- Taking away the bits that a word shares with a mask clears them. -/
theorem toNat_sub_and_eq (w m : Word) : w.toNat - (w.toNat &&& m.toNat) = (w &&& ~~~m).toNat := by
  have hdisjoint : (w &&& m) &&& (w &&& ~~~m) = 0#32 := by
    ext i
    cases hm : m[i] <;> simp [hm]
  have hsplit : (w &&& m) + (w &&& ~~~m) = w := by
    rw [BitVec.add_eq_or_of_and_eq_zero _ _ hdisjoint]
    ext i
    simp [← Bool.and_or_distrib_left]
  have hsum := BitVec.toNat_add_of_and_eq_zero hdisjoint
  rw [hsplit, BitVec.toNat_and w m] at hsum
  omega

theorem fieldMask_lt {lo len : Nat} (hfit : lo + len ≤ 32) : (2 ^ len - 1) <<< lo < 2 ^ 32 :=
  Nat.lt_pow_two_of_testBit _ fun j hj => by
    rw [Nat.testBit_shiftLeft, Nat.testBit_two_pow_sub_one]
    simp; omega

theorem getLsbD_fieldMask {lo len : Nat} (hfit : lo + len ≤ 32) (i : Nat) :
    (w32 ((2 ^ len - 1) <<< lo)).getLsbD i = decide (lo ≤ i ∧ i < lo + len) := by
  rw [w32, BitVec.getLsbD_ofNat, Nat.testBit_shiftLeft, Nat.testBit_two_pow_sub_one]
  grind

theorem putBits_eq_or {lo len : Nat} (hfit : lo + len ≤ 32) (w : Word) (v : Nat) :
    putBits w lo len v = (w &&& ~~~(w32 ((2 ^ len - 1) <<< lo))) ||| w32 ((v % 2 ^ len) <<< lo) := by
  have hmask : (w32 ((2 ^ len - 1) <<< lo)).toNat = (2 ^ len - 1) <<< lo := Nat.mod_eq_of_lt (fieldMask_lt hfit)
  rw [putBits, ← hmask, toNat_sub_and_eq, hmask, w32, w32, BitVec.ofNat_or, BitVec.ofNat_toNat, BitVec.setWidth_eq]
  rfl

theorem getLsbD_putBits {lo len : Nat} (hfit : lo + len ≤ 32) (w : Word) (v i : Nat) :
    (putBits w lo len v).getLsbD i = if lo ≤ i ∧ i < lo + len then v.testBit (i - lo) else w.getLsbD i := by
  rw [putBits_eq_or hfit, BitVec.getLsbD_or, BitVec.getLsbD_and, BitVec.getLsbD_not, getLsbD_fieldMask hfit, w32,
    BitVec.getLsbD_ofNat, Nat.testBit_shiftLeft, Nat.testBit_mod_two_pow]
  by_cases hin : lo ≤ i ∧ i < lo + len
  · rw [if_pos hin]
    grind
  · rw [if_neg hin]
    grind

/-! ### Fields of a word -/

theorem testBit_bits (w : Word) (lo len j : Nat) : (bits w lo len).testBit j = (decide (j < len) && w.getLsbD (lo + j)) := by
  rw [bits, Nat.testBit_mod_two_pow, Nat.testBit_shiftRight, BitVec.testBit_toNat]

theorem bits_putBits_same {lo len : Nat} (hfit : lo + len ≤ 32) (w : Word) (v : Nat) :
    bits (putBits w lo len v) lo len = v % 2 ^ len := by
  refine Nat.eq_of_testBit_eq fun j => ?_
  rw [testBit_bits, getLsbD_putBits hfit, Nat.testBit_mod_two_pow]
  grind

theorem bits_putBits_disjoint {lo len lo' len' : Nat} (hfit : lo + len ≤ 32) (hdisjoint : lo' + len' ≤ lo ∨ lo + len ≤ lo')
    (w : Word) (v : Nat) : bits (putBits w lo len v) lo' len' = bits w lo' len' := by
  refine Nat.eq_of_testBit_eq fun j => ?_
  rw [testBit_bits, testBit_bits, getLsbD_putBits hfit]
  grind

theorem putBits_bits_self {lo len : Nat} (hfit : lo + len ≤ 32) (w : Word) : putBits w lo len (bits w lo len) = w := by
  refine BitVec.eq_of_getLsbD_eq fun i _ => ?_
  rw [getLsbD_putBits hfit]
  split
  next hin =>
    rw [testBit_bits, Nat.add_sub_cancel' hin.1, decide_eq_true (by omega), Bool.true_and]
  next => rfl

/-! ### Fields in force -/

theorem State.rd_wr_same {f : Fld} (hfit : f.lo + f.len ≤ 32) (s : State) (v : Nat) : (s.wr f v).rd f = v % 2 ^ f.len := by
  rw [State.rd, fld, State.wr_mem, Mem.get_set_same, bits_putBits_same hfit]

/-- A write of a field leaves every field of another register, and every field of other bits. -/
theorem State.rd_wr_other {f g : Fld} (hfit : f.lo + f.len ≤ 32)
    (hother : g.addr ≠ f.addr ∨ g.lo + g.len ≤ f.lo ∨ f.lo + f.len ≤ g.lo) (s : State) (v : Nat) : (s.wr f v).rd g = s.rd g := by
  rw [State.rd, State.rd, fld, fld, State.wr_mem]
  by_cases haddr : g.addr = f.addr
  · rw [haddr, Mem.get_set_same, bits_putBits_disjoint hfit (hother.resolve_left fun hne => hne haddr)]
    rfl
  · rw [Mem.get_set_other _ _ haddr]

/-- Settles O51: a count is written as the lesser of the highest value and its successor, which its field holds. -/
theorem countersSaturate : Obligations.CountersSaturate := by
  intro s f hfit
  refine ⟨?_, fun g hother => State.rd_wr_other hfit hother s _⟩
  have hholds : min (2 ^ f.len - 1) (s.rd f + 1) < 2 ^ f.len :=
    Nat.lt_of_le_of_lt (Nat.min_le_left ..) (Nat.sub_one_lt_of_lt (Nat.two_pow_pos _))
  rw [State.bump, State.bumpBy, State.rd_wr_same hfit, Nat.mod_eq_of_lt hholds]

end Sys2Proof.Machine
end

section
/-!
PROOF. The rows that are one write of a register act on that path as the command whose bit they set (R67, R102, R111, R183, R309 to
R311, R443, R451, R533, R570).
-/

namespace Sys2Proof.Machine

open Sys2Proof (Word Instr)

/-! ### The bit that a row sets -/

theorem or_w32_eq_self_of_bit {v : Word} {i : Nat} (hbit : bit v i = true) : v ||| w32 (2 ^ i) = v := by
  refine BitVec.eq_of_getLsbD_eq fun j hj => ?_
  rw [BitVec.getLsbD_or, w32, BitVec.getLsbD_ofNat, Nat.testBit_two_pow]
  by_cases heq : i = j
  · subst heq
    rw [show v.getLsbD i = true from hbit, Bool.true_or]
  · simp [heq]

theorem bits_one_eq_toNat_bit (v : Word) (i : Nat) : bits v i 1 = (bit v i).toNat := by
  rw [bits, bit, Nat.toNat_testBit, Nat.shiftRight_eq_div_pow, Nat.pow_one]

theorem putBits_one_eq_self {v : Word} {i : Nat} (hi : i < 32) : putBits v i 1 (bit v i).toNat = v := by
  rw [← bits_one_eq_toNat_bit, putBits_bits_self hi]

theorem bit_eq_testBit_bits {lo len j : Nat} (hj : j < len) (v : Word) : bit v (lo + j) = (bits v lo len).testBit j := by
  rw [testBit_bits, decide_eq_true hj, Bool.true_and]
  rfl

/-! ### What a reply or an event leaves of the registers -/

theorem State.reg_wr_other {f : Fld} {a : Nat} (haddr : a ≠ f.addr) (s : State) (v : Nat) : (s.wr f v).reg a = s.reg a :=
  Mem.get_set_other _ _ haddr

theorem reg_sendPkt {a : Nat} (hstat : a ≠ R.LNK_STAT) (s : State) (stream n : Nat) : (s.sendPkt stream n).reg a = s.reg a := by
  unfold State.sendPkt
  simp only []
  split
  · exact State.reg_wr_other hstat _ 1
  · rfl

theorem reg_reply {a : Nat} (hstat : a ≠ R.LNK_STAT) (s : State) (op tag gen st fn : Nat) (pl : List Word) :
    (s.reply op tag gen st fn pl).reg a = s.reg a := by
  unfold State.reply
  simp only []
  split
  · exact reg_sendPkt hstat _ 0 _
  · rfl

theorem reg_finish {a : Nat} (hstat : a ≠ R.LNK_STAT) (s : State) (op tag st fn : Nat) (pl : List Word) :
    (s.finish op tag st fn pl).reg a = s.reg a := by
  unfold State.finish
  split
  · rfl
  · exact reg_reply hstat _ _ _ _ st fn pl

theorem reg_event {a : Nat} (hdrop : a ≠ F.CMD_EVDROP_COUNT.addr) (s : State) (code : Nat) (pl : List Word) :
    (s.event code pl).reg a = s.reg a := by
  unfold State.event
  split
  · rfl
  split
  · rfl
  split
  · rfl
  · exact State.reg_wr_other hdrop _ _

/-! ### Stopping the companion leaves its enable (R311) -/

theorem reg_pbCtrl_pbFinal (s : State) (st : Nat) (pl : List Word) : (s.pbFinal st pl).reg R.PB_CTRL = s.reg R.PB_CTRL := by
  unfold State.pbFinal
  split
  · exact reg_finish (by decide) _ 0x61 _ st _ pl
  · rfl

theorem dropCount_ne_pbCtrl (i : Nat) : R.PB_CTRL ≠
    ([F.PB_DROP_LATE_COUNT, F.PB_DROP_FIFO_COUNT, F.PB_DROP_FORMAT_COUNT, F.PB_DROP_SUPER_COUNT].getD i F.PB_DROP_LATE_COUNT).addr :=
  match i with
  | 0 | 1 | 2 | 3 => by decide
  | _ + 4 => show R.PB_CTRL ≠ F.PB_DROP_LATE_COUNT.addr by decide

theorem reg_pbCtrl_pbDrop (s : State) (cfn cause : Nat) : (s.pbDrop cfn cause).reg R.PB_CTRL = s.reg R.PB_CTRL := by
  rw [State.pbDrop, reg_event (by decide), State.bump, State.bumpBy, State.reg_wr_other (dropCount_ne_pbCtrl _)]

theorem reg_pbCtrl_dropReceiving (s : State) (cause : Nat) : (s.dropReceiving cause).reg R.PB_CTRL = s.reg R.PB_CTRL := by
  unfold State.dropReceiving
  split
  · exact reg_pbCtrl_pbDrop _ _ cause
  · rfl

theorem reg_foldl_finish {a : Nat} (hstat : a ≠ R.LNK_STAT) (op st : Nat) (pl : List Word) (tags : List Nat) (s : State) :
    (tags.foldl (fun u tag => u.finish op tag st u.tt.fn pl) s).reg a = s.reg a := by
  induction tags generalizing s with
  | nil => rfl
  | cons tag tags ih => rw [List.foldl_cons, ih, reg_finish hstat]

theorem reg_pbCtrl_dropSets (s : State) : s.dropSets.reg R.PB_CTRL = s.reg R.PB_CTRL :=
  reg_foldl_finish (a := R.PB_CTRL) (by decide) 0x63 0xB [] _ s

theorem reg_pbCtrl_pbStop (s : State) : s.pbStop.reg R.PB_CTRL = s.reg R.PB_CTRL := by
  unfold State.pbStop
  split
  · rfl
  · exact (reg_pbCtrl_dropSets _).trans (reg_pbCtrl_dropReceiving s 3)

theorem State.tst_congr {s t : State} {f : Fld} (hreg : t.reg f.addr = s.reg f.addr) : t.tst f = s.tst f := by
  rw [State.tst, State.tst, State.rd, State.rd, fld, fld]
  exact congrArg (fun w => bits w f.lo f.len != 0) hreg

/-! ### Writes of the bits, each under the checks of its command -/

/-- A row that is one write of a register leaves what that write leaves. -/
theorem moves_of_write_ok {i : Instr} {s t : State} {r : WRes × State} (hwrite : r = (.ok, t))
    (hrow : exec i s = .next (s.keepQueue r.2)) : moves i s t := by
  rw [moves, hrow, hwrite]

theorem wrCnvCal_of_start {v : Word} {s : State} (hstart : bit v 0 = true) (hkeep : bit v 2 = false) (hmode : s.sys.mode = 8)
    (hidle : s.cnv.calBusy = false) :
    let t := s.wr F.CNV_CAL_AVG_LOG2 (clampN 5 12 (bits v 8 4))
    wrCnvCal v s = (.ok, State.wr { t with cnv := { t.cnv with calBusy := true, calAt := s.tt.clk } } F.CNV_CAL_ERR 0) := by
  simp [wrCnvCal, hstart, hkeep, hmode, hidle]

theorem commit_of_no_pending {s : State} (hpend : s.pend = none) (byRom : Bool) :
    s.commit byRom = State.setReg { s with stg := [], pend := some ⟨s.stg, s.tt.clk, s.rpNow, byRom⟩ } R.TT_APPLYFN
      (w32 (applyFnAt s s.takenView s.staged s.tt.clk)) := by
  simp only [State.commit, hpend]

theorem wrTtCommit_of_no_pending {s : State} (hpend : s.pend = none) (hreason : s.commitReason = none) :
    wrTtCommit s = (.ok, s.commit false) := by
  simp [wrTtCommit, hpend, hreason]

theorem wrTtCtrl_of_check {v : Word} {s t : State} (hcheck : bit v 4 = true) (htpl : stageTemplate widTplBuf s = (.ok, t)) :
    wrTtCtrl v s = (.ok, (t.wr F.TT_CTRL_QUIET_EN (bits v 2 1)).wr F.TT_CTRL_LSTEP_EN (bits v 3 1)) := by
  simp [wrTtCtrl, hcheck, htpl, State.wrs]

theorem wrSeqCtrl_of_start {v : Word} {s t : State} (hbit : bit v 0 = true)
    (hstart : seqStart (s.rd F.SEQ_LOOPS_FIRST) (s.rd F.SEQ_LOOPS_LOOPS) s = (.ok, t)) :
    wrSeqCtrl v s = (.ok, t.wr F.SEQ_CTRL_WHEN (bits v 2 2)) := by
  simp [wrSeqCtrl, hbit, hstart]

theorem pend_isSome_commit (s : State) (byRom : Bool) : (s.commit byRom).pend.isSome = true := by
  unfold State.commit
  split
  next h => rw [h]; rfl
  next => rfl

/-- A sequence that starts is begun as a commit (R160). -/
theorem seqStart_ok {first loops : Nat} {s t : State} (h : seqStart first loops s = (.ok, t)) :
    t.exp.seq.isSome = true ∧ t.pend.isSome = true := by
  simp only [seqStart] at h
  split at h
  · cases h
  split at h
  · cases h
  split at h
  · cases h
  split at h
  · cases h
  · cases h
    exact ⟨rfl, pend_isSome_commit _ false⟩

theorem wrSeqCtrl_of_stop {v : Word} {s : State} (hstart : bit v 0 = false) (hstop : bit v 1 = true) {fn : Nat} {t : State}
    (hseq : seqStop (if bits v 2 2 = 3 then 0 else bits v 2 2) s = (.ok, fn, t)) :
    wrSeqCtrl v s = (.ok, t.wr F.SEQ_CTRL_WHEN (bits v 2 2)) := by
  simp [wrSeqCtrl, hstart, hstop, hseq]

theorem seqStop_of_back {when_ : Nat} {s : State} {r : SeqRun} (hseq : s.exp.seq = some r) (htrig : r.trig = false)
    (hback : r.back = true) : seqStop when_ s = (.ok, r.next, s) := by
  simp [seqStop, hseq, htrig, hback]

theorem seqStop_of_running {when_ : Nat} {s : State} {r : SeqRun} (hseq : s.exp.seq = some r) (htrig : r.trig = false)
    (hback : r.back = false) : ∃ last fn, seqStop when_ s =
      (.ok, fn, { s with exp := { s.exp with seq := some { r with last := some last } } }) := by
  simp only [seqStop, hseq, htrig, hback, Bool.false_eq_true, if_false]
  exact ⟨_, _, rfl⟩

theorem wrPbCtrl_of_enable {v : Word} {s t : State} (hcheck : bit v 7 = false) (hen : pbEnable (bit v 0) none s = (.ok, t)) :
    wrPbCtrl v s = (.ok, t.stage R.PB_CTRL (keepMask v 0x7E)) := by
  simp [wrPbCtrl, hcheck, hen]

theorem pbEnable_same {en : Bool} {tag : Option Nat} {s : State} (h : en = s.tst F.PB_CTRL_EN) : pbEnable en tag s = (.ok, s) := by
  simp [pbEnable, h]

theorem wrPbCtrl_of_check {v : Word} {s : State} (hcheck : bit v 7 = true) (hsame : bit v 0 = s.tst F.PB_CTRL_EN)
    (hprof : s.profBad = none) :
    wrPbCtrl v s = (.ok, State.stage { s with pb := { s.pb with profOk := true } } R.PB_CTRL (keepMask v 0x7E)) := by
  have hen : pbEnable (bit v 0) none { s with pb := { s.pb with profOk := true } } = (.ok, _) := pbEnable_same hsame
  simp [wrPbCtrl, hcheck, profCheck, hprof, hen]

theorem pbEnable_on {s : State} (hoff : s.tst F.PB_CTRL_EN = false) (hstep : s.pb.step < 4) (hprof : s.pb.profOk = true) :
    let t := State.wr { s with pb := { s.pb with tag := none } } F.PB_CTRL_EN 1
    pbEnable true none s = (.ok, if pbOffMode s.sys.mode then t else t.pbStart) := by
  simp [pbEnable, hoff, hstep, hprof]

theorem tst_pbCtrl_of_pbEnable_off {s t : State} (hon : s.tst F.PB_CTRL_EN = true) (hstep : s.pb.step < 4)
    (hen : pbEnable false none s = (.ok, t)) : t.tst F.PB_CTRL_EN = false := by
  have hbusy : ¬ 4 ≤ s.pb.step := Nat.not_le.mpr hstep
  simp only [pbEnable, hon, hbusy, decide_false, Bool.false_eq_true, if_false] at hen
  have hreg : t.reg R.PB_CTRL = ((s.pbFinal 0xA []).wr F.PB_CTRL_EN 0).reg R.PB_CTRL := by
    injection hen with _ ht
    rw [← ht]
    split
    · exact reg_pbCtrl_pbFinal _ 0 []
    · exact reg_pbCtrl_pbStop _
  rw [State.tst_congr (f := F.PB_CTRL_EN) hreg, State.tst, State.rd_wr_same (by decide)]
  rfl

theorem wrHkCtrl_of_apply {v : Word} {s : State} (hbit : bit v 0 = true)
    (hreason : seqReason (s.seqStaged 0) (s.seqStaged 1) (s.tst F.THM_HTR_EN) = none) :
    wrHkCtrl v s = (.ok, { s with hk := { s.hk with due := some (s.seqStaged 0 ++ s.seqStaged 1) } }) := by
  simp only [wrHkCtrl, hbit, if_true, hkApply, hreason, hkErr]

theorem testStart_ok {targets pattern dur : Nat} {s : State} (htargets : targets ≠ 0) (hpattern : pattern < 5) (hdur : dur ≠ 0)
    (hidle : s.lnk.test = none) (tag : Option Nat) (inject : Bool) :
    let t := s.clearCheckers targets
    testStart tag targets pattern inject dur s = (.ok, { t with lnk := { t.lnk with
      state := 3, test := some ⟨tag, targets, pattern, inject, t.tt.clk, ms dur + t.tt.clk⟩ } }) := by
  simp [testStart, htargets, Nat.not_le.mpr hpattern, hdur, hidle]

theorem wrLnkTest_of_start {v : Word} {s t : State} (hbit : bit v 14 = true) (hmode : s.checkMode = 9)
    (htest : testStart none (bits v 0 10) (bits v 10 3) (bit v 13) (bits v 16 16) s = (.ok, t)) :
    wrLnkTest v s = (.ok, t.setReg R.LNK_TEST (keepMask v 0xFFFF3FFF)) := by
  simp [wrLnkTest, lnkErr, hbit, hmode, htest]

theorem wrLnkLoop_of_internal {v : Word} {s : State} (hbits : bits v 0 2 = 1) (hmode : s.checkMode = 9)
    (hdur : s.rd F.LNK_TEST_DURATION ≠ 0) (hidle : s.lnk.loop = none) :
    wrLnkLoop v s = (.ok, State.wr { s with lnk := { s.lnk with
      state := 3,
      loop := some ⟨none, 0xF, 0, false, s.tt.clk, ms (s.rd F.LNK_TEST_DURATION) + s.tt.clk⟩ } } F.LNK_LOOP_MODE 1) := by
  simp [wrLnkLoop, lnkErr, loopSet, hbits, hmode, hdur, hidle]

theorem wrLnkCfg_of_linkSet_ok {v : Word} {s t : State} (hmode : [2, 9, 0xC].contains s.checkMode = true)
    (hset : linkSet (keepMask v 0xFF0FF3) s = (.ok, t)) : wrLnkCfg v s = (.ok, t) := by
  simp only [wrLnkCfg, hmode, if_true, hset, lnkErr]

theorem wrClkPll_of_relock {n : Nat} {v : Word} {s : State} (hbit : bit v 4 = true) (hmode : relockOk n s.sys.mode = true) :
    wrClkPll n v s = (.ok, (s.wr ⟨pllAddr n 0, 2, 2⟩ (bits v 2 2)).relock n) := by
  simp [wrClkPll, hbit, hmode]

/-! ### The rows -/

theorem moves_tplCheck {v : Word} {s t : State} (hcheck : bit v 4 = true) (hwrite : wrTtCtrl v s = (.ok, t)) :
    moves (.tplCheck v) s t :=
  moves_of_write_ok ((congrArg (wrTtCtrl · s) (or_w32_eq_self_of_bit hcheck)).trans hwrite) rfl

theorem moves_seqCtrlStart {v : Word} {s t : State} (hstart : bit v 0 = true) (hwrite : wrSeqCtrl v s = (.ok, t)) :
    moves (.seqCtrlStart v) s t :=
  moves_of_write_ok ((congrArg (wrSeqCtrl · s) (or_w32_eq_self_of_bit hstart)).trans hwrite) rfl

/-- STOP 1 and START 0: the row writes SEQ_CTRL as given, and the write is a stop with the given WHEN. -/
theorem moves_seqCtrlStop {v : Word} {s t : State} {fn : Nat} (hbits : bits v 0 2 = 2)
    (hstop : seqStop (if bits v 2 2 = 3 then 0 else bits v 2 2) s = (.ok, fn, t)) :
    moves (.seqCtrlStop v) s (t.wr F.SEQ_CTRL_WHEN (bits v 2 2)) := by
  have hrow : putBits v 0 2 2 = v := (congrArg (putBits v 0 2) hbits).symm.trans (putBits_bits_self (by decide) v)
  have hlow : ∀ j, j < 2 → bit v j = Nat.testBit 2 j := fun j hj => by
    rw [← hbits, ← bit_eq_testBit_bits hj, Nat.zero_add]
  exact moves_of_write_ok ((congrArg (wrSeqCtrl · s) hrow).trans (wrSeqCtrl_of_stop (hlow 0 (by decide)) (hlow 1 (by decide)) hstop)) rfl

theorem moves_companionEnable {v : Word} {s t : State} (hen : bit v 0 = true) (hwrite : wrPbCtrl v s = (.ok, t)) :
    moves (.companionEnable v) s t :=
  have hrow : putBits v 0 1 1 = v := by simpa [hen] using putBits_one_eq_self (v := v) (i := 0) (by decide)
  moves_of_write_ok ((congrArg (wrPbCtrl · s) hrow).trans hwrite) rfl

theorem moves_companionDisable {v : Word} {s t : State} (hen : bit v 0 = false) (hwrite : wrPbCtrl v s = (.ok, t)) :
    moves (.companionDisable v) s t :=
  have hrow : putBits v 0 1 0 = v := by simpa [hen] using putBits_one_eq_self (v := v) (i := 0) (by decide)
  moves_of_write_ok ((congrArg (wrPbCtrl · s) hrow).trans hwrite) rfl

theorem moves_profCheck {v : Word} {s t : State} (hcheck : bit v 7 = true) (hwrite : wrPbCtrl v s = (.ok, t)) :
    moves (.profCheck v) s t :=
  have hrow : putBits v 7 1 1 = v := by simpa [hcheck] using putBits_one_eq_self (v := v) (i := 7) (by decide)
  moves_of_write_ok ((congrArg (wrPbCtrl · s) hrow).trans hwrite) rfl

theorem moves_lnkTestStart {v : Word} {s t : State} (hstart : bit v 14 = true) (hwrite : wrLnkTest v s = (.ok, t)) :
    moves (.lnkTestStart v) s t :=
  moves_of_write_ok ((congrArg (wrLnkTest · s) (or_w32_eq_self_of_bit hstart)).trans hwrite) rfl

theorem moves_relock {n : Nat} {v : Word} {s t : State} (hn : n < 4) (hrelock : bit v 4 = true)
    (hwrite : wrClkPll n v s = (.ok, t)) : moves (.relock n v) s t := by
  have hrow : v ||| 0x10#32 = v := or_w32_eq_self_of_bit hrelock
  have hexec : exec (.relock n v) s = .next (s.keepQueue (if n < 4 then (wrClkPll n (v ||| 0x10#32) s).2 else s)) := rfl
  rw [if_pos hn, hrow] at hexec
  exact moves_of_write_ok hwrite hexec

/-- Settles O18: each row writes its register with its bit set, and that write does what the bit's command does. -/
theorem registerBitsStart : Obligations.RegisterBitsStart := by
  intro s
  refine ⟨?_, ?_, ?_, ?_, ?_, ?_, ?_, ?_, ?_, ?_, ?_, ?_, ?_⟩
  · intro v hstart hkeep hmode hidle
    exact moves_of_write_ok (wrCnvCal_of_start hstart hkeep hmode hidle) rfl
  · intro hpend hreason
    rw [← commit_of_no_pending hpend]
    exact moves_of_write_ok (wrTtCommit_of_no_pending hpend hreason) rfl
  · intro v t hcheck htpl
    exact moves_tplCheck hcheck (wrTtCtrl_of_check hcheck htpl)
  · intro v t hbit hstart
    exact ⟨moves_seqCtrlStart hbit (wrSeqCtrl_of_start hbit hstart), seqStart_ok hstart⟩
  · intro v r hbits hseq htrig
    refine ⟨fun hback => moves_seqCtrlStop hbits (seqStop_of_back hseq htrig hback), fun hback => ?_⟩
    obtain ⟨last, fn, hstop⟩ := seqStop_of_running hseq htrig hback
    exact ⟨_, last, moves_seqCtrlStop hbits hstop, rfl, rfl, rfl,
      (State.rd_wr_same (f := F.SEQ_CTRL_WHEN) (by decide) _ _).trans (Nat.mod_mod _ _)⟩
  · intro v hen hcheck hoff hstep hprof
    exact moves_companionEnable hen (wrPbCtrl_of_enable hcheck (hen ▸ pbEnable_on hoff hstep hprof))
  · intro v t hen hcheck hon hstep hoff
    exact ⟨moves_companionDisable hen (wrPbCtrl_of_enable hcheck (hen ▸ hoff)), tst_pbCtrl_of_pbEnable_off hon hstep hoff⟩
  · intro v hcheck hsame hprof
    exact moves_profCheck hcheck (wrPbCtrl_of_check hcheck hsame hprof)
  · intro hreason
    exact moves_of_write_ok (wrHkCtrl_of_apply (v := 1#32) (by decide) hreason) rfl
  · intro v hbit hmode htargets hpattern hdur hidle
    exact moves_lnkTestStart hbit (wrLnkTest_of_start hbit hmode (testStart_ok htargets hpattern hdur hidle none _))
  · intro v hbits hmode hdur hidle
    exact moves_of_write_ok (wrLnkLoop_of_internal hbits hmode hdur hidle) rfl
  · intro v t hmode hset
    exact moves_of_write_ok (wrLnkCfg_of_linkSet_ok hmode hset) rfl
  · intro n v hn hbit hmode
    exact moves_relock hn hbit (wrClkPll_of_relock hbit hmode)

end Sys2Proof.Machine
end

section
/-!
PROOF. The staged set (R111): what a staged write leaves to read in the staged view, and what it leaves alone.
-/

namespace Sys2Proof.Machine

open Sys2Proof (Word)

/-! ### Overlays -/

theorem Overlay.get?_put_same (o : Overlay) (k : Nat) (w : Word) : (o.put k w).get? k = some w := by
  simp [Overlay.get?, Overlay.put]

theorem Overlay.get?_put_other (o : Overlay) {k b : Nat} (w : Word) (hne : b ≠ k) : (o.put k w).get? b = o.get? b := by
  have hfind : (o.filter (fun p => p.1 != k)).find? (fun p => p.1 == b) = o.find? (fun p => p.1 == b) :=
    Mem.find_filter_eq fun _ => by simpa using hne
  rw [Overlay.get?, Overlay.get?, Overlay.put, List.find?_cons_of_neg (by simpa using hne.symm), hfind]

/-! ### A view with an overlay on it -/

theorem View.over_of_get?_some {o : Overlay} {k : Nat} {w : Word} (v : View) (h : o.get? k = some w) :
    v.over o k = keepMask w (stagedMask k) ||| clearMask (v k) (stagedMask k) := by
  simp only [View.over, h]

theorem View.over_of_get?_none {o : Overlay} {k : Nat} (v : View) (h : o.get? k = none) : v.over o k = v k := by
  simp only [View.over, h]

theorem View.over_congr {o o' : Overlay} {k : Nat} (v : View) (h : o.get? k = o'.get? k) : v.over o k = v.over o' k := by
  simp only [View.over, h]

theorem clearMask_keepMask_or_clearMask (w x : Word) (m : Nat) :
    clearMask (keepMask w m ||| clearMask x m) m = clearMask x m := by
  simp only [clearMask, keepMask]
  ext i
  cases hm : (w32 m)[i] <;> simp [hm]

/-- An overlay changes staged bits alone. -/
theorem View.clearMask_over (v : View) (o : Overlay) (k : Nat) :
    clearMask (v.over o k) (stagedMask k) = clearMask (v k) (stagedMask k) := by
  cases h : o.get? k with
  | some w => rw [View.over_of_get?_some v h, clearMask_keepMask_or_clearMask]
  | none => rw [View.over_of_get?_none v h]

/-! ### Staged writes -/

@[simp] theorem State.stage_live (s : State) (a : Nat) (w : Word) : (s.stage a w).live = s.live := rfl

@[simp] theorem State.stage_pendView (s : State) (a : Nat) (w : Word) : (s.stage a w).pendView = s.pendView := rfl

/-- The bits of a key that are not staged read in the staged view as in the pending one. -/
theorem State.clearMask_staged (s : State) (a : Nat) :
    clearMask (s.staged a) (stagedMask a) = clearMask (s.pendView a) (stagedMask a) :=
  View.clearMask_over s.pendView s.stg a

theorem State.staged_stage_same (s : State) (a : Nat) (w : Word) :
    (s.stage a w).staged a = keepMask w (stagedMask a) ||| clearMask (s.staged a) (stagedMask a) := by
  rw [State.clearMask_staged]
  exact View.over_of_get?_some s.pendView (Overlay.get?_put_same s.stg a w)

theorem State.staged_stage_other (s : State) {a b : Nat} (w : Word) (hne : b ≠ a) : (s.stage a w).staged b = s.staged b :=
  View.over_congr s.pendView (Overlay.get?_put_other s.stg w hne)

/-- Settles O50: the staged word covers its own key alone, and there the staged bits alone; no other set holds it. -/
theorem stagedFieldReadsBack : Obligations.StagedFieldReadsBack := fun s a w =>
  ⟨s.staged_stage_same a w, fun _ hne => s.staged_stage_other w hne, s.stage_live a w, congrFun (s.stage_pendView a w) a⟩

end Sys2Proof.Machine
end

section
/-!
PROOF. The commands of group Timetable (R111, R112, R116 to R120): what serving each one does under the checks of its own rule, and
that the answer is sent.
-/

namespace Sys2Proof.Machine

open Sys2Proof (Word Pkt)

/-! ### A served command is answered -/

/-- SYS_CTRL.SOFT_RESET is asked for by a write of a register or by its own command alone (R696). -/
theorem softAsked_of_other_op {op : Nat} (hop : op ∉ [0x05, 0x11, 0x12, 0x14]) (k : Pkt) : softAsked op k = false := by
  simp only [List.mem_cons, List.not_mem_nil, not_or, or_false] at hop
  obtain ⟨h05, h11, h12, h14⟩ := hop
  simp [softAsked, h05, h11, h12, h14]

/-- A command with nothing to do after its answer leaves what its service leaves, answered. -/
theorem answered_of_srv {op : Nat} {k : Pkt} {s t : State} {c : Cmd} {a : Ans} (hready : ready op k s = true)
    (hcmd : findCmd op = some c) (hop : op ∉ [0x00, 0x03, 0x05, 0x08, 0x11, 0x12, 0x14, 0x21, 0x54, 0xB3])
    (hsrv : c.srv k (s.takes op k) = (a, t)) : .next (s.keepQueue (arrive op k s)) = answered s op k a t := by
  simp only [List.mem_cons, List.not_mem_nil, not_or, or_false] at hop
  obtain ⟨h00, h03, h05, h08, h11, h12, h14, h21, h54, hb3⟩ := hop
  have hsoft : softAsked op k = false := softAsked_of_other_op (by simp [h05, h11, h12, h14]) k
  rw [answered, arrive_answered hready hcmd h00 h08 h54 hb3 h03 h21 hsoft hsrv]

theorem applyMode_of_no_change {s : State} (hchg : s.sys.chg = none) : s.applyMode = s := by
  simp only [State.applyMode, hchg]

/-- LOCK_REFERENCE that decides no change of mode leaves what its service leaves, answered (R117). -/
theorem answered_lockReference {k : Pkt} {s t : State} {a : Ans} (hready : ready 0x21 k s = true) (hchg : t.sys.chg = none)
    (hsrv : srvLockReference k (s.takes 0x21 k) = (a, t)) : exec (.lockReference k) s = answered s 0x21 k a t := by
  have hserved := arrive_served (c := ⟨0x21, 4, 4, srvLockReference⟩) hready rfl (by decide) (by decide) (by decide) (by decide)
    (softAsked_of_other_op (by decide) k) hsrv
  have hafter : (t.answer 0x21 k a).afterwards 0x21 k a = t.answer 0x21 k a :=
    applyMode_of_no_change ((congrArg Sys.chg (answer_quiet t 0x21 k a).sys).trans hchg)
  rw [answered, ← hafter, ← hserved]
  rfl

/-! ### SETTINGS_COMMIT (R111, R112) -/

theorem frameStart_takes (s : State) (op : Nat) (k : Pkt) : ∀ m : Nat, frameStart (s.takes op k) m = frameStart s m
  | 0 => rfl
  | 1 => rfl
  | m + 2 => by
    simp only [frameStart, frameStart_takes s op k (m + 1)]
    rfl

theorem commitTime_takes (s : State) (op : Nat) (k : Pkt) (m : Nat) : commitTime (s.takes op k) m = commitTime s m := by
  simp only [commitTime, frameStart_takes]
  rfl

theorem firstCommit_takes (s : State) (op : Nat) (k : Pkt) (t fuel m : Nat) :
    firstCommit (s.takes op k) t fuel m = firstCommit s t fuel m := by
  induction fuel generalizing m with
  | zero => rfl
  | succ fuel ih => simp only [firstCommit, commitTime_takes, ih, State.takes_tt]

/-- The arrival of a command does not move the frame from which a set applies. -/
theorem applyFnAt_takes (s : State) (op : Nat) (k : Pkt) (old new : View) (t : Nat) :
    applyFnAt (s.takes op k) old new t = applyFnAt s old new t := by
  simp only [applyFnAt, firstCommit_takes, frameStart_takes, commitTime_takes]
  rfl

theorem srvSettingsCommit_ok {s : State} (hpend : s.pend = none) (hreason : s.commitReason = none) (k : Pkt) :
    srvSettingsCommit k s = (.done 0 ((s.commit false).reg R.TT_APPLYFN).toNat [], s.commit false) := by
  simp [srvSettingsCommit, hpend, hreason]

/-- A commit with no set pending leaves its apply FN in TT_APPLYFN. -/
theorem reg_applyFn_commit {s : State} (hpend : s.pend = none) (byRom : Bool) :
    (s.commit byRom).reg R.TT_APPLYFN = w32 (applyFnAt s s.takenView s.staged s.tt.clk) := by
  rw [commit_of_no_pending hpend]
  exact Mem.get_set_same _ _ _

theorem okayAt_settingsCommit {k : Pkt} {s : State} (hready : ready 0x17 k s = true) (hpend : s.pend = none)
    (hreason : s.commitReason = none) :
    let fn := w32 (applyFnAt s s.takenView s.staged s.tt.clk)
    okayAt .settingsCommit 0x17 k s fn.toNat []
      (State.setReg { s.takes 0x17 k with stg := [], pend := some ⟨s.stg, s.tt.clk, s.rpNow, false⟩ } R.TT_APPLYFN fn) := by
  have hpend' : (s.takes 0x17 k).pend = none := hpend
  have hfn : applyFnAt (s.takes 0x17 k) (s.takes 0x17 k).takenView (s.takes 0x17 k).staged (s.takes 0x17 k).tt.clk =
      applyFnAt s s.takenView s.staged s.tt.clk := applyFnAt_takes s 0x17 k _ _ _
  have hsrv := srvSettingsCommit_ok (s := s.takes 0x17 k) hpend hreason k
  rw [reg_applyFn_commit hpend', commit_of_no_pending hpend', hfn] at hsrv
  exact answered_of_srv hready rfl (by decide) hsrv

/-! ### SET_FRAME_RATE (R116) -/

/-- The VTOTAL that SET_FRAME_RATE asks for (R116). -/
def askedVtotal (k : Pkt) (s : State) : Nat :=
  if pf k 1 16 1 == 1 then (if pf k 1 0 16 = 0 then vVmin s.live else pf k 1 0 16)
  else vtFill (pw k 0).toNat (maskCount (vMask s.staged))

/-- The RP that SET_FRAME_RATE asks for (R116). -/
def askedRp (k : Pkt) (s : State) : Nat :=
  if pf k 1 16 1 == 1 then rpFill (pw k 0).toNat (askedVtotal k s) else rpMinRaw (maskCount (vMask s.staged))

/-- RP and VTOTAL staged, with the built template in place of a host's (R103, R116). -/
def State.stageRate (s : State) (rp vt : Nat) : State :=
  ((s.stage R.TT_RP (w32 rp)).stageF F.TT_VTOTAL_VTOTAL vt).stage (wkey widTpl 0) 0#32

/-- No check of R116 refuses: the asked RP and VTOTAL are staged, and the reply gives them. -/
theorem srvSetFrameRate_ok {k : Pkt} {s : State} (hmode : s.checkMode ≠ 0x4)
    (hrp : rpMinRaw (maskCount (vMask s.staged)) ≤ askedRp k s) (hlong : rpTooLong (askedRp k s) = false)
    (hvmin : vVmin s.staged ≤ askedVtotal k s) (hvmax : askedVtotal k s ≤ 65535)
    (hreason : stagedReason (s.stageRate (askedRp k s) (askedVtotal k s)) = none) :
    let t := s.stageRate (askedRp k s) (askedVtotal k s)
    srvSetFrameRate k s = (.done 0 s.tt.fn [w32 (askedRp k s), w32 (askedVtotal k s)],
      { t with tt := { t.tt with
        period := (pw k 0).toNat, rateVt := if pf k 1 16 1 == 1 then pf k 1 0 16 else 0, stretch := pf k 1 16 1 == 1 } }) := by
  have hmode' : ¬ (s.checkMode == 0x4) = true := by simpa using hmode
  have hrpOk : ¬ (decide (askedRp k s < rpMinRaw (maskCount (vMask s.staged))) || rpTooLong (askedRp k s)) = true := by
    simp [hrp, hlong]
  have hvtOk : ¬ (decide (askedVtotal k s < vVmin s.staged) || decide (65535 < askedVtotal k s)) = true := by
    simp [hvmin, hvmax]
  refine (if_neg hmode').trans ((if_neg hrpOk).trans ((if_neg hvtOk).trans ?_))
  change (match stagedReason (s.stageRate (askedRp k s) (askedVtotal k s)) with
    | some r => s.param r
    | none => _) = _
  rw [hreason]
  rfl

/-! ### LOCK_REFERENCE (R92, R117) -/

@[simp] theorem State.setLead_tt (s : State) : s.setLead.tt = s.tt := by
  unfold State.setLead
  split <;> rfl

@[simp] theorem State.setLead_sys (s : State) : s.setLead.sys = s.sys := by
  unfold State.setLead
  split <;> rfl

theorem State.reg_setLead {a : Nat} (hlead : a ≠ R.TT_LEAD) (s : State) : s.setLead.reg a = s.reg a := by
  unfold State.setLead
  split
  · rfl
  · exact Mem.get_set_other _ _ hlead

@[simp] theorem State.lockFree_sys (s : State) : s.lockFree.sys = s.sys := by
  unfold State.lockFree
  simp only []
  split
  · rfl
  · exact (finishOp_quiet _ _ _ _ _).sys

/-- D, M and VTOTAL_RL as TT_REF holds them (R127). -/
def refWord (k : Pkt) : Word := w32 (pf k 0 16 16 + pf k 0 4 2 * 2 ^ 16 + pf k 0 8 8 * 2 ^ 24)

theorem srvLockReference_free {k : Pkt} {s : State} (hopen : s.isOpen 0x21 = false) (hsrc : pf k 0 0 2 = 0)
    (hmode : s.checkMode ≠ 0x4) :
    srvLockReference k s = (.done 0 (fnNext s.tt.fn) [], s.lockFree.setReg R.TT_REF (refWord k)) := by
  simp [srvLockReference, hopen, hsrc, hmode, refWord]

/-- The form of LOCK_REFERENCE's operands that R117 asks of a reference of line marks. -/
structure RefOperandsOk (k : Pkt) : Prop where
  src : pf k 0 0 2 = 1
  d : pf k 0 4 2 ≠ 3
  m_pos : 1 ≤ pf k 0 8 8
  m_le : pf k 0 8 8 ≤ 64
  lines_pos : 1 ≤ pf k 0 16 16
  rl_pos : 1 ≤ pf k 1 0 24
  active_pos : 1 ≤ pf k 2 16 16
  active_le : pf k 2 0 16 + pf k 2 16 16 ≤ pf k 0 16 16

/-- The time of a reference frame that LOCK_REFERENCE announces, as R97 compares it. -/
def refAsked (k : Pkt) : Nat := 524288 * (pf k 0 16 16 * pf k 1 0 24)

/-- The time of D device frames of the settings in force with an RP, as R97 compares it. -/
def refFrames (k : Pkt) (s : State) (rp : Nat) : Nat := 16 * rp * 25 * 2 ^ pf k 0 4 2 * vVtotal s.live

/-- TT_REF, and the chase settings where they are given, as LOCK_REFERENCE writes them (R117, R127). -/
def State.noteReference (s : State) (k : Pkt) : State :=
  let t := (s.setReg R.TT_REF (refWord k)).wr F.TT_CHASE_H (pf k 3 0 16)
  if pf k 3 16 8 = 0 then t else t.wr F.TT_CHASE_GUARD (pf k 3 16 8)

@[simp] theorem State.noteReference_tt (s : State) (k : Pkt) : (s.noteReference k).tt = s.tt := by
  unfold State.noteReference
  split <;> rfl

@[simp] theorem State.noteReference_sys (s : State) (k : Pkt) : (s.noteReference k).sys = s.sys := by
  unfold State.noteReference
  split <;> rfl

theorem State.reg_ttRef_noteReference (s : State) (k : Pkt) : (s.noteReference k).reg R.TT_REF = refWord k := by
  have hchase : ((s.setReg R.TT_REF (refWord k)).wr F.TT_CHASE_H (pf k 3 0 16)).reg R.TT_REF = refWord k :=
    (State.reg_wr_other (by decide) _ _).trans (Mem.get_set_same _ _ _)
  unfold State.noteReference
  split
  · exact hchase
  · exact (State.reg_wr_other (by decide) _ _).trans hchase

/-- The Timetable as acquisition begins (R93, R117). -/
def Tt.acquire (t : Tt) (k : Pkt) : Tt :=
  { t with
    lock := 1, acqStep := 1, first := none, runLen := 0, last := none, agree := 0, jump := [],
    acqAt := t.clk, acqLate := false, tracked := false, rlNom := pf k 1 0 24, act0 := pf k 2 0 16, actN := pf k 2 16 16,
    slip := false, bound := 0, absorbing := false, remaining := 0, loopInt := 0 }

/-- Acquisition begun (R93, R105, R117). -/
def State.beginAcquire (s : State) (k : Pkt) : State :=
  State.setLead { s.noteReference k with tt := (s.noteReference k).tt.acquire k }

theorem State.beginAcquire_tt (s : State) (k : Pkt) : (s.beginAcquire k).tt = s.tt.acquire k :=
  (State.setLead_tt _).trans (congrArg (Tt.acquire · k) (s.noteReference_tt k))

theorem State.beginAcquire_sys (s : State) (k : Pkt) : (s.beginAcquire k).sys = s.sys :=
  (State.setLead_sys _).trans (s.noteReference_sys k)

theorem State.reg_ttRef_beginAcquire (s : State) (k : Pkt) : (s.beginAcquire k).reg R.TT_REF = refWord k :=
  (State.reg_setLead (by decide) _).trans (s.reg_ttRef_noteReference k)

/-- The operands, the ratio of R97, the shortest RP and the warp's excursion all pass: acquisition begins (R117). -/
theorem srvLockReference_acquire {k : Pkt} {s : State} (hopen : s.isOpen 0x21 = false) (hform : RefOperandsOk k)
    (hratio : 2000 * (if refAsked k < refFrames k s (rpRaw s.live) then refFrames k s (rpRaw s.live) - refAsked k
      else refAsked k - refFrames k s (rpRaw s.live)) ≤ refFrames k s (rpRaw s.live))
    (hfast : refFrames k s (rpMinRaw (maskCount (vMask s.live))) ≤ refAsked k) (hexc : excursionBad s.staged = false) :
    srvLockReference k s = (.accepted [], s.beginAcquire k) := by
  have hsrc : ¬ pf k 0 0 2 = 0 := by rw [hform.src]; decide
  have hform' : ¬ (pf k 0 0 2 ≠ 1 ∨ pf k 0 4 2 = 3 ∨ pf k 0 8 8 = 0 ∨ 64 < pf k 0 8 8 ∨ pf k 0 16 16 = 0 ∨ pf k 1 0 24 = 0 ∨
      pf k 2 16 16 = 0 ∨ pf k 0 16 16 < pf k 2 0 16 + pf k 2 16 16) := by
    obtain ⟨_, _, _, _, _, _, _, _⟩ := hform
    omega
  have hratio' := Nat.not_lt.mpr hratio
  have hfast' := Nat.not_lt.mpr hfast
  have hopen' : ¬ s.isOpen 0x21 = true := by simp [hopen]
  have hexc' : ¬ excursionBad s.staged = true := by simp [hexc]
  exact (if_neg hopen').trans ((if_neg hsrc).trans ((if_neg hform').trans ((if_neg hratio').trans ((if_neg hfast').trans
    (if_neg hexc')))))

/-! ### EVENT_TABLE_LOAD (R119) -/

/-- The template so far with the entries of one chunk: FIRST clears what was loaded and gives the header (R119). -/
def State.loadEntries (s : State) (k : Pkt) : State :=
  let t := if pf k 0 16 1 = 1 then s.setRun (wkey widTplLoad 0) (pw k 1 :: List.replicate 512 0#32) else s
  t.setRun (wkey widTplLoad (1 + 2 * pf k 0 0 9)) (k.payload.drop 2)

section
variable {k : Pkt} {s : State} (heven : (k.payload.drop 2).length % 2 = 0)
  (hfits : pf k 0 0 9 + (k.payload.drop 2).length / 2 ≤ 252)
include heven hfits

theorem srvEventTableLoad_more (hlast : pf k 0 17 1 = 0) :
    srvEventTableLoad k s = (.done 0 (s.loadEntries k).tt.fn [], s.loadEntries k) := by
  have hfits' := Nat.not_lt.mpr hfits
  have hmore : ¬ pf k 0 17 1 = 1 := by omega
  simp only [srvEventTableLoad, heven, hfits', hmore, ne_eq, not_true_eq_false, if_false]
  rfl

theorem srvEventTableLoad_last (hlast : pf k 0 17 1 = 1) {x : State}
    (hstage : stageTemplate widTplLoad (s.loadEntries k) = (.ok, x)) :
    srvEventTableLoad k s = (.done 0 x.tt.fn [], x) := by
  have hfits' := Nat.not_lt.mpr hfits
  simp only [State.loadEntries] at hstage
  simp only [srvEventTableLoad, heven, hfits', hlast, hstage, ne_eq, not_true_eq_false, if_false, if_true]
  rfl

end

/-! ### STROBE_CONFIG (R114, R120) -/

/-- The words of STROBE_CONFIG staged (R120). -/
def State.stageStrobe (s : State) (k : Pkt) : State :=
  ((s.stage R.TT_STROBE (keepMask (pw k 0) 0xFF7)).stage keyStrobe1 (pw k 1)).stage keyStrobe2 (pw k 2)

/-- The rows of ROWS mode lie in the array and within the integration (R114). -/
def strobeRowsOk (k : Pkt) (v : View) : Prop :=
  pf k 1 0 13 ≤ pf k 1 13 13 ∧ pf k 1 13 13 ≤ 4143 ∧ 16 * (pf k 1 13 13 - pf k 1 0 13 + 1) ≤ vTl v

/-- A position lies in the frame or in the one before it (R114). -/
def strobePosOk (w : Word) (v : View) : Prop := - (vVtotal v : Int) ≤ entPos w ∧ entPos w < (vVtotal v : Int)

theorem srvStrobeConfig_ok {k : Pkt} {s : State} (hmode : pf k 0 0 2 ≠ 3) (hrows : pf k 0 0 2 = 1 → strobeRowsOk k s.staged)
    (hpos : pf k 0 0 2 = 2 → ∀ i, i = 1 ∨ i = 2 → strobePosOk (pw k i) s.staged) :
    srvStrobeConfig k s = (.done 0 s.tt.fn [], s.stageStrobe k) := by
  have hrows' : ¬ (decide (pf k 0 0 2 = 1) && (decide (pf k 1 13 13 < pf k 1 0 13) || decide (4143 < pf k 1 13 13) ||
      decide (vTl s.staged < 16 * (pf k 1 13 13 - pf k 1 0 13 + 1)))) = true := by
    simp only [Bool.and_eq_true, Bool.or_eq_true, decide_eq_true_eq]
    rintro ⟨hone, hbad⟩
    obtain ⟨hle, hin, hshort⟩ := hrows hone
    omega
  have hpos' : ¬ (decide (pf k 0 0 2 = 2) &&
      (decide (entPos (pw k 1) < -(vVtotal s.staged : Int) ∨ (vVtotal s.staged : Int) ≤ entPos (pw k 1)) ||
        decide (entPos (pw k 2) < -(vVtotal s.staged : Int) ∨ (vVtotal s.staged : Int) ≤ entPos (pw k 2)))) = true := by
    simp only [Bool.and_eq_true, Bool.or_eq_true, decide_eq_true_eq]
    rintro ⟨htwo, hbad⟩
    obtain ⟨hlo1, hhi1⟩ := hpos htwo 1 (.inl rfl)
    obtain ⟨hlo2, hhi2⟩ := hpos htwo 2 (.inr rfl)
    omega
  simp only [srvStrobeConfig, if_neg hmode, if_neg hrows', if_neg hpos']
  rfl

/-- Settles O6: under its hypotheses no check of a command's own rule refuses it, and its service leaves the stated words and state. -/
theorem timetableCommandsAnswer : Obligations.TimetableCommandsAnswer := by
  intro k s
  refine ⟨okayAt_settingsCommit, ?_, ?_, ?_, ?_, ?_⟩
  · intro hready hmode u period stretch windows vt rp t hrp hlong hvmin hvmax hreason
    exact answered_of_srv hready rfl (by decide)
      (srvSetFrameRate_ok (s := s.takes 0x20 k) hmode hrp hlong hvmin hvmax hreason)
  · intro hready hchg hopen
    refine ⟨fun hsrc hmode => ?_, ?_⟩
    · exact answered_lockReference hready ((congrArg Sys.chg (State.lockFree_sys _)).trans hchg)
        (srvLockReference_free hopen hsrc hmode)
    · intro hsrc hd hmpos hmle hlines hrl hactpos hactle hratio hfast hexc
      have hsrv := srvLockReference_acquire (s := s.takes 0x21 k) hopen
        ⟨hsrc, hd, hmpos, hmle, hlines, hrl, hactpos, hactle⟩ hratio hfast hexc
      have htt := (s.takes 0x21 k).beginAcquire_tt k
      have hsys := (s.takes 0x21 k).beginAcquire_sys k
      exact ⟨_, answered_lockReference hready ((congrArg Sys.chg hsys).trans hchg) hsrv, congrArg Tt.lock htt,
        congrArg Tt.acqAt htt, congrArg Tt.rlNom htt, congrArg Tt.act0 htt, congrArg Tt.actN htt, State.reg_ttRef_beginAcquire _ k⟩
  · intro hready
    exact answered_of_srv (c := ⟨0x22, 0, 0, srvGetTimebase⟩) hready rfl (by decide) rfl
  · intro hready u start ws t0 t heven hfits
    exact ⟨fun hlast => answered_of_srv hready rfl (by decide) (srvEventTableLoad_more heven hfits hlast),
      fun hlast x hstage => answered_of_srv hready rfl (by decide) (srvEventTableLoad_last heven hfits hlast hstage)⟩
  · intro hready hmode u y0 y1 hrows hpos
    exact answered_of_srv hready rfl (by decide) (srvStrobeConfig_ok (s := s.takes 0x24 k) hmode hrows hpos)

end Sys2Proof.Machine
end

section
/-!
PROOF. The commands of group Exposure (R164 to R171): what serving each one does under the checks of its own rule.
-/

namespace Sys2Proof.Machine

open Sys2Proof (Word Pkt)

/-! ### SET_EXPOSURE (R165) -/

/-- The TL, the pixel-gain mask and the ramp gains of SET_EXPOSURE staged, each where the packet gives it (R156, R165). -/
def State.stageExposure (s : State) (k : Pkt) : State :=
  let t := if (pw k 0).toNat = 0 then s else s.stageF F.EXP_TL_SLOTS (s.slotsOfNs (pw k 0).toNat)
  let t := if pf k 1 0 4 = 0 then t else t.stageF F.EXP_SAMPLES_MASK (pf k 1 0 4)
  if pf k 1 16 1 = 1 ∨ (s.aeOn = true ∧ pf k 1 8 8 = 0) then t else t.stage R.CNV_RAMP (w32 (pf k 1 8 8))

/-- What SET_EXPOSURE's operands keep: no sample mask 8, only what AE leaves free, and a TL within its range (R138, R156, R165). -/
structure ExposureOperandsOk (k : Pkt) (s : State) : Prop where
  mask : pf k 1 0 4 ≠ 8
  ae : s.aeOn = true → (pw k 0).toNat = 0 ∧ (pf k 1 8 8 = 0 ∨ pf k 1 16 1 = 1)
  tl : (pw k 0).toNat ≠ 0 → 256 ≤ s.slotsOfNs (pw k 0).toNat ∧ s.slotsOfNs (pw k 0).toNat ≤ 1048560

section
variable {k : Pkt} {s : State} (hform : ExposureOperandsOk k s) (hreason : stagedReason (s.stageExposure k) = none)
include hform hreason

theorem setExposure_ok : setExposure k s = .inr (s.stageExposure k) := by
  obtain ⟨hmask, hae, htl⟩ := hform
  have hfree : ¬ (s.aeOn = true ∧ ((pw k 0).toNat ≠ 0 ∨ pf k 1 8 8 ≠ 0 ∧ ¬ pf k 1 16 1 = 1)) := by
    rintro ⟨hon, hasked⟩
    have hkept := hae hon
    omega
  have hlow : ¬ ((pw k 0).toNat ≠ 0 ∧ s.slotsOfNs (pw k 0).toNat < 256) := by omega
  have hhigh : ¬ ((pw k 0).toNat ≠ 0 ∧ 1048560 < s.slotsOfNs (pw k 0).toNat) := by omega
  simp only [State.stageExposure] at hreason ⊢
  simp only [setExposure, beq_iff_eq, bne_iff_ne, Bool.or_eq_true, Bool.and_eq_true, Bool.not_eq_true', beq_eq_false_iff_ne,
    decide_eq_true_eq, hmask, hfree, hlow, hhigh, if_false, hreason]

variable (hmode : s.checkMode ≠ 6)
include hmode

/-- Without APPLY the exposure is staged, and the reply gives the TL as placed. -/
theorem srvSetExposure_stages (happly : pf k 1 31 1 = 0) :
    srvSetExposure k s = (s.stageExposure k).ok [w32 (vTl (s.stageExposure k).staged)] := by
  simp [srvSetExposure, hmode, happly, setExposure_ok hform hreason]

/-- With APPLY the exposure is staged and committed, and the reply gives the frame from which it applies too. -/
theorem srvSetExposure_commits (happly : pf k 1 31 1 = 1) (hpend : s.pend = none) :
    let u := (s.stageExposure k).commit false
    srvSetExposure k s = (.done 0 (u.reg R.TT_APPLYFN).toNat [w32 (vTl (s.stageExposure k).staged), u.reg R.TT_APPLYFN], u) := by
  simp [srvSetExposure, hmode, happly, hpend, setExposure_ok hform hreason]

end

/-! ### HDR_CONFIG (R166) -/

/-- The words of HDR_CONFIG staged (R166, R174). -/
def State.stageHdr (s : State) (k : Pkt) : State :=
  ((((s.stage R.EXP_RATIO (ratioWord (pw k 0))).stage R.EXP_MTH_HCG (keepMask (pw k 1) 0xFF0FFF)).stage
    (R.EXP_MTH_HCG + 1) (keepMask (pw k 2) 0xFF0FFF)).stage (R.EXP_MTH_HCG + 2) (keepMask (pw k 3) 0xFF0FFF)).stage
    R.EXP_MOTION (keepMask (pw k 4) 0x7FF)

theorem stageAns_ok {s t : State} (hreason : stagedReason t = none) (pl : List Word) : stageAns s t pl = t.ok pl := by
  simp only [stageAns, hreason]

theorem threshOk_iff (w : Word) : threshOk w = true ↔ bits w 0 12 ≤ 3839 ∧ bits w 16 8 ≤ bits w 0 12 :=
  decide_eq_true_iff

theorem srvHdrConfig_ok {k : Pkt} {s : State} (hqmin : 2 ≤ pf k 0 0 4) (hqmax : pf k 0 0 4 ≤ 10)
    (hthresh : ∀ i : Nat, 1 ≤ i → i ≤ 3 → threshOk (pw k i) = true) (hreason : stagedReason (s.stageHdr k) = none) :
    srvHdrConfig k s = (s.stageHdr k).ok [] := by
  have hq : ¬ (pf k 0 0 4 < 2 ∨ 10 < pf k 0 0 4) := by omega
  have hthresh' : ¬ (!(threshOk (pw k 1) && threshOk (pw k 2) && threshOk (pw k 3))) = true := by
    simp [hthresh 1, hthresh 2, hthresh 3]
  exact (if_neg (by simpa using hq)).trans ((if_neg hthresh').trans (stageAns_ok hreason []))

/-! ### SEQ_CONTEXT_WRITE (R168) and SEQ_LIST_LOAD (R169) -/

theorem ctxWrite_ok {c : Nat} {w : Word × Word} {s : State} (hc : c < 16) (hseq : s.exp.seq = none)
    (hreason : ctxReason s.staged
      (ctxWords (s.setRun (wkey 0x0600 (2 * c)) [keepMask w.1 0xFF07FF, keepMask w.2 0xFFFFF]).live c) s.seqTlRef = none) :
    ctxWrite c w s = (.ok, s.setRun (wkey 0x0600 (2 * c)) [keepMask w.1 0xFF07FF, keepMask w.2 0xFFFFF]) := by
  simp only [ctxWrite, if_neg (Nat.not_le.mpr hc), hreason, hseq]

theorem srvSeqContextWrite_ok {k : Pkt} {s t : State} (hwrite : ctxWrite (pf k 0 0 8) (pw k 1, pw k 2) s = (.ok, t)) :
    srvSeqContextWrite k s = t.ok [] := by
  simp only [srvSeqContextWrite, hwrite, seqAns]

/-- The list with a run of entries written from `start` on: CLEAR empties it before, LAST sets its length (R158, R169). -/
def State.loadList (s : State) (start : Nat) (clear last : Prop) [Decidable clear] [Decidable last] (es : List Word) : State :=
  let t := if clear then State.wr (s.setRun (wkey 0x0601 0) (List.replicate 64 0#32)) F.SEQ_STAT_LEN 0 else s
  let t := t.setRun (wkey 0x0601 start) (es.map (fun w => keepMask w 0xFFFFF))
  if last then t.wr F.SEQ_STAT_LEN (start + es.length) else t

theorem find?_badContext_eq_none {es : List Word} (hctx : ∀ w ∈ es, bits w 0 8 < 16) :
    (List.range es.length).find? (fun i => decide (16 ≤ bits (es.getD i 0#32) 0 8)) = none := by
  simp only [List.find?_eq_none, List.mem_range, decide_eq_true_eq, Nat.not_le]
  intro i hi
  rw [List.getD_eq_getElem?_getD, List.getElem?_eq_getElem hi, Option.getD_some]
  exact hctx _ (List.getElem_mem hi)

/-- A run of entries that fits, of contexts that exist, is written where no sequence runs and the mode is not TRIGGERED. -/
theorem listWrite_ok {start : Nat} {clear last : Bool} {es : List Word} {s : State} (hseq : s.exp.seq = none)
    (hmode : s.checkMode ≠ 5) (hfits : start + es.length ≤ 64) (hctx : ∀ w ∈ es, bits w 0 8 < 16) :
    listWrite start clear last es s = (.ok, s.loadList start (clear = true) (last = true) es) := by
  simp only [listWrite, hseq, find?_badContext_eq_none hctx, if_neg (Nat.not_lt.mpr hfits), beq_false_of_ne hmode, Option.isSome_none,
    Bool.false_and, Bool.false_eq_true, if_false]
  rfl

theorem srvSeqListLoad_ok {k : Pkt} {s : State} (hseq : s.exp.seq = none) (hmode : s.checkMode ≠ 5)
    (hfits : pf k 0 0 6 + (k.payload.drop 1).length ≤ 64) (hctx : ∀ w ∈ k.payload.drop 1, bits w 0 8 < 16) :
    srvSeqListLoad k s = (s.loadList (pf k 0 0 6) (pf k 0 16 1 = 1) (pf k 0 17 1 = 1) (k.payload.drop 1)).ok [] := by
  simp only [srvSeqListLoad, listWrite_ok hseq hmode hfits hctx, seqAns, State.loadList, beq_iff_eq]

/-! ### SEQ_START (R160, R170) -/

/-- The exposure words of a context staged (R157, R160). -/
def State.stageCtx (s : State) (w : Word × Word) (ref : Nat) : State :=
  (ctxOverlay s.staged w ref).foldl (fun t p => t.stage p.1 p.2) s

@[simp] theorem State.stageCtx_pend (s : State) (w : Word × Word) (ref : Nat) : (s.stageCtx w ref).pend = s.pend := rfl

/-- The set that starts a sequence, of its first entry's context, committed (R160). -/
def State.commitFirst (s : State) (first : Nat) : State :=
  (s.stageCtx (ctxWords s.live (bits ((seqList s.live).getD first 0#32) 0 8)) (s.tlRef s.takenView)).commit false

/-- A sequence begun as a commit, with the change of mode to SEQUENCE decided for its first frame (R160). -/
def State.beginSequence (s : State) (first loops : Nat) : State :=
  let t := s.commitFirst first
  let fn := (t.reg R.TT_APPLYFN).toNat
  { t with exp := { t.exp with seq := some (seqRunAt s s.takenView fn first loops false) },
           sys := { t.sys with chg := some ⟨6, t.tt.clk, some fn⟩ } }

theorem seqStart_begins {first loops : Nat} {s : State} (hmode : s.checkMode = 3) (hseq : s.exp.seq = none) (hpend : s.pend = none)
    (hfirst : first < (seqList s.live).length)
    (hlist : listReason s s.staged s.takenView s.effBefore (seqList s.live) first loops (s.tlRef s.takenView) = none) :
    seqStart first loops s = (.ok, s.beginSequence first loops) := by
  simp only [seqStart, hmode, hseq, hpend, hlist, if_neg (Nat.not_le.mpr hfirst), bne_self_eq_false, Option.isSome_none, Bool.or_self,
    Bool.false_eq_true, if_false]
  rfl

theorem srvSeqStart_ok {k : Pkt} {s t : State} (hstart : seqStart (pf k 0 0 6) (pf k 1 0 16) s = (.ok, t)) :
    srvSeqStart k s = (.done 0 (t.reg R.TT_APPLYFN).toNat [], t) := by
  simp only [srvSeqStart, hstart]

theorem State.beginSequence_stg {s : State} (hpend : s.pend = none) (first loops : Nat) : (s.beginSequence first loops).stg = [] := by
  change (s.commitFirst first).stg = []
  rw [State.commitFirst, commit_of_no_pending (by rwa [State.stageCtx_pend]), State.setReg_stg]

theorem State.beginSequence_pend_isSome (s : State) (first loops : Nat) : (s.beginSequence first loops).pend.isSome = true :=
  pend_isSome_commit (s.stageCtx _ _) false

theorem commit_tt (s : State) (byRom : Bool) : (s.commit byRom).tt = s.tt := by
  unfold State.commit
  split <;> rfl

/-- SEQUENCE is decided at the time of the command, for the frame from which the set applies (R160). -/
theorem State.beginSequence_chg (s : State) (first loops : Nat) :
    (s.beginSequence first loops).sys.chg =
      some ⟨6, s.tt.clk, some ((s.beginSequence first loops).reg R.TT_APPLYFN).toNat⟩ := by
  have htt : (s.commitFirst first).tt = s.tt := commit_tt (s.stageCtx _ _) false
  rw [← htt]
  rfl

theorem w32_toNat (w : Word) : w32 w.toNat = w := by
  simp [w32]

/-! ### SEQ_STOP (R163, R171) -/

/-- A running sequence is given its last frame, and the answer's FN is that of the frame after it (R163). -/
theorem seqStop_ends {when_ : Nat} {s : State} {r : SeqRun} (hseq : s.exp.seq = some r) (htrig : r.trig = false)
    (hback : r.back = false) : ∃ last, seqStop when_ s =
      (.ok, fnNext last, { s with exp := { s.exp with seq := some { r with last := some last } } }) := by
  simp only [seqStop, hseq, htrig, hback, Bool.false_eq_true, if_false]
  exact ⟨_, rfl⟩

theorem srvSeqStop_ok {k : Pkt} {s t : State} {fn : Nat} (hwhen : pf k 0 0 2 ≠ 3) (hstop : seqStop (pf k 0 0 2) s = (.ok, fn, t)) :
    srvSeqStop k s = (.done 0 fn [], t) := by
  simp only [srvSeqStop, beq_false_of_ne hwhen, hstop, Bool.false_eq_true, if_false]

/-- Settles O7: AE_CONFIG and FLICKER_CONFIG have no check of their own; each other command passes its checks under its hypotheses, and the
lemma of its service gives the reply and the state. -/
theorem exposureCommandsAnswer : Obligations.ExposureCommandsAnswer := by
  intro k s
  refine ⟨?_, ?_, ?_, ?_, ?_, ?_, ?_, ?_, ?_⟩
  · intro hready
    exact answered_of_srv (c := ⟨0x30, 4, 4, srvAeConfig⟩) hready rfl (by decide) rfl
  · intro hready hmode u mask gains keep tl t₁ t₂ t hmask hae htl hreason
    have hform : ExposureOperandsOk k (s.takes 0x31 k) := ⟨hmask, hae, htl⟩
    exact ⟨fun happly => answered_of_srv hready rfl (by decide) (srvSetExposure_stages hform hreason hmode happly),
      fun happly hpend => answered_of_srv hready rfl (by decide) (srvSetExposure_commits hform hreason hmode happly hpend)⟩
  · intro hready hqmin hqmax hthresh u t hreason
    exact answered_of_srv hready rfl (by decide) (srvHdrConfig_ok (s := s.takes 0x32 k) hqmin hqmax
      (fun i hlo hhi => (threshOk_iff _).mpr (hthresh i hlo hhi)) hreason)
  · intro hready hc hseq u t hreason
    exact answered_of_srv hready rfl (by decide)
      (srvSeqContextWrite_ok (ctxWrite_ok (s := s.takes 0x33 k) (w := (pw k 1, pw k 2)) hc hseq hreason))
  · intro hready hseq hmode u start es t₁ t₂ t hfits hctx
    exact answered_of_srv hready rfl (by decide) (srvSeqListLoad_ok (s := s.takes 0x34 k) hseq hmode hfits hctx)
  · intro hready hmode hseq hpend first l hfirst hlist
    have hstart := seqStart_begins (s := s.takes 0x35 k) hmode hseq hpend hfirst hlist
    exact ⟨_, _, answered_of_srv hready rfl (by decide) (srvSeqStart_ok hstart), (w32_toNat _).symm,
      State.beginSequence_pend_isSome _ _ _, State.beginSequence_stg (s := s.takes 0x35 k) hpend _ _,
      State.beginSequence_chg _ _ _, _, rfl, rfl, rfl⟩
  · intro hready hwhen r hseq htrig hback
    exact answered_of_srv hready rfl (by decide) (srvSeqStop_ok hwhen (seqStop_of_back (s := s.takes 0x36 k) hseq htrig hback))
  · intro hready hwhen r hseq htrig hback
    obtain ⟨last, hstop⟩ := seqStop_ends (when_ := pf k 0 0 2) (s := s.takes 0x36 k) hseq htrig hback
    exact ⟨_, _, last, answered_of_srv hready rfl (by decide) (srvSeqStop_ok hwhen hstop), rfl, rfl, rfl, rfl, rfl, rfl⟩
  · intro hready
    exact answered_of_srv (c := ⟨0x37, 1, 1, srvFlickerConfig⟩) hready rfl (by decide) rfl

end Sys2Proof.Machine
end

section
/-!
PROOF. The commands of group Seating Plan (R205 to R209): what serving each one does under the checks of its own rule.
-/

namespace Sys2Proof.Machine

open Sys2Proof (Word Pkt)

/-! ### SP_LAW_CONFIG (R206) -/

/-- The law, its band and the compensation of auto-exposure staged (R206). -/
def State.stageLaw (s : State) (k : Pkt) : State :=
  ((s.stage R.SP_LAW (keepMask (pw k 0) 0x0FFFFFFF)).stage R.SP_BAND (keepMask (pw k 1) 0x3F)).stageF F.SP_CTRL_AE_COMP (pf k 2 0 1)

theorem srvSpLawConfig_ok {k : Pkt} {s : State} (htop_pos : 1 ≤ pf k 0 16 12) (htop_le : pf k 0 16 12 ≤ 3839) (hband : 4 ≤ pf k 1 0 6)
    (hspatial : 1 ≤ pf k 0 0 4) (htemporal : 1 ≤ pf k 0 4 4) : srvSpLawConfig k s = (s.stageLaw k).ok [] := by
  have htop : ¬ (pf k 0 16 12 = 0 ∨ 3839 < pf k 0 16 12) := by omega
  have hstep : ¬ (pf k 0 0 4 = 0 ∨ pf k 0 4 4 = 0) := by omega
  exact (if_neg htop).trans ((if_neg (Nat.not_lt.mpr hband)).trans (if_neg hstep))

/-! ### SP_MASK_LOAD (R207) -/

/-- The staged mask emptied where SP_MASK_LOAD gives CLEAR_ALL (R207). -/
def State.clearAllMask (s : State) (k : Pkt) : State :=
  if pf k 2 8 1 = 1 then s.stageRun (wkey 0x0701 0) (List.replicate 262144 0#32) else s

/-- The mask byte of SP_MASK_LOAD staged for the first `h` block rows of its rectangle (R207). -/
def State.stageMaskRows (s : State) (k : Pkt) (h : Nat) : State :=
  (List.range h).foldl (fun x j => x.stageRun (wkey 0x0701 (256 * (pf k 0 16 10 + j)))
    (maskRow s.staged (pf k 0 16 10 + j) (pf k 0 0 10) (pf k 1 0 11) (pf k 2 0 8 % 4 + pf k 2 4 4 * 16))) s

/-- With no rectangle and CLEAR_ALL no check refuses, and no block is written after the clearing. -/
theorem srvSpMaskLoad_clearAll {k : Pkt} {s : State} (hw : pf k 1 0 11 = 0) (hh : pf k 1 16 11 = 0) (hclear : pf k 2 8 1 = 1) :
    srvSpMaskLoad k s = (s.clearAllMask k).ok [] := by
  simp only [srvSpMaskLoad, State.clearAllMask, hw, hh, hclear, beq_self_eq_true, Bool.and_self, Bool.not_true, Bool.false_and,
    Bool.false_eq_true, if_true, if_false, List.range_zero, List.foldl_nil]

theorem srvSpMaskLoad_rectangle {k : Pkt} {s : State} (hw : 1 ≤ pf k 1 0 11) (hh : 1 ≤ pf k 1 16 11)
    (hright : pf k 0 0 10 + pf k 1 0 11 ≤ 1024) (hbottom : pf k 0 16 10 + pf k 1 16 11 ≤ 1024) :
    srvSpMaskLoad k s = ((s.clearAllMask k).stageMaskRows k (pf k 1 16 11)).ok [] := by
  have hw' : pf k 1 0 11 ≠ 0 := Nat.ne_of_gt hw
  have hh' : pf k 1 16 11 ≠ 0 := Nat.ne_of_gt hh
  simp only [srvSpMaskLoad, beq_false_of_ne hw', hw', hh', Nat.not_lt.mpr hright, Nat.not_lt.mpr hbottom, decide_false, Bool.false_and,
    Bool.or_false, Bool.and_false, Bool.false_eq_true, if_false, beq_iff_eq]
  rfl

/-! ### SP_OVERRIDE (R208) -/

theorem srvSpOverride_ok {k : Pkt} {s : State} (haction : pf k 0 0 2 ≠ 3) :
    srvSpOverride k s = ((s.stageF F.SP_CTRL_ACTION (pf k 0 0 2)).stageF F.SP_CTRL_FORCE_K (pf k 0 4 4)).ok [] :=
  if_neg haction

/-! ### SP_MAP_READ (R209) -/

/-- The map byte of the `i`-th block of SP_MAP_READ's run, and 0 past its end. -/
def mapRunByte (k : Pkt) (rows : List BlockRow) (i : Nat) : Nat :=
  let start := 1024 * pf k 1 16 10 + pf k 1 0 10
  if i < pf k 2 0 11 then mapByte rows ((start + i) % 1024) ((start + i) / 1024) else 0

/-- `n` values packed in words of `per` fields of `width` bits, the first one lowest. -/
def packedWords (per width n : Nat) (value : Nat → Nat) : List Word :=
  (List.range (ceilDiv n per)).map (fun i => w32 (total ((List.range per).map (fun j => value (per * i + j) * 2 ^ (width * j)))))

/-- The words of SP_MAP_READ's run: whole map bytes, or their exposure indices alone (R209). -/
def mapRunWords (k : Pkt) (rows : List BlockRow) : List Word :=
  if pf k 0 8 1 = 1 then packedWords 4 8 (pf k 2 0 11) (mapRunByte k rows)
  else packedWords 8 4 (pf k 2 0 11) (fun i => mapRunByte k rows i % 16)

theorem srvSpMapRead_ok {k : Pkt} {s : State} {fn : Nat} {rows : List BlockRow} (hpos : 1 ≤ pf k 2 0 11)
    (hend : 1024 * pf k 1 16 10 + pf k 1 0 10 + pf k 2 0 11 ≤ 1048576)
    (hmost : if pf k 0 8 1 = 1 then pf k 2 0 11 ≤ 1020 else pf k 2 0 11 ≤ 2040) (hmap : s.sp.maps[pf k 0 0 2]? = some (fn, rows)) :
    srvSpMapRead k s = s.ok (w32 fn :: mapRunWords k rows) := by
  have hrun : ¬ (pf k 2 0 11 = 0 ∨ (if pf k 0 8 1 = 1 then 1020 else 2040) < pf k 2 0 11 ∨
      1048576 < 1024 * pf k 1 16 10 + pf k 1 0 10 + pf k 2 0 11) := by
    rw [← apply_ite (pf k 2 0 11 ≤ ·)] at hmost
    omega
  simp only [srvSpMapRead, beq_iff_eq, if_neg hrun, hmap]
  rfl

/-- Settles O8: SP_ENABLE has no check of its own; each other command passes its checks under its hypotheses, and the lemma of its
service gives the reply and the state. -/
theorem seatingCommandsAnswer : Obligations.SeatingCommandsAnswer := by
  intro k s
  refine ⟨?_, ?_, ?_, ?_, ?_⟩
  · intro hready
    exact answered_of_srv (c := ⟨0x40, 1, 1, srvSpEnable⟩) hready rfl (by decide) rfl
  · intro hready htop_pos htop_le hband hspatial htemporal
    exact answered_of_srv hready rfl (by decide)
      (srvSpLawConfig_ok (s := s.takes 0x41 k) htop_pos htop_le hband hspatial htemporal)
  · intro hready bx by_ w h clear u t
    exact ⟨fun hw hh hclear => answered_of_srv hready rfl (by decide) (srvSpMaskLoad_clearAll (s := s.takes 0x42 k) hw hh hclear),
      fun hw hh hright hbottom => answered_of_srv hready rfl (by decide)
        (srvSpMaskLoad_rectangle (s := s.takes 0x42 k) hw hh hright hbottom)⟩
  · intro hready haction
    exact answered_of_srv hready rfl (by decide) (srvSpOverride_ok (s := s.takes 0x43 k) haction)
  · intro hready start n hpos hend hmost fn rows hmap code
    refine ⟨mapRunWords k rows, ?_, ?_, ?_⟩
    · exact answered_of_srv hready rfl (by decide) (srvSpMapRead_ok (s := s.takes 0x44 k) hpos hend hmost hmap)
    · exact fun hwhole => if_pos hwhole
    · intro hindices
      exact if_neg (by omega)

end Sys2Proof.Machine
end

section
/-!
PROOF. The commands of group Windows and the Bell (R222, R223, R238, R245 to R251): what serving each one does under the checks of its
own rule.
-/

namespace Sys2Proof.Machine

open Sys2Proof (Word Pkt)

/-! ### WINDOW_SET (R223, R247) -/

/-- The window that WINDOW_SET names, or the lowest one that is off, and 16 where none is (R247). -/
def windowPicked (k : Pkt) (s : State) : Nat :=
  if pf k 0 0 8 = 0xFF then ((List.range 16).find? (fun n => !bit (s.staged (winAddr n 2)) 0)).getD 16 else pf k 0 0 8

/-- The rectangle and the settings of a window staged, and the window on (R223, R247). -/
def State.stageWindow (s : State) (k : Pkt) (n : Nat) : State :=
  ((s.stage (winAddr n 0) (keepMask (pw k 1) 0x3FF03FF)).stage (winAddr n 1) (keepMask (pw k 2) 0x7FF07FF)).stage
    (winAddr n 2) (keepMask (pw k 3) 0x3F ||| 1#32)

theorem srvWindowSet_ok {k : Pkt} {s x : State} (hpicked : windowPicked k s < 16)
    (hchange : winChange (s.stageWindow k (windowPicked k s)) (windowPicked k s) = .inr x) :
    srvWindowSet k s = x.ok [w32 (windowPicked k s + vVmin x.staged * 2 ^ 16)] := by
  simp only [windowPicked, State.stageWindow] at hpicked hchange ⊢
  simp only [srvWindowSet, if_neg (Nat.not_le.mpr hpicked), hchange]

/-! ### WINDOW_CLEAR (R222, R248) -/

/-- A window staged as off (R222). -/
def State.stageWindowOff (s : State) (n : Nat) : State := s.stage (winAddr n 2) (clearMask (s.staged (winAddr n 2)) 1)

/-- WINDOW_CLEAR with index 0xFF takes every window but window 0 off (R248). -/
theorem srvWindowClear_all {k : Pkt} {s x : State} (hall : pf k 0 0 8 = 0xFF)
    (hchange : winChange (((List.range 16).drop 1).foldl State.stageWindowOff s) 0 = .inr x) : srvWindowClear k s = x.ok [] := by
  unfold State.stageWindowOff at hchange
  simp only [srvWindowClear, hall, ne_eq, not_true_eq_false, false_and, if_false, if_true, hchange]

theorem srvWindowClear_one {k : Pkt} {s x : State} (hone : pf k 0 0 8 < 16)
    (hchange : winChange (s.stageWindowOff (pf k 0 0 8)) (pf k 0 0 8) = .inr x) : srvWindowClear k s = x.ok [] := by
  have hnotAll : pf k 0 0 8 ≠ 0xFF := by omega
  unfold State.stageWindowOff at hchange
  simp only [srvWindowClear, Nat.not_le.mpr hone, and_false, if_false, if_neg hnotAll, hchange]

/-! ### BINNING_SET (R249) -/

theorem srvBinningSet_ok {k : Pkt} {s x : State} (hchange : binChange (s.stage R.WIN_BIN (w32 (pf k 0 0 2))) = .inr x) :
    srvBinningSet k s = x.ok [] := by
  simp only [srvBinningSet, hchange]

/-! ### TRIGGER_CONFIG (R246, R250) -/

/-- A Bell at rest takes its configuration at once; with UNIT FRAME no list is checked. -/
theorem bellConfig_ok {v : Word} {s : State} (hbusy : s.bel.busy = false) (hqueue : s.bel.queue = none) (hunit : bit v 3 = false) :
    bellConfig v s = (.ok, s.setReg R.BEL_CFG (keepMask v 0xFFFFFF0F)) := by
  simp only [bellConfig, hbusy, hqueue, hunit, Option.isSome_none, Bool.or_self, Bool.false_eq_true, if_false]

theorem srvTriggerConfig_ok {k : Pkt} {s : State} (hbusy : s.bel.busy = false) (hqueue : s.bel.queue = none)
    (hunit : bit (pw k 0) 3 = false) :
    srvTriggerConfig k s = (s.setReg R.BEL_CFG (keepMask (pw k 0) 0xFFFFFF0F)).ok [] := by
  simp only [srvTriggerConfig, bellConfig_ok hbusy hqueue hunit, seqAns]

/-! ### TRIGGER_FIRE (R238, R245, R251) -/

/-- AT of a TRIGGER_FIRE (R251). -/
def fireAt (k : Pkt) : Nat := (pw k 0).toNat + (pw k 1).toNat * 2 ^ 32

section
variable {k : Pkt} {s : State} (hmode : s.sys.mode = 5) (hsrc : (s.rd F.BEL_CFG_SRC).testBit 1 = true)
include hmode hsrc

theorem srvTriggerFire_now (hnow : fireAt k = 0) : srvTriggerFire k s = (.later, s) := by
  rw [fireAt] at hnow
  simp only [srvTriggerFire, hmode, hsrc, hnow, bne_self_eq_false, Bool.not_true, Bool.or_self, Bool.false_eq_true, if_false, if_true]

theorem srvTriggerFire_schedules (hsched : s.bel.sched = none) (hahead : s.tt.tb < fireAt k) :
    srvTriggerFire k s = (.later, { s with bel := { s.bel with sched := some (fireAt k, k.tag) } }) := by
  have hlater : fireAt k ≠ 0 := Nat.ne_zero_of_lt hahead
  have hnotPast : ¬ fireAt k ≤ s.tt.tb := Nat.not_le.mpr hahead
  rw [fireAt] at *
  simp only [srvTriggerFire, hmode, hsrc, hsched, hlater, hnotPast, bne_self_eq_false, Bool.not_true, Bool.or_self, Option.isSome_none,
    Bool.false_eq_true, if_false]

end

theorem rsvd_eq_zero_of_wellSent {k : Pkt} {s : State} (hsent : wellSent k s = true) : k.rsvd = 0 := by
  simp only [wellSent, Bool.and_eq_true, beq_iff_eq] at hsent
  obtain ⟨⟨⟨⟨-, hrsvd⟩, -⟩, -⟩, -⟩ := hsent
  exact hrsvd

theorem tag_free_of_reaches {k : Pkt} {s : State} (hreach : reaches k s = true) : s.busy.contains k.tag = false := by
  simp only [reaches, Bool.and_eq_true, Bool.not_eq_true'] at hreach
  obtain ⟨-, hfree⟩ := hreach
  exact hfree

/-- With nothing held before it, a packet of a free tag, no RSVD bit and a length of its command passes checks 2 to 7 of R458. -/
theorem checked_eq_accept {op : Nat} {k : Pkt} {s : State} {c : Cmd} (hcmd : findCmd op = some c) (hheld : s.fe.held = [])
    (hfree : s.busy.contains k.tag = false) (hrsvd : k.rsvd = 0) (hmost : k.payload.length ≤ 256) (hlo : c.lo ≤ k.payload.length)
    (hhi : k.payload.length ≤ c.hi) : s.checked op k = s.accept op k := by
  obtain ⟨hheader, hunits⟩ := charge_le op k.payload.length hmost
  have hcredits : ¬ (4096 - 0 < (charge op k.payload.length).1 ∨ 2048 - 0 < (charge op k.payload.length).2) := by omega
  have hlen : ¬ (k.payload.length < c.lo ∨ c.hi < k.payload.length) := by omega
  simp only [State.checked, State.creditsFree, hheld, List.map_nil, List.foldl_nil, if_neg hcredits, hfree, Bool.false_eq_true,
    if_neg (Nat.not_lt.mpr hmost), hcmd, hrsvd, ne_eq, not_true_eq_false, if_neg hlen, if_false]

/-- The front end serves a TRIGGER_FIRE itself, whatever the program behind it does, and its event comes once the command is open
(R458, R474). -/
theorem exec_triggerFire {k : Pkt} {s t : State} {a : Ans} (hsent : wellSent k s = true) (hreach : reaches k s = true)
    (hheld : s.fe.held = []) (hlen : k.payload.length = 2) (hsrv : srvTriggerFire k (s.takes 0x54 k) = (a, t)) :
    exec (.triggerFire k) s = .next (s.keepQueue (fireNow k (t.answer 0x54 k a))) := by
  have haccept := checked_eq_accept (op := 0x54) (c := ⟨0x54, 2, 2, srvTriggerFire⟩)
    (s := { s with fe := { s.fe with lastSeq := some k.seq, lastSeqVal := k.seq } }) rfl hheld (tag_free_of_reaches hreach)
    (rsvd_eq_zero_of_wellSent hsent) (by omega) (Nat.le_of_eq hlen.symm) (Nat.le_of_eq hlen)
  have hserved : arrive 0x54 k s =
      fireNow k ((srvTriggerFire k (s.takes 0x54 k)).2.answer 0x54 k (srvTriggerFire k (s.takes 0x54 k)).1) :=
    (arrive_checked hsent hreach (by omega)).trans haccept
  rw [hsrv] at hserved
  rw [← hserved]
  rfl

/-- A TRIGGER_FIRE that is scheduled raises nothing before its time (R245). -/
theorem fireNow_of_scheduled {k : Pkt} {s : State} {at_ : Nat} (hsched : s.bel.sched = some (at_, k.tag)) : fireNow k s = s := by
  simp [fireNow, hsched]

theorem bellRaise_of_free {s : State} (e : BellEv) (hbusy : s.bel.busy = false) (hraised : s.bel.raised = none) :
    s.bellRaise e = { s with bel := { s.bel with raised := some e } } := by
  simp only [State.bellRaise, hbusy, hraised, Option.isSome_none, Bool.or_self, Bool.false_eq_true, if_false]

/-- A TRIGGER_FIRE that is open and not scheduled raises its event now (R238, R251). -/
theorem fireNow_of_open {k : Pkt} {s : State} {gen : Nat} (hopen : ⟨0x54, k.tag, gen⟩ ∈ s.fe.opn)
    (hsched : ∀ p, s.bel.sched = some p → p.2 ≠ k.tag) : fireNow k s = s.bellRaise ⟨s.tt.clk, s.tt.tb, some k.tag⟩ := by
  have hany : s.fe.opn.any (fun o => o.op == 0x54 && o.tag == k.tag) = true :=
    List.any_eq_true.mpr ⟨_, hopen, by simp⟩
  have hall : s.bel.sched.all (fun p => p.2 != k.tag) = true := by
    cases hs : s.bel.sched with
    | none => rfl
    | some p => simpa using hsched p hs
  simp only [fireNow, hany, hall, Bool.and_self, if_true]

/-- Settles O9: WINDOW_SET, WINDOW_CLEAR, BINNING_SET and TRIGGER_CONFIG pass their checks under their hypotheses, and the lemma of each
one's service gives the reply and the state; a TRIGGER_FIRE is open before its event is raised, and one that is scheduled raises none. -/
theorem windowCommandsAnswer : Obligations.WindowCommandsAnswer := by
  intro k s
  refine ⟨?_, ?_, ?_, ?_, ?_⟩
  · intro hready u n t hpicked x hchange
    exact answered_of_srv hready rfl (by decide) (srvWindowSet_ok (s := s.takes 0x50 k) hpicked hchange)
  · intro hready u off n
    exact ⟨fun hall x hchange => answered_of_srv hready rfl (by decide) (srvWindowClear_all (s := s.takes 0x51 k) hall hchange),
      fun hone x hchange => answered_of_srv hready rfl (by decide) (srvWindowClear_one (s := s.takes 0x51 k) hone hchange)⟩
  · intro hready x hchange
    exact answered_of_srv hready rfl (by decide) (srvBinningSet_ok (s := s.takes 0x52 k) hchange)
  · intro hready hbusy hqueue hunit
    exact answered_of_srv hready rfl (by decide) (srvTriggerConfig_ok (s := s.takes 0x53 k) hbusy hqueue hunit)
  · intro hsent hreach hheld hlen hmode hsrc at_ u
    refine ⟨fun hsched hahead => ?_, fun hnow hbusy hraised hother => ?_⟩
    · have hsrv := srvTriggerFire_schedules (k := k) (s := u) hmode hsrc hsched hahead
      rw [opened, exec_triggerFire hsent hreach hheld hlen hsrv, fireNow_of_scheduled rfl]
      rfl
    · have hsrv := srvTriggerFire_now (k := k) (s := u) hmode hsrc hnow
      have hopen : ⟨0x54, k.tag, k.gen⟩ ∈ (u.answer 0x54 k .later).fe.opn := List.mem_append_right _ List.mem_cons_self
      have hraise := (fireNow_of_open hopen hother).trans (bellRaise_of_free _ hbusy hraised)
      refine ⟨_, exec_triggerFire hsent hreach hheld hlen hsrv, ?_, ?_⟩
      · rw [hraise]
        rfl
      · rw [hraise]
        exact List.any_eq_true.mpr ⟨_, hopen, rfl⟩

end Sys2Proof.Machine
end

section
/-!
PROOF. The arithmetic of the pipelines: a place beyond an edge is folded by whole mosaic periods to the edge's period (R282), and a value
as a stage hands it on lies within one unit of its 18th bit below the leading one (R259).
-/

namespace Sys2Proof.Machine

/-! ### Whole periods that cover a distance (R282) -/

/-- The least whole number of periods that covers a distance overshoots it by less than a period. -/
theorem coveringPeriods_bounds {p : Int} (hp : 0 < p) (d : Int) :
    d ≤ p * ((d + p - 1) / p) ∧ p * ((d + p - 1) / p) < d + p := by
  have hdiv := Int.mul_ediv_add_emod (d + p - 1) p
  have hlow := Int.emod_nonneg (d + p - 1) (Int.ne_of_gt hp)
  have hhigh := Int.emod_lt_of_pos (d + p - 1) hp
  omega

/-! ### The three branches of a fold -/

section
variable {lo hi p x : Int}

theorem foldEdge_of_inside (hlo : lo ≤ x) (hhi : x ≤ hi) : foldEdge lo hi p x = x := by
  rw [foldEdge, if_neg (Int.not_lt.mpr hlo), if_neg (Int.not_lt.mpr hhi)]

theorem foldEdge_of_before (hlo : x < lo) : foldEdge lo hi p x = x + p * ((lo - x + p - 1) / p) := by
  rw [foldEdge, if_pos hlo]

theorem foldEdge_of_beyond (hedges : lo ≤ hi) (hhi : hi < x) : foldEdge lo hi p x = x - p * ((x - hi + p - 1) / p) := by
  rw [foldEdge, if_neg (Int.not_lt.mpr (Int.le_of_lt (Int.lt_of_le_of_lt hedges hhi))), if_pos hhi]

/-- A place before the region is folded into the first period of it. -/
theorem foldEdge_before_bounds (hp : 0 < p) (hlo : x < lo) : lo ≤ foldEdge lo hi p x ∧ foldEdge lo hi p x < lo + p := by
  have hcover := coveringPeriods_bounds hp (lo - x)
  rw [foldEdge_of_before hlo]
  omega

/-- A place beyond the region is folded into the last period of it. -/
theorem foldEdge_beyond_bounds (hp : 0 < p) (hedges : lo ≤ hi) (hhi : hi < x) :
    hi - p < foldEdge lo hi p x ∧ foldEdge lo hi p x ≤ hi := by
  have hcover := coveringPeriods_bounds hp (x - hi)
  rw [foldEdge_of_beyond hedges hhi]
  omega

end

theorem foldEdge_inRegion {lo hi p : Int} (hp : 0 < p) (hfit : p ≤ hi - lo + 1) (x : Int) :
    lo ≤ foldEdge lo hi p x ∧ foldEdge lo hi p x ≤ hi := by
  rcases Int.lt_or_le x lo with hbefore | hlo
  · have hbounds := foldEdge_before_bounds (hi := hi) hp hbefore
    omega
  rcases Int.lt_or_le hi x with hbeyond | hhi
  · have hbounds := foldEdge_beyond_bounds (lo := lo) hp (by omega) hbeyond
    omega
  · rw [foldEdge_of_inside hlo hhi]
    exact ⟨hlo, hhi⟩

theorem foldEdge_eq_add_periods (lo hi p x : Int) : ∃ m : Int, foldEdge lo hi p x = x + p * m := by
  unfold foldEdge
  split
  · exact ⟨_, rfl⟩
  split
  · exact ⟨-((x - hi + p - 1) / p), by rw [Int.mul_neg]; rfl⟩
  · exact ⟨0, by rw [Int.mul_zero, Int.add_zero]⟩

/-- Settles O55: a fold adds whole periods, and the least number of them that covers the distance to the edge ends within a period of
it. -/
theorem foldedEdgesKeepTheMosaic : Obligations.FoldedEdgesKeepTheMosaic := by
  intro lo hi p x hp hfit
  obtain ⟨hlow, hhigh⟩ := foldEdge_inRegion hp hfit x
  refine ⟨hlow, hhigh, ?_, foldEdge_of_inside, fun hlo => (foldEdge_before_bounds hp hlo).2,
    fun hhi => (foldEdge_beyond_bounds hp (by omega) hhi).1⟩
  obtain ⟨m, hm⟩ := foldEdge_eq_add_periods lo hi p x
  rw [hm, Int.add_comm, Int.add_sub_cancel]
  exact Int.mul_emod_right p m

/-! ### Powers of two and the leading bit (R259) -/

theorem pow2_natCast (k : Nat) : pow2 k = ((2 ^ k : Nat) : Rat) := if_pos (Int.natCast_nonneg k)

theorem two_pow_cast_pos (k : Nat) : (0 : Rat) < ((2 ^ k : Nat) : Rat) := Rat.natCast_pos.mpr (Nat.two_pow_pos k)

theorem two_pow_cast_ne_zero (k : Nat) : ((2 ^ k : Nat) : Rat) ≠ 0 := Rat.ne_of_gt (two_pow_cast_pos k)

theorem pow2_neg_natCast (k : Nat) : pow2 (-k) = 1 / ((2 ^ k : Nat) : Rat) := by
  cases k with
  | zero => decide +kernel
  | succ k => exact if_neg (by omega)

theorem pow2_pos (n : Int) : 0 < pow2 n := by
  obtain ⟨k, rfl | rfl⟩ := Int.eq_nat_or_neg n
  · rw [pow2_natCast]
    exact two_pow_cast_pos k
  · rw [pow2_neg_natCast, Rat.lt_div_iff (two_pow_cast_pos k), Rat.zero_mul]
    decide

theorem two_pow_cast_succ (k : Nat) : ((2 ^ (k + 1) : Nat) : Rat) = ((2 ^ k : Nat) : Rat) * 2 := by
  rw [Nat.pow_succ, Rat.natCast_mul, Rat.natCast_ofNat]

theorem pow2_succ (n : Int) : pow2 (n + 1) = pow2 n * 2 := by
  obtain ⟨k, rfl | rfl⟩ := Int.eq_nat_or_neg n
  · rw [← Int.natCast_succ, pow2_natCast, pow2_natCast, two_pow_cast_succ]
  · cases k with
    | zero => decide +kernel
    | succ k =>
      have hhalf := two_pow_cast_ne_zero k
      rw [show -((k + 1 : Nat) : Int) + 1 = -(k : Int) by omega, pow2_neg_natCast, pow2_neg_natCast, two_pow_cast_succ]
      grind

/-- A value that is `k` places higher is 2^k times it. -/
theorem pow2_add_natCast (n : Int) (k : Nat) : pow2 (n + k) = pow2 n * ((2 ^ k : Nat) : Rat) := by
  induction k with
  | zero => rw [Int.natCast_zero, Int.add_zero, Nat.pow_zero]; exact (Rat.mul_one _).symm
  | succ k ih => rw [Int.natCast_succ, ← Int.add_assoc, pow2_succ, ih, two_pow_cast_succ, Rat.mul_assoc]

/-- The numerator of a positive number is the number times its denominator. -/
theorem natAbs_num_eq_mul_den {q : Rat} (hq : 0 < q) : (q.num.natAbs : Rat) = q * (q.den : Rat) := by
  have hden : (q.den : Rat) ≠ 0 := Rat.ne_of_gt (Rat.natCast_pos.mpr q.den_pos)
  have hfrac : (q.num : Rat) = q * (q.den : Rat) :=
    calc (q.num : Rat) = q.num / q.den * q.den := (Rat.div_mul_cancel hden).symm
      _ = q * q.den := by rw [← Rat.mkRat_eq_div, Rat.mkRat_self]
  rw [← hfrac, ← Rat.intCast_natCast, Int.natAbs_of_nonneg (Rat.num_nonneg.mpr (Rat.le_of_lt hq))]

/-- A fraction is at least the power of two of the difference of the bit lengths of its parts, less one. -/
theorem pow2_log2_sub_le {q : Rat} (hq : 0 < q) : pow2 ((q.num.natAbs.log2 : Int) - (q.den.log2 : Int) - 1) ≤ q := by
  have hnum : ((2 ^ q.num.natAbs.log2 : Nat) : Rat) ≤ (q.num.natAbs : Rat) :=
    Rat.natCast_le_natCast.mpr (Nat.log2_self_le (fun h => Rat.ne_of_gt hq (Rat.num_eq_zero.mp (Int.natAbs_eq_zero.mp h))))
  have hden : (q.den : Rat) ≤ ((2 ^ (q.den.log2 + 1) : Nat) : Rat) := Rat.natCast_le_natCast.mpr (Nat.le_of_lt Nat.lt_log2_self)
  have hscale := pow2_add_natCast ((q.num.natAbs.log2 : Int) - (q.den.log2 : Int) - 1) (q.den.log2 + 1)
  rw [show (q.num.natAbs.log2 : Int) - (q.den.log2 : Int) - 1 + ((q.den.log2 + 1 : Nat) : Int) = (q.num.natAbs.log2 : Nat) by omega,
    pow2_natCast] at hscale
  refine Rat.le_of_mul_le_mul_right ?_ (two_pow_cast_pos (q.den.log2 + 1))
  calc pow2 ((q.num.natAbs.log2 : Int) - (q.den.log2 : Int) - 1) * ((2 ^ (q.den.log2 + 1) : Nat) : Rat)
      = ((2 ^ q.num.natAbs.log2 : Nat) : Rat) := hscale.symm
    _ ≤ (q.num.natAbs : Rat) := hnum
    _ = q * (q.den : Rat) := natAbs_num_eq_mul_den hq
    _ ≤ q * ((2 ^ (q.den.log2 + 1) : Nat) : Rat) := Rat.mul_le_mul_of_nonneg_left hden (Rat.le_of_lt hq)

/-- The power of two of the leading bit of a positive number is at most the number. -/
theorem pow2_floorLog_le {q : Rat} (hq : 0 < q) : pow2 (floorLog q) ≤ q := by
  simp only [floorLog]
  split
  · exact pow2_log2_sub_le hq
  next hge => exact Rat.not_lt.mp hge

/-! ### The two neighbours of a value (R259) -/

/-- A value without its sign, as `carried` takes it. -/
def magnitude (x : Rat) : Rat := if x < 0 then -x else x

theorem magnitude_pos {x : Rat} (hx : x ≠ 0) : 0 < magnitude x := by
  unfold magnitude
  split
  next hneg => exact (Rat.lt_neg_iff (a := 0)).mpr hneg
  next hpos => exact Rat.lt_of_le_of_ne (Rat.not_lt.mp hpos) hx.symm

/-- The unit of the 18th bit below the leading one of a value. -/
def carryUnit (x : Rat) : Rat := pow2 (floorLog (magnitude x) - 18)

theorem carryUnit_pos (x : Rat) : 0 < carryUnit x := pow2_pos _

theorem carryUnit_mul_le_magnitude {x : Rat} (hx : x ≠ 0) : carryUnit x * 262144 ≤ magnitude x := by
  have hlead : pow2 (floorLog (magnitude x)) = carryUnit x * 262144 := by
    have hscale := pow2_add_natCast (floorLog (magnitude x) - 18) 18
    rw [show floorLog (magnitude x) - 18 + ((18 : Nat) : Int) = floorLog (magnitude x) by omega] at hscale
    exact hscale
  rw [← hlead]
  exact pow2_floorLog_le (magnitude_pos hx)

@[simp] theorem carried_zero (stage : Nat) : carried stage 0 = 0 := if_pos rfl

/-- A value that is not a whole number of units is carried as the number of units below it or the one above. -/
theorem carried_eq (stage : Nat) {x : Rat} (hx : x ≠ 0) :
    carried stage x = if ((x / carryUnit x).floor : Rat) * carryUnit x = x then x
      else ((x / carryUnit x).floor + (if Config.roundsUp stage x then 1 else 0)) * carryUnit x :=
  if_neg hx

/-- Either neighbour lies within one unit of the value. -/
theorem carried_within_unit (stage : Nat) {x : Rat} (hx : x ≠ 0) :
    carried stage x - x < carryUnit x ∧ x - carried stage x < carryUnit x := by
  have hpos := carryUnit_pos x
  have hbelow : ((x / carryUnit x).floor : Rat) * carryUnit x ≤ x := Rat.not_lt.mp fun h =>
    Rat.not_lt.mpr (Rat.floor_le (x / carryUnit x)) ((Rat.div_lt_iff hpos).mpr h)
  have habove : x < ((x / carryUnit x).floor + 1 : Rat) * carryUnit x := by
    rw [← Rat.div_lt_iff hpos, ← Rat.intCast_one, ← Rat.intCast_add]
    exact Rat.lt_floor_add_one (x / carryUnit x)
  rw [carried_eq stage hx]
  split
  · grind
  next hoff =>
    split
    · grind
    · grind

/-- Settles O56: the error is below the unit of the 18th bit, and 2^18 such units are at most the value. -/
theorem carriedErrorIsBounded : Obligations.CarriedErrorIsBounded := by
  intro stage x
  refine ⟨carried_zero stage, fun hx => ?_⟩
  obtain ⟨hover, hunder⟩ := carried_within_unit stage hx
  have hunit := carryUnit_mul_le_magnitude hx
  unfold magnitude at hunit
  constructor <;> grind

end Sys2Proof.Machine
end

section
/-!
PROOF. The commands of groups Pipelines and Statistics (R285 to R288, R326 to R328, R347, R348): what serving each one does under the
checks of its own rule.
-/

namespace Sys2Proof.Machine

open Sys2Proof (Word Pkt)

/-! ### An answer under enforcement (R576) -/

theorem underLevel_ok (s t : State) (pl : List Word) : s.underLevel (t.ok pl) = (.done (heldStatus s t) t.tt.fn pl, t) := rfl

/-! ### PIPE_A_CONFIG (R285) -/

/-- The words of PIPE_A_CONFIG staged, the digital gain where the packet gives one (R285). -/
def State.stagePipeA (s : State) (k : Pkt) : State :=
  let t := ((s.stage R.PA_CTRL (keepMask (pw k 0) 0x1FF)).stage R.PA_BLC (keepMask (pw k 1) 0xFF0F)).stage
    R.PA_DEFECT (keepMask (pw k 2) 0xFF3FFF)
  if pf k 3 0 16 = 0 then t else t.stage R.PA_DGAIN (w32 (pf k 3 0 16))

theorem srvPipeAConfig_ok {k : Pkt} {s : State} (hlen : s.lenReason (pf k 2 0 14) = none)
    (hgain : pf k 3 0 16 = 0 ∨ s.dgainBad (pf k 3 0 16) = false) :
    srvPipeAConfig k s = s.underLevel ((s.stagePipeA k).ok []) := by
  have hgain' : ¬ (pf k 3 0 16 != 0 && s.dgainBad (pf k 3 0 16)) = true := by
    rcases hgain with hkeep | hgood
    · simp [hkeep]
    · simp [hgood]
  simp only [srvPipeAConfig, hlen, if_neg hgain']
  rfl

/-! ### TONE_CURVE_LOAD (R279, R286) -/

/-- A run of nodes written to the tone curve's bank that is not in force (R279). -/
def State.loadTone (s : State) (k : Pkt) : State :=
  s.setRun (wkey 0x0A02 (257 * (1 - s.toneBank) + pf k 0 0 9)) ((k.payload.drop 2).map (fun w => keepMask w 0xFFFF))

section
variable {k : Pkt} {s : State} (hpend : s.tonePending = false)
  (hfits : pf k 0 0 9 + ((k.payload.drop 2).map (fun w => keepMask w 0xFFFF)).length ≤ 257)
include hpend hfits

theorem srvToneCurveLoad_more (hlast : pf k 0 16 1 = 0) : srvToneCurveLoad k s = (s.loadTone k).ok [] := by
  have hmore : ¬ pf k 0 16 1 = 1 := by omega
  simp only [srvToneCurveLoad, hpend, Bool.false_eq_true, if_neg (Nat.not_lt.mpr hfits), if_neg hmore, if_false]
  rfl

theorem srvToneCurveLoad_last (hlast : pf k 0 16 1 = 1) :
    srvToneCurveLoad k s = (((s.loadTone k).stage R.PA_TONE (keepMask (pw k 1) 0x1FFFFF)).stage keyTone (w32 (1 - s.toneBank))).ok [] := by
  simp only [srvToneCurveLoad, hpend, Bool.false_eq_true, if_neg (Nat.not_lt.mpr hfits), hlast, if_true, if_false]
  rfl

end

/-! ### CCM_SET (R272, R287) -/

/-- The coefficients of the colour matrix staged (R287). -/
def State.stageMatrix (s : State) (k : Pkt) : State :=
  ((((s.stage R.PA_CCM0 (pw k 0)).stage (R.PA_CCM0 + 1) (pw k 1)).stage (R.PA_CCM0 + 2) (pw k 2)).stage
    (R.PA_CCM0 + 3) (pw k 3)).stage R.PA_CCM4 (keepMask (pw k 4) 0xFFFF)

/-- While AWB sets the channel gains, CCM_SET stages none of its own. -/
theorem srvCcmSet_awb {k : Pkt} {s : State} (hawb : vtst s.staged F.PA_CTRL_AWB_EN = true) (hwb0 : pw k 5 = 0#32)
    (hwb1 : pw k 6 = 0#32) : srvCcmSet k s = ((s.stageMatrix k).stage R.PA_IRSUB (keepMask (pw k 7) 0xFFFFFF)).ok [] := by
  simp only [srvCcmSet, hawb, hwb0, hwb1, bne_self_eq_false, Bool.or_self, Bool.and_false, Bool.false_eq_true, if_false, if_true]
  rfl

theorem srvCcmSet_gains {k : Pkt} {s : State} (hawb : vtst s.staged F.PA_CTRL_AWB_EN = false) :
    srvCcmSet k s = ((((s.stageMatrix k).stage R.PA_WB0 (pw k 5)).stage R.PA_WB1 (pw k 6)).stage
      R.PA_IRSUB (keepMask (pw k 7) 0xFFFFFF)).ok [] := by
  simp only [srvCcmSet, hawb, Bool.false_and, Bool.false_eq_true, if_false]
  rfl

/-! ### TNR_CONFIG (R288) -/

theorem srvTnrConfig_ok {k : Pkt} {s : State} (hthresh : tnrBad (pw k 0) = false) :
    srvTnrConfig k s = (stageTnr (pw k 0) s).ok [] := by
  simp only [srvTnrConfig, hthresh, Bool.false_eq_true, if_false]

/-! ### PIPE_B_CONFIG (R310, R311, R322, R326) -/

/-- The words of PIPE_B_CONFIG staged, the digital gain where the packet gives one (R326). -/
def State.stagePipeB (s : State) (k : Pkt) : State :=
  let t := (s.stage R.PB_CTRL (keepMask (pw k 0) 0x7E)).stage R.PB_OUT (keepMask (pw k 1) 0x0FFF0FFF)
  if pf k 2 0 16 = 0 then t else t.stage R.PB_DGAIN (w32 (pf k 2 0 16))

/-- No digital gain, or one within its range, is not refused (R326). -/
theorem gain_not_refused {g : Nat} (hgain : g = 0 ∨ 16 ≤ g ∧ g ≤ 16384) : ¬ (g ≠ 0 ∧ (g < 16 ∨ 16384 < g)) := by omega

/-- A staged word leaves the companion's enable in force as it is. -/
@[simp] theorem State.stagePipeB_tst (s : State) (k : Pkt) (f : Fld) : (s.stagePipeB k).tst f = s.tst f := by
  unfold State.stagePipeB
  split <;> rfl

section
variable {k : Pkt} {s : State} (hcheck : bit (pw k 0) 7 = false) (hsize : s.outSizeBad (pw k 1) = false)
  (hgain : pf k 2 0 16 = 0 ∨ 16 ≤ pf k 2 0 16 ∧ pf k 2 0 16 ≤ 16384) (hrate : (s.stagePipeB k).rateReason = none)
include hcheck hsize hgain hrate

theorem srvPipeBConfig_stages (hsame : bit (pw k 0) 0 = s.tst F.PB_CTRL_EN) : srvPipeBConfig k s = (s.stagePipeB k).ok [] := by
  rw [← s.stagePipeB_tst k] at hsame
  simp only [State.stagePipeB] at hrate hsame ⊢
  simp only [srvPipeBConfig, hcheck, hsize, hrate, hsame, if_neg (gain_not_refused hgain), beq_self_eq_true, Bool.false_eq_true,
    if_false, if_true]

/-- A change of the companion's enable is begun on what was staged. -/
theorem srvPipeBConfig_enables {x : State} (hchange : bit (pw k 0) 0 = !s.tst F.PB_CTRL_EN)
    (hen : pbEnable (bit (pw k 0) 0) (some k.tag) (s.stagePipeB k) = (.ok, x)) : srvPipeBConfig k s = (.accepted [], x) := by
  have hother : (bit (pw k 0) 0 == (s.stagePipeB k).tst F.PB_CTRL_EN) = false := by simp [hchange]
  simp only [State.stagePipeB] at hrate hother hen
  simp only [srvPipeBConfig, hcheck, hsize, hrate, hother, hen, if_neg (gain_not_refused hgain), Bool.false_eq_true, if_false]

end

/-! ### COMPANION_PROFILE_LOAD (R309, R327) -/

/-- A run of words of the profile written, the profile emptied before where CLEAR is given; it has no longer passed its check (R309). -/
def State.loadProfile (s : State) (k : Pkt) : State :=
  let t := if pf k 0 16 1 = 1 then s.setRun (wkey 0x0B00 0) (List.replicate 512 0#32) else s
  State.setRun { t with pb := { t.pb with profOk := false } } (wkey 0x0B00 (pf k 0 0 9)) (k.payload.drop 1)

section
variable {k : Pkt} {s : State} (hoff : s.tst F.PB_CTRL_EN = false) (hfits : pf k 0 0 9 + (k.payload.drop 1).length ≤ 512)
include hoff hfits

theorem srvCompanionProfileLoad_more (hlast : pf k 0 17 1 = 0) : srvCompanionProfileLoad k s = (s.loadProfile k).ok [] := by
  have hmore : ¬ pf k 0 17 1 = 1 := by omega
  simp only [srvCompanionProfileLoad, hoff, Bool.false_eq_true, if_neg (Nat.not_lt.mpr hfits), if_neg hmore, if_false]
  rfl

theorem srvCompanionProfileLoad_last (hlast : pf k 0 17 1 = 1) {x : State} (hprof : profCheck (s.loadProfile k) = (.ok, x)) :
    srvCompanionProfileLoad k s = x.ok [] := by
  simp only [State.loadProfile] at hprof
  simp only [srvCompanionProfileLoad, hoff, Bool.false_eq_true, if_neg (Nat.not_lt.mpr hfits), hlast, hprof, if_true, if_false]
  rfl

end

/-! ### COMPANION_REG_ACCESS (R317, R328) -/

/-- The registers of COMPANION_REG_ACCESS, of a MAP word and a data word each (R328). -/
def accessRegs (k : Pkt) : List I2cReg :=
  (List.range (pf k 0 4 4 + 1)).map (fun i => i2cReg (pw k (3 + 2 * i)) (pw k (4 + 2 * i)))

/-- A READ or WRITE_NOW queued (R317). -/
def State.queueAccess (s : State) (k : Pkt) : State :=
  { s with pb := { s.pb with jobs := s.pb.jobs ++ [⟨k.tag, pf k 0 0 2 == 0, accessRegs k, 0, [], none⟩] } }

theorem any_reservedWidth_eq_false {k : Pkt} {n : Nat} (hwidth : ∀ i < n, pf k (3 + 2 * i) 16 2 ≠ 2) :
    (List.range n).any (fun i => pf k (3 + 2 * i) 16 2 == 2) = false := by
  simpa using hwidth

section
variable {k : Pkt} {s : State} (hrun : s.pb.state = 4) (hstep : s.pb.step < 4) (hlen : k.payload.length = 3 + 2 * (pf k 0 4 4 + 1))
  (hwidth : ∀ i < pf k 0 4 4 + 1, pf k (3 + 2 * i) 16 2 ≠ 2)
include hrun hstep hlen hwidth

/-- The checks of R328 pass: a write set is queued by its own rule, and another access waits for the bus. -/
theorem srvCompanionRegAccess_checked (hop : pf k 0 0 2 ≠ 3) :
    srvCompanionRegAccess k s = if pf k 0 0 2 = 2 then writeSet k (accessRegs k) s
      else (.accepted [], if s.pb.now = .idle then (s.queueAccess k).nextBus else s.queueAccess k) := by
  have hserving : ¬ (s.pb.state ≠ 4 ∨ 4 ≤ s.pb.step) := by omega
  simp only [srvCompanionRegAccess, hlen, not_true_eq_false, ne_eq, if_neg hserving, if_neg hop, any_reservedWidth_eq_false hwidth,
    Bool.false_eq_true, if_false]
  rfl

theorem srvCompanionRegAccess_waits (hop : pf k 0 0 2 < 2) (hbusy : s.pb.now ≠ .idle) :
    srvCompanionRegAccess k s = (.accepted [], s.queueAccess k) := by
  rw [srvCompanionRegAccess_checked hrun hstep hlen hwidth (by omega), if_neg (by omega), if_neg hbusy]

theorem srvCompanionRegAccess_begins (hop : pf k 0 0 2 < 2) (hidle : s.pb.now = .idle) :
    srvCompanionRegAccess k s = (.accepted [], (s.queueAccess k).nextBus) := by
  rw [srvCompanionRegAccess_checked hrun hstep hlen hwidth (by omega), if_neg (by omega), if_pos hidle]

theorem srvCompanionRegAccess_writeSet (hop : pf k 0 0 2 = 2) : srvCompanionRegAccess k s = writeSet k (accessRegs k) s := by
  rw [srvCompanionRegAccess_checked hrun hstep hlen hwidth (by omega), if_pos hop]

end

/-! ### STATS_CONFIG (R347) and STATS_READ (R348) -/

/-- The configuration of the statistics and the histogram's rectangle staged (R347). -/
def State.stageStats (s : State) (k : Pkt) : State :=
  (s.stage R.STA_CFG (keepMask (pw k 0) 0xF)).stage R.STA_ROI (keepMask (pw k 1) 0x03FFFFFF)

theorem srvStatsConfig_ok {k : Pkt} {s : State} (hroi : roiBad (pw k 1) = false) (hrate : (s.stageStats k).rateReason = none) :
    srvStatsConfig k s = s.underLevel ((s.stageStats k).ok []) := by
  simp only [State.stageStats] at hrate
  simp only [srvStatsConfig, hroi, hrate, Bool.false_eq_true, if_false]
  rfl

theorem srvStatsRead_ok {k : Pkt} {s : State} {fn : Nat} {ws : List Word} (hpart : pf k 0 4 3 < 5) (hpos : 1 ≤ (pw k 2).toNat)
    (hmost : (pw k 2).toNat ≤ 255) (hend : (pw k 1).toNat + (pw k 2).toNat ≤ partWords (pf k 0 4 3))
    (hset : s.statPart (pf k 0 0 2) (pf k 0 4 3) = some (fn, ws)) :
    srvStatsRead k s = s.ok (w32 fn :: (ws.drop (pw k 1).toNat).take (pw k 2).toNat) := by
  have hrun : ¬ ((pw k 2).toNat = 0 ∨ 255 < (pw k 2).toNat ∨ partWords (pf k 0 4 3) < (pw k 1).toNat + (pw k 2).toNat) := by omega
  simp only [srvStatsRead, if_neg (Nat.not_le.mpr hpart), if_neg hrun, hset]

/-- Settles O10: each command passes its checks under its hypotheses, and the lemma of its service gives the reply and the state. -/
theorem pipelineCommandsAnswer : Obligations.PipelineCommandsAnswer := by
  intro k s
  refine ⟨?_, ?_, ?_, ?_, ?_, ?_, ?_, ?_, ?_⟩
  · intro hready hlen g hgain t
    exact answered_of_srv hready rfl (by decide) ((srvPipeAConfig_ok (s := s.takes 0x60 k) hlen hgain).trans (underLevel_ok _ _ []))
  · intro hready hpend start ws b t hfits
    exact ⟨fun hlast => answered_of_srv hready rfl (by decide) (srvToneCurveLoad_more (s := s.takes 0x64 k) hpend hfits hlast),
      fun hlast => answered_of_srv hready rfl (by decide) (srvToneCurveLoad_last (s := s.takes 0x64 k) hpend hfits hlast)⟩
  · intro hready u t
    exact ⟨fun hawb hwb0 hwb1 => answered_of_srv hready rfl (by decide) (srvCcmSet_awb (s := u) hawb hwb0 hwb1),
      fun hawb => answered_of_srv hready rfl (by decide) (srvCcmSet_gains (s := u) hawb)⟩
  · intro hready hthresh
    exact answered_of_srv hready rfl (by decide) (srvTnrConfig_ok hthresh)
  · intro hready hcheck u g t₀ t hsize hgain hrate
    exact ⟨fun hsame => answered_of_srv hready rfl (by decide) (srvPipeBConfig_stages (s := u) hcheck hsize hgain hrate hsame),
      fun hchange x hen =>
        answered_of_srv hready rfl (by decide) (srvPipeBConfig_enables (s := u) hcheck hsize hgain hrate hchange hen)⟩
  · intro hready hoff u start ws t₀ t hfits
    exact ⟨fun hlast => answered_of_srv hready rfl (by decide) (srvCompanionProfileLoad_more (s := u) hoff hfits hlast),
      fun hlast x hprof => answered_of_srv hready rfl (by decide) (srvCompanionProfileLoad_last (s := u) hoff hfits hlast hprof)⟩
  · intro hready hrun hstep n regs u t hlen hwidth
    refine ⟨fun hop hbusy => ?_, fun hop hidle => ?_, fun hop w x hwrite => ?_⟩
    · exact answered_of_srv hready rfl (by decide) (srvCompanionRegAccess_waits (s := u) hrun hstep hlen hwidth hop hbusy)
    · exact answered_of_srv hready rfl (by decide) (srvCompanionRegAccess_begins (s := u) hrun hstep hlen hwidth hop hidle)
    · exact answered_of_srv hready rfl (by decide)
        ((srvCompanionRegAccess_writeSet (s := u) hrun hstep hlen hwidth hop).trans hwrite)
  · intro hready hroi t hrate
    exact answered_of_srv hready rfl (by decide) ((srvStatsConfig_ok (s := s.takes 0x68 k) hroi hrate).trans (underLevel_ok _ _ []))
  · intro hready hpart start n hpos hmost hend fn ws hset
    exact answered_of_srv hready rfl (by decide) (srvStatsRead_ok (s := s.takes 0x69 k) hpart hpos hmost hend hset)

end Sys2Proof.Machine
end

section
/-!
PROOF. The commands of group Outputs (R390 to R395): what serving each one does under the checks of its own rule.
-/

namespace Sys2Proof.Machine

open Sys2Proof (Word Pkt)

/-! ### OUTPUT_ROUTE (R390), DISPLAY_FORMAT (R391) and CODING_CONFIG (R393) -/

/-- A change of the output settings that passes the limits on the outputs is kept. -/
theorem outAns_ok {s t : State} (hkept : outReason t = none) : outAns s t = t.ok [] := by
  simp only [outAns, hkept]

theorem srvOutputRoute_ok {k : Pkt} {s : State} (hkept : outReason (s.stage R.OUT_ROUTE (keepMask (pw k 0) 0xF)) = none) :
    srvOutputRoute k s = s.underLevel ((s.stage R.OUT_ROUTE (keepMask (pw k 0) 0xF)).ok []) :=
  congrArg s.underLevel (outAns_ok hkept)

/-- The form, the size and the crop of display A staged (R391). -/
def State.stageDisplay (s : State) (k : Pkt) : State :=
  (((s.stage R.OUT_DFMT (keepMask (pw k 0) 0x3F)).stage R.OUT_DSIZE (keepMask (pw k 1) 0x1FFF1FFF)).stage
    R.OUT_CROP0 (keepMask (pw k 2) 0x0FFF0FFF)).stage R.OUT_CROP1 (keepMask (pw k 3) 0x1FFF1FFF)

theorem srvDisplayFormat_ok {k : Pkt} {s : State} (hkept : outReason (s.stageDisplay k) = none) :
    srvDisplayFormat k s = (s.stageDisplay k).ok [] :=
  outAns_ok hkept

theorem srvCodingConfig_ok {k : Pkt} {s : State} (hkept : outReason (s.stage R.OUT_CODE (keepMask (pw k 0) 0x7F7F)) = none) :
    srvCodingConfig k s = s.underLevel ((s.stage R.OUT_CODE (keepMask (pw k 0) 0x7F7F)).ok []) :=
  congrArg s.underLevel (outAns_ok hkept)

/-! ### WARP_MESH_LOAD (R370, R392) -/

/-- A run of nodes written to the mesh's bank that is not in force (R370). -/
def State.loadMesh (s : State) (k : Pkt) : State :=
  s.setRun (wkey 0x0D00 (4225 * (1 - s.meshBank) + pf k 0 0 13)) (k.payload.drop 1)

section
variable {k : Pkt} {s : State} (hpend : s.meshPending = false) (hfits : pf k 0 0 13 + (k.payload.drop 1).length ≤ 4225)
include hpend hfits

theorem srvWarpMeshLoad_more (hlast : pf k 0 17 1 = 0) : srvWarpMeshLoad k s = (s.loadMesh k).ok [] := by
  have hmore : ¬ pf k 0 17 1 = 1 := by omega
  simp only [srvWarpMeshLoad, hpend, Bool.false_eq_true, if_neg (Nat.not_lt.mpr hfits), if_neg hmore, if_false]
  rfl

/-- Outside LOCKED the excursion is not checked (R372): the bank loaded is staged to come into force. -/
theorem srvWarpMeshLoad_last (hlast : pf k 0 17 1 = 1) (hmode : s.checkMode ≠ 0x4) :
    srvWarpMeshLoad k s = ((s.loadMesh k).stage keyBank (w32 (1 - s.meshBank))).ok [] := by
  have hfree : (((s.loadMesh k).stage keyBank (w32 (1 - s.meshBank))).checkMode == 0x4) = false := beq_false_of_ne hmode
  simp only [State.loadMesh] at hfree
  simp only [srvWarpMeshLoad, hpend, hlast, hfree, Bool.false_and, Bool.false_eq_true, if_neg (Nat.not_lt.mpr hfits), if_true, if_false]
  rfl

end

/-! ### VISION_FORMAT (R381, R394) -/

/-- The form of the vision stream staged, and the knots of a PWL curve after it (R394). -/
def State.stageVision (s : State) (k : Pkt) : State :=
  let t := s.stage R.OUT_VIS (keepMask (pw k 0) 0x7FFF)
  if pf k 0 3 2 = 2 then t.stageRun (wkey 0x0D01 0) ((k.payload.drop 1).map (fun w => keepMask w 0xFFFF)) else t

theorem srvVisionFormat_ok {k : Pkt} {s : State} (hlen : k.payload.length = if pf k 0 3 2 = 2 then 18 else 1)
    (hkept : outReason (s.stageVision k) = none) : srvVisionFormat k s = (s.stageVision k).ok [] := by
  have hanswer : srvVisionFormat k s = outAns s (s.stageVision k) := by
    simp only [srvVisionFormat, State.stageVision, beq_iff_eq, hlen, bne_self_eq_false, Bool.false_eq_true, if_false]
  exact hanswer.trans (outAns_ok hkept)

/-! ### STREAM_PRIORITY (R395) -/

theorem srvStreamPriority_ok {k : Pkt} {s : State} (hprio : prioOk (pw k 0) = true) :
    srvStreamPriority k s = (s.setReg R.OUT_PRIO (keepMask (pw k 0) 0xFF)).ok [] := by
  simp only [srvStreamPriority, hprio, if_true]

/-- Settles O11: each command passes its checks under its hypotheses, and the lemma of its service gives the reply and the state. -/
theorem outputCommandsAnswer : Obligations.OutputCommandsAnswer := by
  intro k s
  refine ⟨?_, ?_, ?_, ?_, ?_, ?_⟩
  · intro hready t hkept
    exact answered_of_srv hready rfl (by decide) ((srvOutputRoute_ok (s := s.takes 0x70 k) hkept).trans (underLevel_ok _ _ []))
  · intro hready t hkept
    exact answered_of_srv hready rfl (by decide) (srvDisplayFormat_ok (s := s.takes 0x71 k) hkept)
  · intro hready hpend start ws b t hfits
    exact ⟨fun hlast => answered_of_srv hready rfl (by decide) (srvWarpMeshLoad_more (s := s.takes 0x72 k) hpend hfits hlast),
      fun hlast hmode => answered_of_srv hready rfl (by decide) (srvWarpMeshLoad_last (s := s.takes 0x72 k) hpend hfits hlast hmode)⟩
  · intro hready t hkept
    exact answered_of_srv hready rfl (by decide) ((srvCodingConfig_ok (s := s.takes 0x73 k) hkept).trans (underLevel_ok _ _ []))
  · intro hready pwl t₀ t hlen hkept
    exact answered_of_srv hready rfl (by decide) (srvVisionFormat_ok (s := s.takes 0x74 k) hlen hkept)
  · intro hready hprio
    exact answered_of_srv hready rfl (by decide) (srvStreamPriority_ok (s := s.takes 0x75 k) hprio)

end Sys2Proof.Machine
end

section
/-!
PROOF. The replay buffer of the link (R428, R429): what trimming keeps of the packets held, and what sending a packet, alone or with its
payload, and an acknowledgement leave in it.
-/

namespace Sys2Proof.Machine

open Sys2Proof (Word)

/-! ### Trimming -/

/-- The words that held packets take on the lanes. -/
def heldWords (q : List SentPkt) : Nat := (q.map (fun p => p.words)).foldl (fun a b => a + b) 0

theorem heldWords_cons (p : SentPkt) (q : List SentPkt) : heldWords (p :: q) = p.words + heldWords q := by
  simp only [heldWords, ← List.sum_eq_foldl, List.map_cons, List.sum_cons]

/-- Only the oldest packets go: what stays is an end of what was held. -/
theorem trimReplay_isSuffix (q : List SentPkt) (total : Nat) : trimReplay q total <:+ q := by
  induction q generalizing total with
  | nil => exact List.suffix_rfl
  | cons p ps ih =>
    rw [trimReplay]
    split
    · exact (ih _).trans (List.suffix_cons p ps)
    · exact List.suffix_rfl

theorem trimReplay_cons_of_overflow {p : SentPkt} {ps : List SentPkt} (hover : 131072 < heldWords (p :: ps)) :
    trimReplay (p :: ps) (heldWords (p :: ps)) = trimReplay ps (heldWords ps) := by
  rw [trimReplay, if_pos hover, heldWords_cons, Nat.add_sub_cancel_left]

theorem trimReplay_of_fits {q : List SentPkt} (hfits : heldWords q ≤ 131072) : trimReplay q (heldWords q) = q := by
  cases q with
  | nil => rfl
  | cons p ps => rw [trimReplay, if_neg (Nat.not_lt.mpr hfits)]

theorem heldWords_trimReplay_le (q : List SentPkt) : heldWords (trimReplay q (heldWords q)) ≤ 131072 := by
  induction q with
  | nil => exact Nat.zero_le _
  | cons p ps ih =>
    by_cases hover : 131072 < heldWords (p :: ps)
    · rwa [trimReplay_cons_of_overflow hover]
    · have hfits := Nat.not_lt.mp hover
      rwa [trimReplay_of_fits hfits]

/-- The newest packet stays where it fits by itself. -/
theorem trimReplay_concat_ne_nil (q : List SentPkt) {p : SentPkt} (hfits : p.words ≤ 131072) :
    trimReplay (q ++ [p]) (heldWords (q ++ [p])) ≠ [] := by
  induction q with
  | nil =>
    have halone : heldWords [p] ≤ 131072 := by rwa [heldWords_cons]
    rw [List.nil_append, trimReplay_of_fits halone]
    exact List.cons_ne_nil p []
  | cons x q ih =>
    by_cases hover : 131072 < heldWords (x :: (q ++ [p]))
    · rwa [List.cons_append, trimReplay_cons_of_overflow hover]
    · rw [List.cons_append, trimReplay_of_fits (Nat.not_lt.mp hover)]
      exact List.cons_ne_nil x _

/-! ### A packet sent -/

/-- The packets held with the one that is sent now, before any is dropped. -/
def State.heldWith (s : State) (stream n : Nat) : List SentPkt := s.lnk.replay ++ [⟨s.lnk.lseq, stream, pktWords n⟩]

theorem sendPkt_lnk (s : State) (stream n : Nat) : (s.sendPkt stream n).lnk = { s.lnk with
    lseq := (s.lnk.lseq + 1) % 65536, replay := trimReplay (s.heldWith stream n) (heldWords (s.heldWith stream n)) } := by
  unfold State.sendPkt
  simp only []
  split <;> rfl

theorem sendPkt_mem_of_fits {s : State} {stream n : Nat} (hfits : heldWords (s.heldWith stream n) ≤ 131072) :
    (s.sendPkt stream n).mem = s.mem :=
  (congrArg State.mem (if_neg (Nat.not_lt.mpr hfits))).trans rfl

theorem rd_replayOvf_sendPkt_of_overflow {s : State} {stream n : Nat} (hover : 131072 < heldWords (s.heldWith stream n)) :
    (s.sendPkt stream n).rd F.LNK_STAT_REPLAY_OVF = 1 :=
  (congrArg (fun t : State => t.rd F.LNK_STAT_REPLAY_OVF) (if_pos hover)).trans (State.rd_wr_same (by decide) _ 1)

/-- What was held and the packet sent are the packets dropped and those held then; REPLAY_OVF tells of a drop (R428). -/
theorem sendPkt_drops_oldest (s : State) (stream n : Nat) :
    ∃ dropped, s.heldWith stream n = dropped ++ (s.sendPkt stream n).lnk.replay ∧
      (dropped ≠ [] → (s.sendPkt stream n).rd F.LNK_STAT_REPLAY_OVF = 1) ∧
      (dropped = [] → (s.sendPkt stream n).mem = s.mem) := by
  obtain ⟨dropped, hsplit⟩ := trimReplay_isSuffix (s.heldWith stream n) (heldWords (s.heldWith stream n))
  refine ⟨dropped, by rw [sendPkt_lnk, hsplit], fun hdrop => ?_, fun hnone => ?_⟩
  · by_cases hover : 131072 < heldWords (s.heldWith stream n)
    · exact rd_replayOvf_sendPkt_of_overflow hover
    · rw [trimReplay_of_fits (Nat.not_lt.mp hover)] at hsplit
      exact absurd (List.append_left_eq_self.mp hsplit) hdrop
  · rw [hnone, List.nil_append] at hsplit
    have hle := heldWords_trimReplay_le (s.heldWith stream n)
    rw [hsplit] at hle
    exact sendPkt_mem_of_fits hle

/-! ### An acknowledgement, and a packet sent with its payload -/

theorem mem_replay_ackTo_iff {s : State} {ack : Nat} {p : SentPkt} :
    p ∈ (s.ackTo ack).lnk.replay ↔ p ∈ s.lnk.replay ∧ lseqLe p.lseq ack = false := by
  simp only [State.ackTo, List.mem_filter, Bool.not_eq_true']

/-- The payloads kept are the last ones, and no more of them than packets are held. -/
theorem length_kept_sendData_le (s : State) (stream : Nat) (ws : List Word) :
    (s.sendData stream ws).lnk.kept.length ≤ (s.sendData stream ws).lnk.replay.length := by
  simp only [State.sendData, List.length_drop]
  omega

/-- Settles O57: sending drops an oldest part of the packets held, so that the rest keeps the bound; an acknowledgement filters them by
LSEQ; a payload sent is kept only beside a packet held. -/
theorem replayBufferIsBounded : Obligations.ReplayBufferIsBounded := by
  intro s stream n
  refine ⟨fun hfits => ?_, fun ack p => mem_replay_ackTo_iff, fun ws => ?_⟩
  · obtain ⟨dropped, hsplit, hovf, hmem⟩ := sendPkt_drops_oldest s stream n
    have hreplay := congrArg Lnk.replay (sendPkt_lnk s stream n)
    refine ⟨?_, congrArg Lnk.lseq (sendPkt_lnk s stream n), dropped, hsplit, ?_, hovf, hmem⟩
    · rw [hreplay]
      exact heldWords_trimReplay_le _
    · rw [hreplay]
      exact trimReplay_concat_ne_nil s.lnk.replay hfits
  · obtain ⟨hreplay, -, htx, -⟩ := sendData_replay s stream ws
    exact ⟨hreplay, htx, length_kept_sendData_le s stream ws⟩

end Sys2Proof.Machine
end

section
/-!
PROOF. The commands of group Link (R435, R439 to R442): what serving each one does under the checks of its own rule, and that the end of
an internal loopback leaves none running.
-/

namespace Sys2Proof.Machine

open Sys2Proof (Word Pkt)

/-! ### LINK_RATE and LANE_MAP (R440) -/

/-- A setting of the lanes put in force, the present one noted, and training begun with it. -/
def State.trainWith (s : State) (cfg : Word) : State :=
  State.enterTrain
    { s.setReg R.LNK_CFG (keepMask cfg 0xFF0FF3) with lnk := { s.lnk with prevCfg := some (s.reg R.LNK_CFG) } }

/-- What R440 asks of a setting of the lanes: a rate, at least one lane, each physical lane named once, and room for the outputs. -/
structure LinkCfgOk (cfg : Word) (s : State) : Prop where
  rate : bits cfg 0 2 ≠ 3
  lanes : bits cfg 4 4 ≠ 0
  map : mapPerm (bits cfg 16 8) = true
  room : s.bandwidthOk s.staged (bits cfg 0 2) (bits cfg 4 4) = true

/-- No change of the lanes waits, and neither a test nor an internal loopback runs. -/
structure LinkIdle (s : State) : Prop where
  change : s.lnk.prevCfg = none
  test : s.lnk.test = none
  loop : s.lnk.loop = none

theorem linkSet_ok {cfg : Word} {s : State} (hidle : LinkIdle s) (hcfg : LinkCfgOk cfg s) : linkSet cfg s = (.ok, s.trainWith cfg) := by
  have hform : (bits cfg 4 4 == 0 || !mapPerm (bits cfg 16 8)) = false := by
    rw [beq_false_of_ne hcfg.lanes, hcfg.map]
    rfl
  have hfree : (s.lnk.prevCfg.isSome || s.lnk.test.isSome || s.lnk.loop.isSome) = false := by
    rw [hidle.change, hidle.test, hidle.loop]
    rfl
  simp only [linkSet, beq_false_of_ne hcfg.rate, hform, hfree, hcfg.room, Bool.not_true, Bool.false_eq_true, if_false]
  rfl

/-- A setting or a test that is begun is answered ACCEPTED. -/
theorem linkSetAns_ok {r : WRes × State} {t : State} (hbegun : r = (.ok, t)) : linkSetAns r = (.accepted [], t) := by
  subst hbegun
  rfl

/-! ### FFE_REQUEST (R441) -/

/-- The coefficients asked for lane by lane. -/
def State.askLanes (s : State) (k : Pkt) : State := (List.range 4).foldl (ffeLane k) s

/-- Whether no coefficients wait for the deskew marker of an active lane. -/
def State.ffeAtOnce (s : State) : Bool := s.lnk.ffeNext.all (fun p => !s.lnk.active.testBit p.1)

theorem srvFfeRequest_checked {k : Pkt} {s : State} (hop : pf k 0 4 2 ≠ 3)
    (hset : pf k 0 4 2 = 2 → ffeOk (pf k 1 8 4) (pf k 1 16 5) = true) :
    srvFfeRequest k s = if (s.askLanes k).ffeAtOnce then (s.askLanes k).settleFfe.ok (s.askLanes k).settleFfe.ffeWords
      else (.later, s.askLanes k) := by
  have hbounds : (pf k 0 4 2 == 2 && !ffeOk (pf k 1 8 4) (pf k 1 16 5)) = false := by
    by_cases htwo : pf k 0 4 2 = 2
    · rw [hset htwo, Bool.not_true, Bool.and_false]
    · rw [beq_false_of_ne htwo, Bool.false_and]
  simp only [srvFfeRequest, beq_false_of_ne hop, hbounds, Bool.false_eq_true, if_false]
  rfl

/-! ### PRBS_READ (R442) -/

theorem srvPrbsRead_ok {k : Pkt} {s : State} (htarget : pf k 0 0 4 < 10) :
    srvPrbsRead k s =
      let c := s.lnk.checkers.getD (pf k 0 0 4) ⟨0, 0, false⟩
      s.ok [w32 c.bits, w32 (c.bits / 2 ^ 32), w32 (c.errs + flag c.lock * 2 ^ 31)] :=
  if_neg (Nat.not_le.mpr htarget)

/-! ### LOOPBACK (R435, R436, R442) -/

/-- The internal loopback of MODE 1 begun. -/
def State.beginLoop (s : State) (tag : Option Nat) (dur : Nat) : State :=
  State.wr { s with lnk := { s.lnk with state := 3, loop := some ⟨tag, 0xF, 0, false, s.tt.clk, ms dur + s.tt.clk⟩ } } F.LNK_LOOP_MODE 1

theorem loopSet_begins {dur : Nat} {s : State} (hdur : dur ≠ 0) (hloop : s.lnk.loop = none) (tag : Option Nat) :
    loopSet tag 1 dur s = (.ok, s.beginLoop tag dur) := by
  simp only [loopSet, beq_false_of_ne hdur, hloop, Option.isSome_none, Bool.false_eq_true, if_false]
  rfl

theorem srvLoopback_begins {k : Pkt} {s : State} (hmode : pf k 0 0 2 = 1) (hdur : pf k 1 0 16 ≠ 0) (hloop : s.lnk.loop = none) :
    srvLoopback k s = (.accepted [], s.beginLoop (some k.tag) (pf k 1 0 16)) := by
  simp only [srvLoopback, hmode, beq_self_eq_true, if_true]
  exact linkSetAns_ok (loopSet_begins hdur hloop _)

/-- In the other modes the answer is not ACCEPTED: a loopback that was set is answered OK. -/
theorem srvLoopback_ok {k : Pkt} {s t : State} (hmode : pf k 0 0 2 ≠ 1)
    (hset : loopSet (some k.tag) (pf k 0 0 2) (pf k 1 0 16) s = (.ok, t)) : srvLoopback k s = t.ok [] := by
  simp only [srvLoopback, hset, beq_false_of_ne hmode, Bool.false_eq_true, if_false]
  rfl

/-- Echo and the internal loopback ended (R442 with MODE 0), the lanes trained again where nothing else keeps them from it. -/
def State.endEcho (s : State) : State :=
  let t := retrainAfter (endLoop s)
  State.wr { t with lnk := { t.lnk with echo := false } } F.LNK_LOOP_MODE 0

/-! ### What training leaves of the internal loopback -/

theorem sendPkt_loop (s : State) (stream n : Nat) : (s.sendPkt stream n).lnk.loop = s.lnk.loop :=
  (congrArg Lnk.loop (sendPkt_lnk s stream n)).trans rfl

theorem streamPacket_loop (s : State) (stream ptype fn : Nat) (ws : List Word) :
    (s.streamPacket stream ptype fn ws).lnk.loop = s.lnk.loop := by
  unfold State.streamPacket
  split
  · rfl
  · exact sendPkt_loop _ stream _

theorem framePacket_loop (s : State) (f : StreamFrame) (ptype : Nat) (ws : List Word) :
    (s.framePacket f ptype ws).lnk.loop = s.lnk.loop := by
  unfold State.framePacket
  split
  · exact streamPacket_loop s _ _ _ _
  · rfl

theorem abortFrame_loop (s : State) (reason : Nat) (f : StreamFrame) : (s.abortFrame reason f).lnk.loop = s.lnk.loop := by
  have hsent := framePacket_loop s f 7 [w32 reason]
  unfold State.abortFrame
  simp only []
  split <;> exact hsent

theorem foldl_abortFrame_loop (reason : Nat) (fs : List StreamFrame) (s : State) :
    (fs.foldl (fun t f => t.abortFrame reason f) s).lnk.loop = s.lnk.loop := by
  induction fs generalizing s with
  | nil => rfl
  | cons f fs ih => rw [List.foldl_cons, ih, abortFrame_loop]

theorem enterTrain_loop (s : State) : s.enterTrain.lnk.loop = s.lnk.loop := foldl_abortFrame_loop 3 s.out.live s

theorem retrainAfter_loop (s : State) : (retrainAfter s).lnk.loop = s.lnk.loop := by
  unfold retrainAfter
  split
  · exact enterTrain_loop s
  · rfl

theorem finishFirst_lnk (s : State) (op : Nat) (tag : Option Nat) : (s.finishFirst op tag).lnk = s.lnk := by
  unfold State.finishFirst
  split
  · rfl
  · split <;> rfl

theorem endLoop_loop (s : State) : (endLoop s).lnk.loop = none := by
  unfold endLoop
  split
  · assumption
  · rw [finishFirst_lnk]
    rfl

theorem endEcho_loop (s : State) : s.endEcho.lnk.loop = none := (retrainAfter_loop (endLoop s)).trans (endLoop_loop s)

theorem endEcho_mode (s : State) : s.endEcho.tst F.LNK_LOOP_MODE = false :=
  bne_eq_false_iff_eq.mpr (State.rd_wr_same (by decide) _ 0)

/-- Settles O12: each command passes its checks under its hypotheses, and the lemma of its service gives the answer and the state. -/
theorem linkCommandsAnswer : Obligations.LinkCommandsAnswer := by
  intro k s
  refine ⟨?_, ?_, ?_, ?_, ?_, ?_⟩
  · intro hready
    exact answered_of_srv (c := ⟨0x80, 0, 0, srvLinkStatus⟩) hready rfl (by decide) rfl
  · intro hchange htest hloop train
    constructor
    · intro hready cfg _ hrate hlanes hmap hroom
      exact answered_of_srv hready rfl (by decide) (linkSetAns_ok
        (linkSet_ok (s := s.takes 0x81 k) ⟨hchange, htest, hloop⟩ ⟨hrate, hlanes, hmap, hroom⟩))
    · intro hready cfg hrate hlanes hmap hroom
      exact answered_of_srv hready rfl (by decide) (linkSetAns_ok
        (linkSet_ok (s := s.takes 0x82 k) ⟨hchange, htest, hloop⟩ ⟨hrate, hlanes, hmap, hroom⟩))
  · intro hready hop hset t
    have hsrv := srvFfeRequest_checked (s := s.takes 0x83 k) hop hset
    exact ⟨fun hnow => answered_of_srv hready rfl (by decide) (hsrv.trans (if_pos hnow)),
      fun hwaits => answered_of_srv hready rfl (by decide) (hsrv.trans (if_neg (Bool.eq_false_iff.mp hwaits)))⟩
  · intro hready htargets hpattern hdur htest
    exact answered_of_srv hready rfl (by decide) (linkSetAns_ok
      (testStart_ok (s := s.takes 0x84 k) htargets hpattern hdur htest (some k.tag) (pf k 0 13 1 != 0)))
  · intro hready htarget
    exact answered_of_srv hready rfl (by decide) (srvPrbsRead_ok (s := s.takes 0x85 k) htarget)
  · intro hready u
    refine ⟨fun hmode hdur hloop => ?_, fun hmode => ?_, fun hmode => ⟨u.endEcho, ?_, rfl, endEcho_loop u, endEcho_mode u⟩⟩
    · exact answered_of_srv hready rfl (by decide) (srvLoopback_begins (s := u) hmode hdur hloop)
    · exact answered_of_srv hready rfl (by decide) (srvLoopback_ok (s := u) (by omega) (by rw [hmode]; rfl))
    · exact answered_of_srv hready rfl (by decide) (srvLoopback_ok (s := u) (by omega) (by rw [hmode]; rfl))

end Sys2Proof.Machine
end

section
/-!
PROOF. Frames of the back channel (R452 to R456): bytes and words go over into each other, the header words hold their fields apart, and
a frame of one packet brings that packet to the front end.
-/

namespace Sys2Proof.Machine

open Sys2Proof (Word Byte Pkt)

/-! ### Words as bytes -/

theorem bytesWord_of_wordBytes (w : Word) :
    bytesWord (w.setWidth 8) ((w >>> 8).setWidth 8) ((w >>> 16).setWidth 8) ((w >>> 24).setWidth 8) = w := by
  refine BitVec.eq_of_toNat_eq ?_
  have hlt := w.isLt
  simp only [bytesWord, w32, BitVec.toNat_ofNat, BitVec.toNat_setWidth, BitVec.toNat_ushiftRight, Nat.shiftRight_eq_div_pow]
  omega

theorem length_bytesOf (ws : List Word) : (bytesOf ws).length = 4 * ws.length := by
  induction ws with
  | nil => rfl
  | cons w ws ih =>
    rw [bytesOf] at ih ⊢
    rw [List.flatMap_cons, List.length_append, ih, List.length_cons]
    simp only [wordBytes, List.length_cons, List.length_nil]
    omega

theorem getD_append_left {α : Type} {xs : List α} {i : Nat} (hi : i < xs.length) (ys : List α) (d : α) :
    (xs ++ ys).getD i d = xs.getD i d := by
  rw [List.getD_eq_getElem?_getD, List.getElem?_append_left hi, List.getD_eq_getElem?_getD]

theorem getD_append_right {α : Type} {xs : List α} {i : Nat} (hi : xs.length ≤ i) (ys : List α) (d : α) :
    (xs ++ ys).getD i d = ys.getD (i - xs.length) d := by
  rw [List.getD_eq_getElem?_getD, List.getElem?_append_right hi, List.getD_eq_getElem?_getD]

/-- Byte `j` of word `i` is byte 4·i + j of the string; beyond the end both are 0. -/
theorem getD_bytesOf (ws : List Word) (i : Nat) {j : Nat} (hj : j < 4) :
    (bytesOf ws).getD (4 * i + j) 0#8 = (wordBytes (ws.getD i 0#32)).getD j 0#8 := by
  induction ws generalizing i with
  | nil =>
    have hzero : (wordBytes 0#32).getD j 0#8 = 0#8 := by decide +revert
    rw [List.getD_nil, hzero]
    exact List.getD_nil
  | cons w ws ih =>
    have hword : (wordBytes w).length = 4 := rfl
    rw [bytesOf, List.flatMap_cons, ← bytesOf]
    cases i with
    | zero =>
      rw [Nat.mul_zero, Nat.zero_add, getD_append_left (by omega)]
      rfl
    | succ i =>
      rw [getD_append_right (by omega), hword, show 4 * (i + 1) + j - 4 = 4 * i + j by omega, ih]
      rfl

theorem wordsOfBytes_bytesOf (ws : List Word) : wordsOfBytes (bytesOf ws) = ws := by
  have hcount : (bytesOf ws).length / 4 = ws.length := by rw [length_bytesOf]; omega
  rw [wordsOfBytes, hcount, wordsOf]
  refine List.ext_getElem (by rw [List.length_map, List.length_range]) fun i _ hi => ?_
  rw [List.getElem_map, List.getElem_range]
  have h0 := getD_bytesOf ws i (j := 0) (by decide)
  rw [Nat.add_zero] at h0
  rw [h0, getD_bytesOf ws i (by decide), getD_bytesOf ws i (by decide), getD_bytesOf ws i (by decide),
    ← List.getElem_eq_getD (h := hi)]
  exact bytesWord_of_wordBytes ws[i]

/-! ### The header words (R455) -/

/-- A field of a word that is given as a number. -/
theorem bits_w32 {lo len : Nat} (hfit : lo + len ≤ 32) (n : Nat) : bits (w32 n) lo len = n / 2 ^ lo % 2 ^ len := by
  refine Nat.eq_of_testBit_eq fun j => ?_
  rw [testBit_bits, w32, BitVec.getLsbD_ofNat, Nat.testBit_mod_two_pow, Nat.testBit_div_two_pow, Nat.add_comm j lo]
  grind

theorem bit_zero_w32 (n : Nat) : bit (w32 n) 0 = decide (n % 2 = 1) := by
  rw [bit, w32, BitVec.testBit_toNat, BitVec.getLsbD_ofNat, Nat.testBit_zero]
  rfl

/-- The header words of a packet (R455). -/
def headerWords (op : Nat) (k : Pkt) : Word × Word :=
  (w32 (op * 2 ^ 24 + k.tag * 2 ^ 12 + k.gen * 2 ^ 8 + k.rsvd % 128 * 2 + flag k.order),
    w32 (k.payload.length * 2 ^ 22 + k.rsvd / 128 * 2 ^ 16 + k.seq))

/-- The words of a packet before its CRC (R455). -/
def bodyWords (op : Nat) (k : Pkt) : List Word := (headerWords op k).1 :: (headerWords op k).2 :: k.payload

theorem packetChars_eq (op : Nat) (k : Pkt) : packetChars op k = bytesOf (bodyWords op k ++ [crc32c (bodyWords op k)]) := rfl

theorem length_bodyWords (op : Nat) (k : Pkt) : (bodyWords op k).length = k.payload.length + 2 := rfl

theorem length_packetChars (op : Nat) (k : Pkt) : (packetChars op k).length = 4 * (k.payload.length + 3) := by
  rw [packetChars_eq, length_bytesOf, List.length_append, length_bodyWords, List.length_singleton]

/-- A packet whose fields lie within the widths of R455 and that a frame can carry. -/
structure InWidths (k : Pkt) : Prop where
  tag : k.tag < 4096
  gen : k.gen < 16
  rsvd : k.rsvd < 8192
  seq : k.seq < 65536
  len : k.payload.length ≤ 257

theorem flag_lt_two (b : Bool) : flag b < 2 := by cases b <;> decide

/-- L of a packet reads back from its second header word. -/
theorem length_of_headerWords {k : Pkt} (h : InWidths k) (op : Nat) : bits (headerWords op k).2 22 10 = k.payload.length := by
  obtain ⟨-, -, hrsvd, hseq, hlen⟩ := h
  rw [headerWords, bits_w32 (by decide)]
  omega

/-- The fields of a packet stand apart in its header words, so that the words give the packet back. -/
theorem packetOf_bodyWords {op : Nat} {k : Pkt} (hop : op < 256) (h : InWidths k) : packetOf (bodyWords op k) = (op, k) := by
  obtain ⟨htag, hgen, hrsvd, hseq, hlen⟩ := h
  obtain ⟨tag, gen, order, rsvd, seq, payload⟩ := k
  have hflag := flag_lt_two order
  have horder : decide (flag order % 2 = 1) = order := by cases order <;> rfl
  simp only [packetOf, bodyWords, headerWords, List.getD_cons_zero, List.getD_cons_succ, List.drop_succ_cons, List.drop_zero,
    Prod.mk.injEq, Pkt.mk.injEq, and_true] at *
  simp only [bit_zero_w32]
  rw [bits_w32 (by decide), bits_w32 (by decide), bits_w32 (by decide), bits_w32 (by decide), bits_w32 (by decide),
    bits_w32 (by decide)]
  refine ⟨by omega, by omega, by omega, ?_, by omega, by omega⟩
  exact (decide_eq_decide.mpr (by omega)).trans horder

/-! ### A frame of one packet -/

theorem framePackets_nil (n : Nat) (s : State) : framePackets n [] 0 true s = s := by
  cases n <;> rfl

/-- A frame that holds one packet with its CRC brings that packet and nothing else. -/
theorem framePackets_bodyWords {op : Nat} {k : Pkt} (hop : op < 256) (h : InWidths k) (n : Nat) (s : State) :
    framePackets (n + 1) (bodyWords op k ++ [crc32c (bodyWords op k)]) 0 true s = s.arrived op k := by
  have hl : bits ((bodyWords op k ++ [crc32c (bodyWords op k)]).getD 1 0#32) 22 10 = k.payload.length :=
    length_of_headerWords h op
  have hlen : (bodyWords op k ++ [crc32c (bodyWords op k)]).length = k.payload.length + 3 := by
    rw [List.length_append, length_bodyWords, List.length_singleton]
  have htake : (bodyWords op k ++ [crc32c (bodyWords op k)]).take (k.payload.length + 2) = bodyWords op k :=
    List.take_left' (length_bodyWords op k)
  have hcrc : (bodyWords op k ++ [crc32c (bodyWords op k)]).getD (k.payload.length + 2) 0#32 = crc32c (bodyWords op k) := by
    rw [getD_append_right (Nat.le_of_eq (length_bodyWords op k)), length_bodyWords, Nat.sub_self]
    rfl
  have hdrop : (bodyWords op k ++ [crc32c (bodyWords op k)]).drop (k.payload.length + 3) = [] :=
    List.drop_of_length_le (Nat.le_of_eq hlen)
  have htwo : ¬ k.payload.length + 3 < 2 := by omega
  simp only [framePackets, hl, hlen, htake, hcrc, hdrop, if_neg htwo, Nat.lt_irrefl, if_false, if_true, packetOf_bodyWords hop h,
    framePackets_nil]

/-- A packet within its widths reaches the front end as it was sent. -/
theorem arrive_of_inWidths {k : Pkt} (h : InWidths k) (op : Nat) (s : State) :
    arrive op k s = if s.sys.phase == .unpowered || s.sys.phase == .reset then s
      else (s.echoFrame (packetChars op k)).arrived op k := by
  obtain ⟨htag, hgen, hrsvd, hseq, hlen⟩ := h
  simp only [arrive, if_neg (Nat.not_lt.mpr hlen), Nat.mod_eq_of_lt htag, Nat.mod_eq_of_lt hgen, Nat.mod_eq_of_lt hrsvd,
    Nat.mod_eq_of_lt hseq]

/-- Settles O40: the frame's characters are those of the packet's words with their CRC, and these give the packet back. -/
theorem frameOfOnePacketIsItsCommand : Obligations.FrameOfOnePacketIsItsCommand := by
  intro op k s hop htag hgen hrsvd hseq hlen
  have hk : InWidths k := ⟨htag, hgen, hrsvd, hseq, hlen⟩
  have hchars := length_packetChars op k
  have hwhole : (true && decide ((packetChars op k).length ≤ 1040)) = true := by
    rw [Bool.true_and, decide_eq_true_eq, hchars]
    omega
  have htail : (packetChars op k).length % 4 = 0 := by rw [hchars, Nat.mul_mod_right]
  have hframe := framePackets_bodyWords hop hk 260 (s.echoFrame (packetChars op k))
  rw [← wordsOfBytes_bytesOf (bodyWords op k ++ [crc32c (bodyWords op k)]), ← packetChars_eq] at hframe
  rw [arrive_of_inWidths hk op, ← hframe]
  simp only [exec, execBackChannelFrame, hwhole, if_true, htail]

end Sys2Proof.Machine
end

section
/-!
PROOF. Replies and events (R459, R461, R469 to R472, R478 to R480): what the front end holds once a command is answered, and what raising
an event does to the queue.
-/

namespace Sys2Proof.Machine

open Sys2Proof (Word Pkt)

/-! ### One packet sent -/

theorem State.rd_congr {s t : State} {f : Fld} (hreg : t.reg f.addr = s.reg f.addr) : t.rd f = s.rd f :=
  congrArg (fun w => bits w f.lo f.len) hreg

@[simp] theorem fe_sendPkt (s : State) (stream n : Nat) : (s.sendPkt stream n).fe = s.fe := by
  unfold State.sendPkt
  simp only []
  split <;> rfl

theorem fe_put (s : State) (c : Ctl) : (s.put c).fe = { s.fe with out := s.fe.out ++ [c] } := fe_sendPkt _ _ _

/-- On a link that can carry it a reply goes out at once, where none waits before it. -/
theorem reply_eq_put {s : State} (hsend : s.canSend = true) (hwait : s.fe.waiting = []) (op tag gen st fn : Nat) (pl : List Word) :
    s.reply op tag gen st fn pl = s.put (.reply op tag gen st (fn % 2 ^ 22) pl) := by
  simp only [State.reply, hsend, hwait, List.isEmpty_nil, Bool.and_self, if_true]

/-- What a reply that goes out leaves of the front end. -/
theorem fe_reply {s : State} (hsend : s.canSend = true) (hwait : s.fe.waiting = []) (op tag gen st fn : Nat) (pl : List Word) :
    (s.reply op tag gen st fn pl).fe = { s.fe with out := s.fe.out ++ [.reply op tag gen st (fn % 2 ^ 22) pl] } := by
  rw [reply_eq_put hsend hwait, fe_put]

/-! ### Counts -/

/-- A count of a register that neither a reply nor an event writes: it reads one more, up to its highest value (R85). -/
theorem rd_bump_same {f : Fld} (hfit : f.lo + f.len ≤ 32) (s : State) : (s.bump f).rd f = min (2 ^ f.len - 1) (s.rd f + 1) :=
  (countersSaturate s f hfit).1

theorem rd_reply {f : Fld} (hstat : f.addr ≠ R.LNK_STAT) (s : State) (op tag gen st fn : Nat) (pl : List Word) :
    (s.reply op tag gen st fn pl).rd f = s.rd f :=
  State.rd_congr (reg_reply hstat s op tag gen st fn pl)

theorem rd_event {f : Fld} (hdrop : f.addr ≠ F.CMD_EVDROP_COUNT.addr) (s : State) (code : Nat) (pl : List Word) :
    (s.event code pl).rd f = s.rd f :=
  State.rd_congr (reg_event hdrop s code pl)

/-! ### The final reply (R461, R472) -/

/-- The state with a command open. -/
def State.opening (s : State) (op : Nat) (k : Pkt) : State :=
  { s with fe := { s.fe with opn := s.fe.opn ++ [⟨op, k.tag, k.gen⟩] } }

/-- The final reply of a command just opened under a free tag leaves the open commands as they were. -/
theorem finish_opening {s : State} {k : Pkt} (hfree : ∀ o ∈ s.fe.opn, o.tag ≠ k.tag) (op st fn : Nat) (pl : List Word) :
    (s.opening op k).finish op k.tag st fn pl = s.reply op k.tag k.gen st fn pl := by
  have hold : ∀ o ∈ s.fe.opn, (o.op == op && o.tag == k.tag) = false := fun o ho => by simp [hfree o ho]
  have hfind : (s.opening op k).fe.opn.find? (fun o => o.op == op && o.tag == k.tag) = some ⟨op, k.tag, k.gen⟩ := by
    rw [State.opening]
    rw [List.find?_append, List.find?_eq_none.mpr fun o ho => Bool.eq_false_iff.mp (hold o ho)]
    simp
  have hkept : (s.opening op k).fe.opn.filter (fun p => !(p.op == op && p.tag == k.tag)) = s.fe.opn := by
    rw [State.opening, List.filter_append, List.filter_eq_self.mpr fun o ho => by rw [hold o ho]; rfl]
    simp
  simp only [State.finish, hfind, hkept]
  rfl

/-- A command answered with a final reply under a free tag, the reply being given with its payload. -/
theorem answer_done {s : State} {k : Pkt} (hfree : ∀ o ∈ s.fe.opn, o.tag ≠ k.tag) {st : Nat} {pl : List Word} (hgiven : st ≠ 5 ∨ pl ≠ [])
    (op fn : Nat) : s.answer op k (.done st fn pl) = s.reply op k.tag k.gen st fn pl := by
  have hcount : (s.opening op k).countState st pl = (pl, s.opening op k) := if_neg fun ⟨hfive, hnil⟩ => hgiven.elim (· hfive) (· hnil)
  refine Eq.trans ?_ (finish_opening hfree op st fn pl)
  change State.finish ((s.opening op k).countState st pl).2 op k.tag st fn ((s.opening op k).countState st pl).1 = _
  rw [hcount]

/-- STATE carries the mode and is counted (R459). -/
theorem answer_state {s : State} {k : Pkt} (hfree : ∀ o ∈ s.fe.opn, o.tag ≠ k.tag) (op fn : Nat) :
    s.answer op k (.done 5 fn []) = (s.bump F.CMD_STATE_COUNT).reply op k.tag k.gen 5 fn [w32 s.checkMode] :=
  finish_opening (s := s.bump F.CMD_STATE_COUNT) hfree op 5 fn [w32 s.checkMode]

/-! ### The words of a reply (R469) -/

theorem bits_replyWords {op tag gen st n : Nat} (hop : op < 256) (htag : tag < 4096) (hgen : gen < 16) (hst : st < 256) (hn : n ≤ 256)
    (fn : Nat) :
    let a := w32 (op * 2 ^ 24 + tag * 2 ^ 12 + gen * 2 ^ 8 + st)
    let b := w32 (n * 2 ^ 22 + fn % 2 ^ 22 % 2 ^ 22)
    bits a 24 8 = op ∧ bits a 12 12 = tag ∧ bits a 8 4 = gen ∧ bits a 0 8 = st ∧ bits b 22 10 = n ∧ bits b 0 22 = fn % 2 ^ 22 := by
  intro a b
  rw [bits_w32 (by decide), bits_w32 (by decide), bits_w32 (by decide), bits_w32 (by decide), bits_w32 (by decide),
    bits_w32 (by decide)]
  omega

/-- Settles O42: the command is open under a free tag alone when its reply is formed, so the reply is the one packet sent, and the tag is
free again; the fields of the reply stand apart in its words. -/
theorem repliesHaveTheirForm : Obligations.RepliesHaveTheirForm := by
  intro op k s st fn pl hop htag hgen hst hlen hsend hwait hfree
  refine ⟨fun hgiven => ?_, ?_, ?_⟩
  · intro t
    have hfe := fe_reply hsend hwait op k.tag k.gen st fn pl
    rw [← answer_done hfree hgiven] at hfe
    have ht : t.fe = _ := hfe
    rw [ht]
    obtain ⟨h1, h2, h3, h4, h5, h6⟩ := bits_replyWords hop htag hgen hst hlen fn
    exact ⟨rfl, hwait, _, rfl, h1, h2, h3, h4, h5, h6, rfl⟩
  · have hfe := fe_reply (s := s.bump F.CMD_STATE_COUNT) hsend hwait op k.tag k.gen 5 fn [w32 s.checkMode]
    have hrd := rd_reply (f := F.CMD_STATE_COUNT) (by decide) (s.bump F.CMD_STATE_COUNT) op k.tag k.gen 5 fn [w32 s.checkMode]
    rw [← answer_state hfree] at hfe hrd
    have hopn := congrArg Fe.opn hfe
    have hout := congrArg Fe.out hfe
    exact ⟨hopn, hrd.trans (rd_bump_same (by decide) s), hout⟩
  · have hreply := fe_reply (s := s.opening op k) hsend hwait op k.tag k.gen 1 s.tt.fn pl
    exact ⟨congrArg Fe.opn hreply, congrArg Fe.out hreply⟩

/-! ### Raising an event (R478 to R480) -/

theorem event_of_masked {s : State} {code : Nat} (hmask : s.fe.evMask.testBit code = true) (pl : List Word) : s.event code pl = s :=
  if_pos hmask

/-- An entry of the queue, counted once more where it has the code of an event raised (R479). -/
def EvEntry.merged (code : Nat) (e : EvEntry) : EvEntry := if e.code == code then { e with count := min 255 (e.count + 1) } else e

theorem EvEntry.merged_code (code : Nat) (e : EvEntry) : (e.merged code).code = e.code := by
  unfold EvEntry.merged
  split <;> rfl

theorem EvEntry.merged_same {code : Nat} {e : EvEntry} (h : e.code = code) :
    e.merged code = { e with count := min 255 (e.count + 1) } := by
  simp only [EvEntry.merged, h, beq_self_eq_true, if_true]

theorem EvEntry.merged_other {code : Nat} {e : EvEntry} (h : e.code ≠ code) : e.merged code = e := by
  simp only [EvEntry.merged, beq_false_of_ne h, Bool.false_eq_true, if_false]

theorem map_code_merged (code : Nat) (es : List EvEntry) : (es.map (EvEntry.merged code)).map (fun e => e.code) = es.map (fun e => e.code) := by
  rw [List.map_map]
  exact List.map_congr_left fun e _ => e.merged_code code

theorem any_code_eq_false {es : List EvEntry} {code : Nat} (hnew : ∀ e ∈ es, e.code ≠ code) :
    es.any (fun e => e.code == code) = false :=
  List.any_eq_false.mpr fun e he => by simpa using hnew e he

section
variable {s : State} {code : Nat} (hmask : s.fe.evMask.testBit code = false)
include hmask

theorem events_event_of_waiting {e : EvEntry} (hmem : e ∈ s.fe.events) (hcode : e.code = code) (pl : List Word) :
    (s.event code pl).fe.events = s.fe.events.map (EvEntry.merged code) := by
  have hany : s.fe.events.any (fun e => e.code == code) = true := List.any_eq_true.mpr ⟨e, hmem, by simp [hcode]⟩
  simp only [State.event, hmask, hany, Bool.false_eq_true, if_false, if_true]
  rfl

variable (hnew : ∀ e ∈ s.fe.events, e.code ≠ code)
include hnew

theorem event_of_room (hroom : s.fe.events.length < 64) (pl : List Word) :
    s.event code pl = { s with fe := { s.fe with events := s.fe.events ++ [⟨code, 1, s.tt.fn, pl⟩] } } := by
  simp only [State.event, hmask, any_code_eq_false hnew, hroom, Bool.false_eq_true, if_false, if_true]

theorem event_of_full (hfull : s.fe.events.length = 64) (pl : List Word) :
    s.event code pl = State.bump { s with fe := { s.fe with lost := true } } F.CMD_EVDROP_COUNT := by
  simp only [State.event, hmask, any_code_eq_false hnew, hfull, Nat.lt_irrefl, Bool.false_eq_true, if_false]

end

/-- Settles O47: a masked code changes nothing, a code that waits is counted in its own entry, and a new one is a new entry or, from a
full queue, dropped; none of these makes a second entry of a code, or a 65th. -/
theorem eventQueueKeepsItsRules : Obligations.EventQueueKeepsItsRules := by
  intro s code pl hlen hnodup t
  cases hmask : s.fe.evMask.testBit code with
  | true =>
    have ht : t = s := event_of_masked hmask pl
    rw [ht]
    exact ⟨hlen, hnodup, fun _ => rfl, fun h => absurd h (by decide)⟩
  | false =>
    by_cases hwaits : ∃ e ∈ s.fe.events, e.code = code
    · obtain ⟨e, hmem, hcode⟩ := hwaits
      have hevents : t.fe.events = s.fe.events.map (EvEntry.merged code) := events_event_of_waiting hmask hmem hcode pl
      have hcodes : t.fe.events.map (fun x => x.code) = s.fe.events.map (fun x => x.code) := by rw [hevents, map_code_merged]
      refine ⟨?_, hcodes ▸ hnodup, fun h => absurd h (by decide), fun _ => ⟨fun x hx hxcode => ⟨hcodes, ?_, fun y hy hycode => ?_⟩,
        fun hnew => absurd hcode (hnew e hmem)⟩⟩
      · rw [hevents, List.length_map]
        exact hlen
      · rw [hevents, ← EvEntry.merged_same hxcode]
        exact List.mem_map_of_mem hx
      · rw [hevents]
        exact List.mem_map.mpr ⟨y, hy, EvEntry.merged_other hycode⟩
    · have hnew : ∀ e ∈ s.fe.events, e.code ≠ code := fun e he hcode => hwaits ⟨e, he, hcode⟩
      by_cases hroom : s.fe.events.length < 64
      · have hevents : t.fe.events = s.fe.events ++ [⟨code, 1, s.tt.fn, pl⟩] :=
          congrArg (fun u : State => u.fe.events) (event_of_room hmask hnew hroom pl)
        refine ⟨?_, ?_, fun h => absurd h (by decide), fun _ => ⟨fun e he hcode => absurd hcode (hnew e he),
          fun _ => ⟨fun _ => hevents, fun hfull => absurd hfull (Nat.ne_of_lt hroom)⟩⟩⟩
        · rw [hevents, List.length_append, List.length_singleton]
          exact hroom
        · rw [hevents, List.map_append, List.nodup_append]
          refine ⟨hnodup, List.pairwise_singleton _ _, fun a ha b hb => ?_⟩
          obtain ⟨e, he, rfl⟩ := List.mem_map.mp ha
          rw [List.mem_singleton.mp hb]
          exact hnew e he
      · have hfull : s.fe.events.length = 64 := by omega
        have ht : t = State.bump { s with fe := { s.fe with lost := true } } F.CMD_EVDROP_COUNT := event_of_full hmask hnew hfull pl
        have hevents : t.fe.events = s.fe.events := by rw [ht]; rfl
        refine ⟨by rw [hevents]; exact hlen, by rw [hevents]; exact hnodup, fun h => absurd h (by decide),
          fun _ => ⟨fun e he hcode => absurd hcode (hnew e he), fun _ => ⟨fun h => absurd h hroom, fun _ => ⟨hevents, ?_, ?_⟩⟩⟩⟩
        · rw [ht]
          rfl
        · rw [ht]
          exact rd_bump_same (by decide) _

end Sys2Proof.Machine
end

section
/-!
PROOF. The checks of R458 one by one, in their order, and the statements about what they turn away or let pass (R29, R457 to R462, R468,
R477, R480, R481).
-/

namespace Sys2Proof.Machine

open Sys2Proof (Word Pkt)

/-! ### The SEQ of a packet (R457) -/

/-- The state with the SEQ of the last good packet. -/
def State.withSeq (s : State) (seq : Nat) : State := { s with fe := { s.fe with lastSeq := some seq, lastSeqVal := seq } }

theorem noteSeq_of_follows {s : State} {p seq : Nat} (hlast : s.fe.lastSeq = some p) (hnext : (p + 1) % 65536 = seq) :
    s.noteSeq seq = s.withSeq seq := by
  simp only [State.noteSeq, hlast, hnext, if_true]
  rfl

theorem noteSeq_of_gap {s : State} {p seq : Nat} (hlast : s.fe.lastSeq = some p) (hgap : (p + 1) % 65536 ≠ seq) :
    s.noteSeq seq = (s.bump F.CMD_SEQGAP_COUNT).withSeq seq := by
  simp only [State.noteSeq, hlast, hgap, if_false]
  rfl

theorem noteSeq_of_first {s : State} (hfirst : s.fe.lastSeq = none) (seq : Nat) : s.noteSeq seq = s.withSeq seq := by
  simp only [State.noteSeq, hfirst]
  rfl

theorem arrived_of_awake {s : State} (hmode : s.sys.mode ≠ 7) (op : Nat) (k : Pkt) : s.arrived op k = (s.noteSeq k.seq).checked op k := by
  simp only [State.arrived, if_neg hmode]

theorem clearMask_zero (w : Word) : clearMask w 0 = w := by
  rw [clearMask, w32, BitVec.not_zero, BitVec.and_allOnes]

theorem readAt_lastSeq (s : State) : s.readAt R.CMD_LASTSEQ = w32 s.fe.lastSeqVal := clearMask_zero _

theorem readAt_evMask (s : State) : s.readAt R.CMD_EVMASK = w32 s.fe.evMask := clearMask_zero _

/-- Settles O45: the SEQ noted is that of the packet, and the gap is counted by a field that saturates. -/
theorem sequenceNumbersAreCounted : Obligations.SequenceNumbersAreCounted := by
  intro s op k _
  have hlast : (s.noteSeq k.seq).fe.lastSeq = some k.seq := rfl
  refine ⟨fun hmode => arrived_of_awake hmode op k, hlast, readAt_lastSeq _, fun p hp hgap => ?_, fun p hp hnext => ?_, fun hfirst => ?_,
    rfl, rfl⟩
  · rw [noteSeq_of_gap hp hgap]
    exact rd_bump_same (by decide) s
  · rw [noteSeq_of_follows hp hnext]
    rfl
  · rw [noteSeq_of_first hfirst]
    rfl

/-! ### EVENT_MASK (R480) -/

theorem srvEventMask_eq (k : Pkt) (s : State) : srvEventMask k s =
    (.done 0 s.tt.fn [pw k 0 &&& 0xFFEFF7FE#32], { s with fe := { s.fe with evMask := (pw k 0 &&& 0xFFEFF7FE#32).toNat } }) := rfl

/-- The bits of the mask are those of w0 but for the codes that cannot be masked (R480). -/
theorem testBit_eventMask (w : Word) {n : Nat} (hn : n < 32) :
    (w &&& 0xFFEFF7FE#32).toNat.testBit n = (w.toNat.testBit n && decide (n ≠ 0 ∧ n ≠ 0x0B ∧ n ≠ 0x14)) := by
  have hmask : (0xFFEFF7FE#32).toNat.testBit n = decide (n ≠ 0 ∧ n ≠ 0x0B ∧ n ≠ 0x14) := by
    decide +revert
  rw [BitVec.toNat_and, Nat.testBit_and, hmask]

/-- Settles O46: the service of EVENT_MASK gives the mask and the reply, and an event of a masked code changes nothing. -/
theorem eventMaskIsInForce : Obligations.EventMaskIsInForce := by
  refine ⟨fun k s hready => ⟨?_, fun n hn => testBit_eventMask (pw k 0) hn⟩, fun s code pl hmask => event_of_masked hmask pl,
    readAt_evMask, rfl⟩
  exact answered_of_srv hready rfl (by decide) (srvEventMask_eq k (s.takes 0x06 k))

/-! ### Checks 2 to 7 of R458 -/

/-- The credits of the receive buffer cover a packet of this opcode and length (R460). -/
def State.hasCredits (s : State) (c : Nat × Nat) : Prop := ¬ (s.creditsFree.1 < c.1 ∨ s.creditsFree.2 < c.2)

section
variable {s : State} {op : Nat} {k : Pkt}

theorem checked_of_no_credits (hno : ¬ s.hasCredits (charge op k.payload.length)) :
    s.checked op k = State.event ((s.bump F.CMD_CREDITVIOL_COUNT).release (charge op k.payload.length)) 2
      [packetWord op k, w32 (s.creditsFree.1 + s.creditsFree.2 * 65536)] :=
  if_pos (Classical.not_not.mp hno)

variable (hcredits : s.hasCredits (charge op k.payload.length))
include hcredits

theorem checked_of_busy (hbusy : s.busy.contains k.tag = true) :
    s.checked op k = State.event ((s.bump F.CMD_TAGCOL_COUNT).release (charge op k.payload.length)) 1 [packetWord op k] :=
  (if_neg hcredits).trans (if_pos hbusy)

variable (hfree : s.busy.contains k.tag = false)
include hfree

theorem checked_of_long (hlong : 256 < k.payload.length) :
    s.checked op k = (State.release ((s.bump F.CMD_LENSKIP_COUNT).event 0x12 [packetWord op k, w32 k.payload.length])
      (charge op k.payload.length)).answer op k (.done 3 s.tt.fn []) := by
  have hfn : ((s.bump F.CMD_LENSKIP_COUNT).event 0x12 [packetWord op k, w32 k.payload.length]).tt.fn = s.tt.fn :=
    congrArg Tt.fn (event_quiet (s.bump F.CMD_LENSKIP_COUNT) 0x12 _).tt
  rw [← hfn]
  exact (if_neg hcredits).trans ((if_neg (Bool.eq_false_iff.mp hfree)).trans (if_pos hlong))

variable (hmost : k.payload.length ≤ 256)
include hmost

/-- A packet that the checks before its opcode let pass. -/
theorem checked_of_opcode : s.checked op k =
    match findCmd op with
    | none => State.turnAway (s.bump F.CMD_UNKOP_COUNT) op k 2 []
    | some cmd =>
      if k.rsvd ≠ 0 then s.turnAway op k 4 [0x10#32]
      else if k.payload.length < cmd.lo ∨ cmd.hi < k.payload.length then s.turnAway op k 3 []
      else s.accept op k :=
  (if_neg hcredits).trans ((if_neg (Bool.eq_false_iff.mp hfree)).trans (if_neg (Nat.not_lt.mpr hmost)))

theorem checked_of_unknown (hop : findCmd op = none) : s.checked op k = State.turnAway (s.bump F.CMD_UNKOP_COUNT) op k 2 [] := by
  rw [checked_of_opcode hcredits hfree hmost, hop]

variable {cmd : Cmd} (hcmd : findCmd op = some cmd)
include hcmd

theorem checked_of_rsvd (hrsvd : k.rsvd ≠ 0) : s.checked op k = s.turnAway op k 4 [0x10#32] := by
  rw [checked_of_opcode hcredits hfree hmost, hcmd]
  exact if_pos hrsvd

theorem checked_of_wrong_length (hrsvd : k.rsvd = 0) (hlen : k.payload.length < cmd.lo ∨ cmd.hi < k.payload.length) :
    s.checked op k = s.turnAway op k 3 [] := by
  rw [checked_of_opcode hcredits hfree hmost, hcmd]
  exact (if_neg (Classical.not_not.mpr hrsvd)).trans (if_pos hlen)

theorem checked_of_passed (hrsvd : k.rsvd = 0) (hlo : cmd.lo ≤ k.payload.length) (hhi : k.payload.length ≤ cmd.hi) :
    s.checked op k = s.accept op k := by
  rw [checked_of_opcode hcredits hfree hmost, hcmd]
  exact (if_neg (Classical.not_not.mpr hrsvd)).trans (if_neg (by omega))

end

/-! ### A packet that passes them (R29, R459, R473) -/

theorem takeHeld_of_not_served {s : State} (hserver : s.serverUp = false) : s.takeHeld = s := by
  unfold State.takeHeld
  split
  · rfl
  · exact if_pos (by rw [hserver]; rfl)

theorem iter_of_fixed {α : Type} {f : α → α} {x : α} (hfix : f x = x) (n : Nat) : iter f n x = x := by
  induction n with
  | zero => rfl
  | succ n ih => rw [iter, hfix, ih]

/-- While the program behind the front end does not run, what is held stays held (R29). -/
theorem pump_of_not_served {s : State} (hserver : s.serverUp = false) : s.pump = s :=
  iter_of_fixed (takeHeld_of_not_served hserver) _

/-- A packet that waits for the program behind the front end, with the tags of the TRIGGER_FIRE commands open before it (R473). -/
def State.holding (s : State) (op : Nat) (k : Pkt) : State :=
  { s with fe := { s.fe with held := s.fe.held ++ [⟨op, k, (s.fe.opn.filter (fun o => o.op == 0x54)).map (fun o => o.tag)⟩] } }

theorem accept_eq_pump {op : Nat} (h0 : op ≠ 0) (h8 : op ≠ 8) (h54 : op ≠ 0x54) (hb3 : op ≠ 0xB3) (s : State) (k : Pkt) :
    s.accept op k = (s.holding op k).pump := by
  simp only [State.accept, if_neg h0, if_neg h8, if_neg h54, if_neg hb3]
  rfl

theorem serve_of_illegal {op : Nat} {s : State} {cmd : Cmd} (hcmd : findCmd op = some cmd) (hlegal : legalIn op s.checkMode = false)
    (k : Pkt) : s.serve op k = s.answer op k (.done 5 s.tt.fn []) := by
  simp only [State.serve, hcmd, hlegal, Bool.not_false, if_true]

theorem serve_of_wrong_form {op : Nat} {k : Pkt} {s : State} {cmd : Cmd} (hcmd : findCmd op = some cmd)
    (hlegal : legalIn op s.checkMode = true) (hform : formOk op k = false) : s.serve op k = s.answer op k (.done 3 s.tt.fn []) := by
  simp only [State.serve, hcmd, hlegal, hform, Bool.not_true, Bool.not_false, Bool.false_eq_true, if_false, if_true]

/-! ### Arrival -/

theorem out_of_reset_of_coreRuns {s : State} (hcore : s.coreRuns = true) :
    (s.sys.phase == .unpowered || s.sys.phase == .reset) = false := by
  unfold State.coreRuns at hcore
  cases hphase : s.sys.phase <;> simp_all

theorem order_eq_false_of_wellSent {k : Pkt} {s : State} (hsent : wellSent k s = true) : k.order = false := by
  simp only [wellSent, Bool.and_eq_true, Bool.not_eq_true'] at hsent
  obtain ⟨⟨-, hord⟩, -⟩ := hsent
  exact hord

/-- A packet reaches checks 2 to 7 with its SEQ noted, its RSVD bits being any. -/
theorem arrive_eq_checked {op : Nat} {k : Pkt} {s : State} (hsent : wellSent { k with rsvd := 0 } s = true) (hrsvd : k.rsvd < 8192)
    (hlen : k.payload.length ≤ 257) (hcore : s.coreRuns = true) (hmode : s.sys.mode ≠ 7) (hecho : s.lnk.echo = false) :
    arrive op k s = (s.withSeq k.seq).checked op k := by
  have hseq : s.noteSeq k.seq = s.withSeq k.seq := noteSeq_of_wellSent (k := { k with rsvd := 0 }) hsent
  simp only [wellSent, Bool.and_eq_true, decide_eq_true_eq] at hsent
  obtain ⟨⟨⟨⟨⟨htag, hgen⟩, -⟩, hseqlt⟩, -⟩, -⟩ := hsent
  have hechoed : s.echoFrame (packetChars op k) = s := if_neg (Bool.eq_false_iff.mp hecho)
  rw [arrive_of_inWidths ⟨htag, hgen, hrsvd, hseqlt, hlen⟩, out_of_reset_of_coreRuns hcore, hechoed, arrived_of_awake hmode, hseq]
  rfl

/-- Settles O41: each branch of the checks is the law of that check above; a packet that passes them is held, and what is held is taken
once the program behind the front end runs. -/
theorem frontEndChecksInOrder : Obligations.FrontEndChecksInOrder := by
  intro op k s hsent hrsvdlt hlen hcore hmode hecho n c free u v
  rw [arrive_eq_checked hsent hrsvdlt hlen hcore hmode hecho]
  refine ⟨fun hno => checked_of_no_credits (Classical.not_not.mpr hno), fun hheader hunits => ?_⟩
  have hcredits : (s.withSeq k.seq).hasCredits c := not_or.mpr ⟨Nat.not_lt.mpr hheader, Nat.not_lt.mpr hunits⟩
  refine ⟨checked_of_busy hcredits, fun hfree => ⟨checked_of_long hcredits hfree, fun hmost => ⟨checked_of_unknown hcredits hfree hmost,
    fun cmd hcmd => ⟨checked_of_rsvd hcredits hfree hmost hcmd, fun hrsvd => ⟨checked_of_wrong_length hcredits hfree hmost hcmd hrsvd,
      fun hlo hhi h0 h8 h54 hb3 => ⟨fun hserver => ?_, fun hserver hheld => ?_⟩⟩⟩⟩⟩⟩
  · rw [checked_of_passed hcredits hfree hmost hcmd hrsvd hlo hhi, accept_eq_pump h0 h8 h54 hb3]
    exact pump_of_not_served hserver
  · have hord : k.order = false := order_eq_false_of_wellSent (k := { k with rsvd := 0 }) hsent
    have hserved := checked_ok (s := s.withSeq k.seq) hcmd hheld hfree hserver hord hrsvd hmost hlo hhi h0 h8 h54 hb3
    exact ⟨fun hlegal => hserved.trans (serve_of_illegal (s := v) hcmd hlegal k),
      fun hlegal hform => hserved.trans (serve_of_wrong_form (s := v) hcmd hlegal hform)⟩

/-! ### A busy tag (R462, R481) -/

theorem fe_event_of_empty {s : State} {code : Nat} (hmask : s.fe.evMask.testBit code = false) (hempty : s.fe.events = [])
    (pl : List Word) : (s.event code pl).fe.events = [⟨code, 1, s.tt.fn, pl⟩] := by
  have hnew : ∀ e ∈ s.fe.events, e.code ≠ code := by simp [hempty]
  rw [event_of_room hmask hnew (by simp [hempty])]
  exact congrArg (fun es : List EvEntry => es ++ [⟨code, 1, s.tt.fn, pl⟩]) hempty

/-- An event changes nothing of the front end but the event queue. -/
theorem fe_event (s : State) (code : Nat) (pl : List Word) :
    (s.event code pl).fe = { s.fe with events := (s.event code pl).fe.events, lost := (s.event code pl).fe.lost } := by
  unfold State.event
  split
  · rfl
  split
  · rfl
  split <;> rfl

theorem bits_packetWord {op : Nat} {k : Pkt} (hop : op < 256) (htag : k.tag < 4096) (hgen : k.gen < 16) :
    bits (packetWord op k) 0 12 = k.tag ∧ bits (packetWord op k) 12 4 = k.gen ∧ bits (packetWord op k) 16 8 = op := by
  rw [packetWord, bits_w32 (by decide), bits_w32 (by decide), bits_w32 (by decide)]
  omega

/-- Settles O43: check 3 counts the packet and raises its event, and neither touches what the front end holds of any command. -/
theorem busyTagIsDiscarded : Obligations.BusyTagIsDiscarded := by
  intro op k s hop hsent hrsvd hlen hcore hmode hecho hheader hunits hbusy t
  have hcredits : (s.withSeq k.seq).hasCredits (charge op k.payload.length) :=
    not_or.mpr ⟨Nat.not_lt.mpr hheader, Nat.not_lt.mpr hunits⟩
  have ht : t = State.event (((s.withSeq k.seq).bump F.CMD_TAGCOL_COUNT).release (charge op k.payload.length)) 1 [packetWord op k] :=
    (arrive_eq_checked hsent hrsvd hlen hcore hmode hecho).trans (checked_of_busy hcredits hbusy)
  have hfe := fe_event (((s.withSeq k.seq).bump F.CMD_TAGCOL_COUNT).release (charge op k.payload.length)) 1 [packetWord op k]
  rw [← ht] at hfe
  have htags : t.busy = s.busy := by
    rw [State.busy, State.waitingTags, hfe]
    rfl
  have hcount : t.rd F.CMD_TAGCOL_COUNT = min 65535 (s.rd F.CMD_TAGCOL_COUNT + 1) := by
    rw [ht, rd_event (by decide)]
    exact rd_bump_same (by decide) (s.withSeq k.seq)
  simp only [wellSent, Bool.and_eq_true, decide_eq_true_eq] at hsent
  obtain ⟨⟨⟨⟨⟨htag, hgen⟩, -⟩, -⟩, -⟩, -⟩ := hsent
  refine ⟨by rw [hfe]; rfl, by rw [hfe]; rfl, by rw [hfe]; rfl, by rw [hfe]; rfl, htags, hcount, fun hmask hempty => ?_,
    bits_packetWord hop htag hgen⟩
  rw [ht]
  exact fe_event_of_empty
    (s := ((s.withSeq k.seq).bump F.CMD_TAGCOL_COUNT).release (charge op k.payload.length)) hmask hempty [packetWord op k]

/-! ### PING and HALL_PASS_QUERY (R467, R468, R477) -/

/-- What the front end serves itself is charged nothing, so that a full receive buffer does not turn it away (R467). -/
theorem hasCredits_of_uncharged {s : State} {c : Nat × Nat} (hc : c = (0, 0)) : s.hasCredits c := by
  rw [hc]
  exact not_or.mpr ⟨Nat.not_lt_zero _, Nat.not_lt_zero _⟩

/-- A packet that passes the checks is taken by the front end with its SEQ noted, whether or not the program behind it runs. -/
theorem arrive_eq_accept {op : Nat} {k : Pkt} {s : State} {cmd : Cmd} (hsent : wellSent k s = true) (hreach : reaches k s = true)
    (hcmd : findCmd op = some cmd) (hcharge : charge op k.payload.length = (0, 0)) (hmost : k.payload.length ≤ 256)
    (hlo : cmd.lo ≤ k.payload.length) (hhi : k.payload.length ≤ cmd.hi) : arrive op k s = (s.withSeq k.seq).accept op k :=
  (arrive_checked hsent hreach (Nat.le_succ_of_le hmost)).trans
    (checked_of_passed (s := s.withSeq k.seq) (hasCredits_of_uncharged hcharge) (tag_free_of_reaches hreach) hmost hcmd
      (rsvd_eq_zero_of_wellSent hsent) hlo hhi)

theorem arrive_ping {k : Pkt} {s : State} (hsent : wellSent k s = true) (hreach : reaches k s = true) (hmost : k.payload.length ≤ 256) :
    arrive 0x00 k s = (s.withSeq k.seq).answer 0x00 k (.done 0 s.tt.fn k.payload) :=
  arrive_eq_accept (cmd := ⟨0x00, 0, 256, srvPing⟩) hsent hreach rfl rfl hmost (Nat.zero_le _) hmost

theorem arrive_hallPassQuery {k : Pkt} {s : State} (hsent : wellSent k s = true) (hreach : reaches k s = true)
    (hnone : k.payload = []) : arrive 0x08 k s = (s.withSeq k.seq).answer 0x08 k (.done 0 s.tt.fn
      [w32 (4096 + 2048 * 65536), w32 (s.fe.hdrRel + s.fe.payRel * 65536), w32 (s.fe.held.length + k.seq * 65536)]) := by
  have hlen : k.payload.length = 0 := by rw [hnone]; rfl
  exact arrive_eq_accept (cmd := ⟨0x08, 0, 0, srvHallPassQuery⟩) hsent hreach rfl rfl (by omega) (Nat.zero_le _)
    (Nat.le_of_eq hlen)

/-- Settles O2: both packets pass the checks uncharged and are answered by the front end itself. -/
theorem frontEndAnswersItself : Obligations.FrontEndAnswersItself := by
  intro k s hsent hreach
  refine ⟨fun hmost => ?_, fun hnone => ?_⟩
  · exact congrArg (fun t : State => Host.Outcome.next (s.keepQueue t)) (arrive_ping hsent hreach hmost)
  · exact congrArg (fun t : State => Host.Outcome.next (s.keepQueue t)) (arrive_hallPassQuery hsent hreach hnone)

/-! ### Commands outside the present mode (R459) -/

/-- A device up to its command interface, with the mode code 0xD, for which the matrix of R489 has no column. -/
def beyondModes : State :=
  { State.reset with
    sys := { State.reset.sys with phase := .run, mode := 0xD, fw := .running, takenOver := true }
    lnk := { State.reset.lnk with state := 2 } }

/-- A PING with no payload. -/
def emptyPing : Pkt := ⟨0, 0, false, 0, 0, []⟩

theorem ping_illegal_beyondModes : legalIn 0x00 beyondModes.checkMode = false := by decide

/-- The front end answers PING OK in every mode, for it makes no check of the mode before it serves it (R474). -/
theorem out_ping_beyondModes : (arrive 0x00 emptyPing beyondModes).fe.out = [.reply 0x00 0 0 0 0 []] := by
  rw [arrive_ping (by decide) (by decide) (by decide)]
  exact congrArg Fe.out (fe_reply (s := beyondModes.withSeq 0) rfl rfl 0x00 0 0 0 0 [])

/-- Refutes O44: its first clause takes in the commands that the front end serves itself, which come to no check of the mode. In a state
with the mode code 0xD, which R487 gives to no mode and for which `legalIn` finds no column of the matrix, PING is answered OK and not
STATE. -/
theorem not_illegalCommandIsAnsweredState : ¬ Obligations.IllegalCommandIsAnsweredState := by
  intro h
  obtain ⟨hillegal, -⟩ := h 0x00 emptyPing beyondModes (by decide) rfl (by decide) rfl rfl rfl (by decide) rfl rfl (by decide)
  obtain ⟨hout, -⟩ := hillegal ⟨0x00, 0, 256, srvPing⟩ rfl (by decide) (by decide) (by decide) rfl ping_illegal_beyondModes
  rw [out_ping_beyondModes] at hout
  exact absurd hout (by decide)

end Sys2Proof.Machine
end

section
/-!
PROOF. The register and table commands (R482 to R485): what serving each one does under the checks of its own rule, and that the answer is
sent.
-/

namespace Sys2Proof.Machine

open Sys2Proof (Word Pkt Instr)

/-! ### Registers (R482, R576) -/

section
variable {k : Pkt} {s : State}

theorem srvRegRead_ok (hassigned : assigned (pf k 0 0 16) = true) :
    srvRegRead k s = (.done 0 (readReg (pf k 0 0 16) s).2.tt.fn [(readReg (pf k 0 0 16) s).1], (readReg (pf k 0 0 16) s).2) := by
  simp only [srvRegRead, hassigned, Bool.not_true, Bool.false_eq_true, if_false]
  rfl

theorem srvRegWrite_ok {t : State} (hassigned : assigned (pf k 0 0 16) = true)
    (hwrite : writeReg (pf k 0 0 16) (pw k 1) allOnes s = (.ok, t)) : srvRegWrite k s = (.done (heldStatus s t) t.tt.fn [], t) := by
  simp only [srvRegWrite, hassigned, hwrite, Bool.not_true, Bool.false_eq_true, if_false]
  rfl

theorem srvRegModify_ok {t : State} (hassigned : assigned (pf k 0 0 16) = true)
    (hwrite : writeReg (pf k 0 0 16) (pw k 2) (pw k 1) (readReg (pf k 0 0 16) s).2 = (.ok, t)) :
    srvRegModify k s = (.done (heldStatus s t) t.tt.fn [(readReg (pf k 0 0 16) s).1], t) := by
  simp only [srvRegModify, hassigned, hwrite, Bool.not_true, Bool.false_eq_true, if_false]
  rfl

/-- A run of registers that lies within one bank (R482). -/
theorem srvRegReadBlock_ok (hsome : 1 ≤ pf k 1 0 9) (hmost : pf k 1 0 9 ≤ 256) (hbank : pf k 0 0 16 % 256 + pf k 1 0 9 ≤ 256) :
    let r := readRun (pf k 1 0 9) (pf k 0 0 16) s
    srvRegReadBlock k s = (.done 0 r.2.tt.fn r.1, r.2) :=
  if_neg (by omega)

theorem srvRegWriteBlock_ok {t : State} (hbank : pf k 0 0 16 % 256 + (k.payload.length - 1) ≤ 256)
    (hwrite : writeRun (k.payload.drop 1) (pf k 0 0 16) 0 s = (none, t)) :
    srvRegWriteBlock k s = (.done (heldStatus s t) t.tt.fn [], t) := by
  have hfits : ¬ 256 < pf k 0 0 16 % 256 + (k.payload.drop 1).length := by rw [List.length_drop]; omega
  simp only [srvRegWriteBlock, if_neg hfits, hwrite]
  rfl

/-! ### Windows (R484, R485) -/

/-- A run of words that lies in a window that can be written. -/
theorem srvTableWrite_in_range {n : Nat} (hwindow : windowWords (pf k 0 0 16) = some n) (hopen : readOnlyWindow (pf k 0 0 16) = false)
    (hfits : pf k 1 0 22 + (k.payload.length - 2) ≤ (if pf k 0 0 16 = 0x0200 then 505 else n)) :
    srvTableWrite k s =
      if pf k 0 0 16 = 0x0001 then tblHomeroom k.tag (pf k 1 0 22) (k.payload.drop 2) s
      else
        let r := windowWrite (pf k 0 0 16) (pf k 1 0 22) (k.payload.drop 2) s
        WRes.ans r.2 r.1 := by
  rw [← List.length_drop] at hfits
  simp only [srvTableWrite, hwindow, if_neg (Nat.not_lt.mpr hfits), hopen, Bool.false_eq_true, if_false]

theorem srvTableWrite_ok {n : Nat} {t : State} (hother : pf k 0 0 16 ≠ 0x0001) (hwindow : windowWords (pf k 0 0 16) = some n)
    (hopen : readOnlyWindow (pf k 0 0 16) = false)
    (hfits : pf k 1 0 22 + (k.payload.length - 2) ≤ (if pf k 0 0 16 = 0x0200 then 505 else n))
    (hwrite : windowWrite (pf k 0 0 16) (pf k 1 0 22) (k.payload.drop 2) s = (.ok, t)) :
    srvTableWrite k s = (.done 0 t.tt.fn [], t) := by
  rw [srvTableWrite_in_range hwindow hopen hfits, if_neg hother, hwrite]
  rfl

/-- A write of the Homeroom window that does not reach its last word fills the buffer (R500). -/
theorem srvTableWrite_homeroom (hhome : pf k 0 0 16 = 0x0001) (hmode : s.checkMode = 0x2 ∨ s.checkMode = 0xC)
    (hbefore : pf k 1 0 22 + (k.payload.length - 2) < 128) :
    srvTableWrite k s = (.done 0 s.tt.fn [], s.setRun (wkey widHrBuf (pf k 1 0 22)) (k.payload.drop 2)) := by
  have hwritable : ¬ (s.checkMode != 0x2 && s.checkMode != 0xC) = true := by
    rcases hmode with h | h <;> simp [h]
  have hmore : pf k 1 0 22 + (k.payload.drop 2).length < 128 := by rwa [List.length_drop]
  rw [srvTableWrite_in_range (n := 128) (by rw [hhome]; rfl) (by rw [hhome]; rfl) (by rw [hhome]; exact Nat.le_of_lt hbefore), if_pos hhome]
  exact (if_neg hwritable).trans (if_pos hmore)

theorem srvTableRead_ok {size : Nat} {ws : List Word} {t : State} (hsome : 1 ≤ pf k 2 0 9) (hmost : pf k 2 0 9 ≤ 256)
    (hwindow : windowWords (pf k 0 0 16) = some size) (hfits : pf k 1 0 22 + pf k 2 0 9 ≤ size)
    (hread : windowRead (pf k 0 0 16) (pf k 1 0 22) (pf k 2 0 9) s = (some ws, t)) : srvTableRead k s = (.done 0 t.tt.fn ws, t) := by
  have hrange : ¬ (pf k 2 0 9 = 0 ∨ 256 < pf k 2 0 9 ∨ size < pf k 1 0 22 + pf k 2 0 9) := by omega
  simp only [srvTableRead, hwindow, if_neg hrange, hread]
  rfl

end

/-! ### The answers -/

/-- A register command that does not ask for SOFT_RESET leaves what its service leaves, answered (R696). -/
theorem answered_of_srv_of_not_softAsked {op : Nat} {k : Pkt} {s t : State} {c : Cmd} {a : Ans} (hready : ready op k s = true)
    (hcmd : findCmd op = some c) (hop : op ∉ [0x00, 0x03, 0x08, 0x21, 0x54, 0xB3]) (hsoft : softAsked op k = false)
    (hsrv : c.srv k (s.takes op k) = (a, t)) : .next (s.keepQueue (arrive op k s)) = answered s op k a t := by
  simp only [List.mem_cons, List.not_mem_nil, not_or, or_false] at hop
  obtain ⟨h00, h03, h08, h21, h54, hb3⟩ := hop
  rw [answered, arrive_answered hready hcmd h00 h08 h54 hb3 h03 h21 hsoft hsrv]

/-- Settles O5: each command passes its own checks under the hypotheses of its clause, and the lemma of its service gives the reply and
the state. -/
theorem registerCommandsAnswer : Obligations.RegisterCommandsAnswer := by
  intro k s a
  refine ⟨fun hready hassigned => ?_, fun hready hassigned hsoft t hwrite => ?_, fun hready hassigned hsoft t hwrite => ?_,
    fun hready => ?_, fun hready hbank hsoft t hwrite => ?_, fun hready hother hopen n t hwindow hfits hwrite => ?_,
    fun hready hhome hmode hbefore => ?_, fun hready => ?_⟩
  · exact answered_of_srv hready rfl (by decide) (srvRegRead_ok (s := s.takes 0x10 k) hassigned)
  · exact answered_of_srv_of_not_softAsked hready rfl (by decide) hsoft (srvRegWrite_ok (s := s.takes 0x11 k) hassigned hwrite)
  · exact answered_of_srv_of_not_softAsked hready rfl (by decide) hsoft (srvRegModify_ok (s := s.takes 0x12 k) hassigned hwrite)
  · intro n hsome hmost hbank
    exact answered_of_srv hready rfl (by decide) (srvRegReadBlock_ok (s := s.takes 0x13 k) hsome hmost hbank)
  · exact answered_of_srv_of_not_softAsked hready rfl (by decide) hsoft (srvRegWriteBlock_ok (s := s.takes 0x14 k) hbank hwrite)
  · exact answered_of_srv hready rfl (by decide) (srvTableWrite_ok (s := s.takes 0x15 k) hother hwindow hopen hfits hwrite)
  · exact answered_of_srv hready rfl (by decide) (srvTableWrite_homeroom (s := s.takes 0x15 k) hhome hmode hbefore)
  · intro n hsome hmost size ws t hwindow hfits hread
    exact answered_of_srv hready rfl (by decide) (srvTableRead_ok (s := s.takes 0x16 k) hsome hmost hwindow hfits hread)

end Sys2Proof.Machine
end

section
/-!
PROOF. What a command that only reads can change (R459, R469, R472): however its packet is turned away, held or answered, the front end,
the link that carries the reply, and the counts of both. And every row of the table answers a next state.
-/

namespace Sys2Proof.Machine

open Sys2Proof (Word Pkt Instr)

/-! ### The front end and its counts -/

/-- `t` differs from `s` in the front end, the link, and the registers of bank CMD, LNK_STAT and LNK_LONGFRM alone. -/
structure FrontOnly (s t : State) : Prop where
  quiet : Quiet s t
  reg : ∀ a : Nat, a / 256 ≠ 1 → a ≠ R.LNK_STAT → a ≠ R.LNK_LONGFRM → t.reg a = s.reg a

theorem FrontOnly.refl (s : State) : FrontOnly s s := ⟨Quiet.refl s, fun _ _ _ _ => rfl⟩

theorem FrontOnly.trans {s t u : State} (h : FrontOnly s t) (g : FrontOnly t u) : FrontOnly s u :=
  ⟨h.quiet.trans g.quiet, fun a hbank hstat hlong => (g.reg a hbank hstat hlong).trans (h.reg a hbank hstat hlong)⟩

theorem frontOnly_fe (s : State) (x : Fe) : FrontOnly s { s with fe := x } := ⟨fe_quiet s x, fun _ _ _ _ => rfl⟩

theorem ne_of_bank_ne {a b : Nat} (hbank : a / 256 ≠ 1) (hb : b / 256 = 1) : a ≠ b := fun h => hbank (h ▸ hb)

theorem frontOnly_bump {f : Fld} (hf : f.addr / 256 = 1) (s : State) : FrontOnly s (s.bump f) :=
  ⟨bump_quiet s f, fun _ hbank _ _ => State.reg_wr_other (ne_of_bank_ne hbank hf) s _⟩

theorem frontOnly_bump_longFrame (s : State) : FrontOnly s (s.bump F.LNK_LONGFRM_COUNT) :=
  ⟨bump_quiet s _, fun _ _ _ hlong => State.reg_wr_other hlong s _⟩

theorem frontOnly_event (s : State) (code : Nat) (pl : List Word) : FrontOnly s (s.event code pl) :=
  ⟨event_quiet s code pl, fun _ hbank _ _ => reg_event (ne_of_bank_ne hbank rfl) s code pl⟩

theorem frontOnly_release (s : State) (c : Nat × Nat) : FrontOnly s (s.release c) := frontOnly_fe s _

theorem frontOnly_reply (s : State) (op tag gen st fn : Nat) (pl : List Word) : FrontOnly s (s.reply op tag gen st fn pl) :=
  ⟨reply_quiet s op tag gen st fn pl, fun _ _ hstat _ => reg_reply hstat s op tag gen st fn pl⟩

theorem frontOnly_finish (s : State) (op tag st fn : Nat) (pl : List Word) : FrontOnly s (s.finish op tag st fn pl) :=
  ⟨finish_quiet s op tag st fn pl, fun _ _ hstat _ => reg_finish hstat s op tag st fn pl⟩

theorem frontOnly_countState (s : State) (st : Nat) (pl : List Word) : FrontOnly s (s.countState st pl).2 := by
  unfold State.countState
  split
  · exact frontOnly_bump rfl s
  · exact FrontOnly.refl s

theorem frontOnly_answer (s : State) (op : Nat) (k : Pkt) (a : Ans) : FrontOnly s (s.answer op k a) := by
  have hopen : FrontOnly s (s.opening op k) := frontOnly_fe s _
  cases a with
  | done st fn pl => exact (hopen.trans (frontOnly_countState _ st pl)).trans (frontOnly_finish _ op k.tag st fn _)
  | both st fn pl => exact (hopen.trans (frontOnly_reply _ op k.tag k.gen 1 _ [])).trans (frontOnly_finish _ op k.tag st fn pl)
  | accepted pl => exact hopen.trans (frontOnly_reply _ op k.tag k.gen 1 _ pl)
  | later => exact hopen

theorem frontOnly_turnAway (s : State) (op : Nat) (k : Pkt) (st : Nat) (pl : List Word) : FrontOnly s (s.turnAway op k st pl) :=
  (frontOnly_release s _).trans (frontOnly_answer _ op k _)

/-! ### The checks (R454, R457, R458) -/

theorem frontOnly_framingLost (s : State) (cause : Nat) : FrontOnly s (s.framingLost cause) :=
  (frontOnly_bump (f := F.CMD_FRAMING_COUNT) rfl s).trans (frontOnly_event _ 0x13 _)

theorem noteSeq_eq_or (s : State) (seq : Nat) :
    s.noteSeq seq = s.withSeq seq ∨ s.noteSeq seq = (s.bump F.CMD_SEQGAP_COUNT).withSeq seq := by
  cases hlast : s.fe.lastSeq with
  | none => exact .inl (noteSeq_of_first hlast seq)
  | some p =>
    by_cases hnext : (p + 1) % 65536 = seq
    · exact .inl (noteSeq_of_follows hlast hnext)
    · exact .inr (noteSeq_of_gap hlast hnext)

theorem frontOnly_noteSeq (s : State) (seq : Nat) : FrontOnly s (s.noteSeq seq) := by
  rcases noteSeq_eq_or s seq with h | h <;> rw [h]
  · exact frontOnly_fe s _
  · exact (frontOnly_bump rfl s).trans (frontOnly_fe _ _)

theorem held_noteSeq (s : State) (seq : Nat) : (s.noteSeq seq).fe.held = s.fe.held := by
  rcases noteSeq_eq_or s seq with h | h <;> rw [h] <;> rfl

theorem frontOnly_checked {s : State} {op : Nat} {k : Pkt} (haccept : FrontOnly s (s.accept op k)) : FrontOnly s (s.checked op k) := by
  unfold State.checked
  simp only []
  split
  · exact ((frontOnly_bump rfl s).trans (frontOnly_release _ _)).trans (frontOnly_event _ _ _)
  split
  · exact ((frontOnly_bump rfl s).trans (frontOnly_release _ _)).trans (frontOnly_event _ _ _)
  split
  · exact ((frontOnly_bump rfl s).trans (frontOnly_event _ _ _)).trans (frontOnly_turnAway _ op k 3 [])
  split
  · exact (frontOnly_bump rfl s).trans (frontOnly_turnAway _ op k 2 [])
  split
  · exact frontOnly_turnAway s op k 4 _
  split
  · exact frontOnly_turnAway s op k 3 []
  · exact haccept

/-! ### A command that only reads -/

/-- Serving the command leaves the state as it is, and nothing follows its answer. -/
structure OnlyReads (op : Nat) (c : Cmd) : Prop where
  cmd : findCmd op = some c
  plain : op ∉ [0x00, 0x03, 0x05, 0x08, 0x11, 0x12, 0x14, 0x21, 0x54, 0xB3]
  srv : ∀ (k : Pkt) (s : State), (c.srv k s).2 = s

theorem OnlyReads.softAsked {op : Nat} {c : Cmd} (h : OnlyReads op c) (k : Pkt) : softAsked op k = false := by
  have hop := h.plain
  simp only [List.mem_cons, List.not_mem_nil, not_or, or_false] at hop
  obtain ⟨-, -, h05, -, h11, h12, h14, -⟩ := hop
  exact softAsked_of_other_op (by simp [h05, h11, h12, h14]) k

theorem OnlyReads.afterwards {op : Nat} {c : Cmd} (h : OnlyReads op c) (s : State) (k : Pkt) (a : Ans) : s.afterwards op k a = s := by
  have hop := h.plain
  simp only [List.mem_cons, List.not_mem_nil, not_or, or_false] at hop
  obtain ⟨-, h03, -, -, -, -, -, h21, h54, -⟩ := hop
  simp only [State.afterwards, h03, h21, h54, or_self, if_false, h.softAsked k, Bool.false_eq_true]
  split <;> rfl

theorem frontOnly_serve {op : Nat} {c : Cmd} (h : OnlyReads op c) (k : Pkt) (s : State) : FrontOnly s (s.serve op k) := by
  simp only [State.serve, h.cmd]
  split
  · exact frontOnly_answer s op k _
  split
  · exact frontOnly_answer s op k _
  · rw [h.softAsked k, if_neg Bool.false_ne_true, h.afterwards, h.srv]
    exact frontOnly_answer s op k _

/-- With nothing held before it the packet is the one that the program behind the front end may take. -/
theorem pump_holding {s : State} (hheld : s.fe.held = []) (op : Nat) (k : Pkt) : (s.holding op k).pump = (s.holding op k).takeHeld := by
  have hone : (s.holding op k).fe.held.length = 1 := by
    rw [State.holding, hheld]
    rfl
  rw [State.pump, hone]
  rfl

theorem frontOnly_takeHeld_holding {op : Nat} {c : Cmd} (h : OnlyReads op c) {s : State} (hheld : s.fe.held = []) (k : Pkt) :
    FrontOnly s (s.holding op k).takeHeld := by
  simp only [State.takeHeld, State.holding, hheld, List.nil_append]
  split
  · exact frontOnly_fe s _
  · exact ((frontOnly_fe s _).trans (frontOnly_release _ _)).trans (frontOnly_serve h k _)

theorem frontOnly_accept {op : Nat} {c : Cmd} (h : OnlyReads op c) {s : State} (hheld : s.fe.held = []) (k : Pkt) :
    FrontOnly s (s.accept op k) := by
  have hop := h.plain
  simp only [List.mem_cons, List.not_mem_nil, not_or, or_false] at hop
  obtain ⟨h00, -, -, h08, -, -, -, -, h54, hb3⟩ := hop
  rw [accept_eq_pump h00 h08 h54 hb3, pump_holding hheld]
  exact frontOnly_takeHeld_holding h hheld k

theorem frontOnly_arrive {op : Nat} {c : Cmd} (h : OnlyReads op c) {s : State} (hheld : s.fe.held = []) (hmode : s.sys.mode ≠ 7)
    (hecho : s.lnk.echo = false) (k : Pkt) : FrontOnly s (arrive op k s) := by
  have hechoed : ∀ cs, s.echoFrame cs = s := fun _ => if_neg (Bool.eq_false_iff.mp hecho)
  unfold arrive
  split
  · exact FrontOnly.refl s
  split
  · exact (frontOnly_bump_longFrame s).trans (frontOnly_framingLost _ 2)
  · extract_lets p
    rw [hechoed, arrived_of_awake hmode]
    exact (frontOnly_noteSeq s _).trans (frontOnly_checked (frontOnly_accept h ((held_noteSeq s _).trans hheld) _))

/-- Such a change touches neither the queue nor the fuses. -/
theorem keepQueue_of_quiet {s t : State} (h : Quiet s t) : s.keepQueue t = t := by
  rw [State.keepQueue, ← h.pending, ← h.otp]

/-- What a command that only reads leaves, however its packet is received. -/
theorem frontOnly_exec {op : Nat} {c : Cmd} (h : OnlyReads op c) {k : Pkt} {s t : State} {i : Instr} (hheld : s.fe.held = [])
    (hmode : s.sys.mode ≠ 7) (hecho : s.lnk.echo = false) (hexec : exec i s = .next t)
    (hrow : exec i s = .next (s.keepQueue (arrive op k s))) : FrontOnly s t := by
  have harrive := frontOnly_arrive h hheld hmode hecho k
  have ht : t = s.keepQueue (arrive op k s) := Host.Outcome.next.inj (hexec.symm.trans hrow)
  rwa [ht, keepQueue_of_quiet harrive.quiet]

/-! ### The services that only read -/

theorem srvSpMapRead_reads (k : Pkt) (s : State) : (srvSpMapRead k s).2 = s := by
  unfold srvSpMapRead
  extract_lets whole start n most
  split
  · rfl
  split <;> rfl

theorem srvStatsRead_reads (k : Pkt) (s : State) : (srvStatsRead k s).2 = s := by
  unfold srvStatsRead
  simp only []
  split
  · rfl
  split
  · rfl
  split <;> rfl

theorem srvPrbsRead_reads (k : Pkt) (s : State) : (srvPrbsRead k s).2 = s := by
  unfold srvPrbsRead
  split <;> rfl

/-- The commands whose one action is a final reply OK. -/
theorem onlyReads_of_ok {op : Nat} {c : Cmd} (hcmd : findCmd op = some c)
    (hplain : op ∉ [0x00, 0x03, 0x05, 0x08, 0x11, 0x12, 0x14, 0x21, 0x54, 0xB3]) {reply : Pkt → State → List Word}
    (hok : c.srv = fun k s => s.ok (reply k s)) : OnlyReads op c :=
  ⟨hcmd, hplain, fun k s => by rw [hok]; rfl⟩

/-- Settles O49: each of these commands leaves the state as it is when it is served, so what its packet changes is what the front end
does with any packet. -/
theorem readCommandsChangeNoSetting : Obligations.ReadCommandsChangeNoSetting := by
  intro k s t i hi hheld hmode hecho hexec
  suffices hfront : FrontOnly s t by
    refine ⟨?_, hfront.reg⟩
    rw [hfront.quiet.free]
    exact hfront.quiet
  have hreads : ∀ {op : Nat} {c : Cmd}, OnlyReads op c → exec i s = .next (s.keepQueue (arrive op k s)) → FrontOnly s t :=
    fun h hrow => frontOnly_exec h hheld hmode hecho hexec hrow
  simp only [List.mem_cons, List.not_mem_nil, or_false] at hi
  rcases hi with rfl | rfl | rfl | rfl | rfl | rfl | rfl | rfl | rfl | rfl | rfl | rfl | rfl | rfl
  · exact hreads (op := 0x01) (onlyReads_of_ok rfl (by decide) rfl) rfl
  · exact hreads (op := 0x02) (onlyReads_of_ok rfl (by decide) rfl) rfl
  · exact hreads (op := 0x04) (onlyReads_of_ok rfl (by decide) rfl) rfl
  · exact hreads (op := 0x22) (onlyReads_of_ok rfl (by decide) rfl) rfl
  · exact hreads (op := 0x44) ⟨rfl, by decide, srvSpMapRead_reads⟩ rfl
  · exact hreads (op := 0x69) ⟨rfl, by decide, srvStatsRead_reads⟩ rfl
  · exact hreads (op := 0x80) (onlyReads_of_ok rfl (by decide) rfl) rfl
  · exact hreads (op := 0x85) ⟨rfl, by decide, srvPrbsRead_reads⟩ rfl
  · exact hreads (op := 0x90) (onlyReads_of_ok rfl (by decide) rfl) rfl
  · exact hreads (op := 0xA4) (onlyReads_of_ok rfl (by decide) rfl) rfl
  · exact hreads (op := 0xB5) (onlyReads_of_ok rfl (by decide) rfl) rfl
  · exact hreads (op := 0xD4) (onlyReads_of_ok rfl (by decide) rfl) rfl
  · exact hreads (op := 0xE1) (onlyReads_of_ok rfl (by decide) rfl) rfl
  · exact hreads (op := 0xE4) (onlyReads_of_ok rfl (by decide) rfl) rfl

/-! ### Every row of the table -/

/-- A row answers a next state and leaves the queue of `s` in it. -/
def GoesOn (s : State) (o : Host.Outcome State Fault Refusal) : Prop := ∃ t, o = .next t ∧ t.pending = s.pending

theorem goesOn_keepQueue (s t : State) : GoesOn s (.next (s.keepQueue t)) := ⟨_, rfl, rfl⟩

/-- Settles O38: a row leaves what it brings under `keepQueue`; OTP_WORD_PROGRAMMED, which blows fuses, puts the queue back itself. -/
theorem everyRowGoesOn : Obligations.EveryRowGoesOn := by
  intro i s
  cases i
  case otpWordProgrammed short loose => exact ⟨{ s.otpWord short loose with pending := s.pending }, rfl, rfl⟩
  all_goals exact goesOn_keepQueue s _

end Sys2Proof.Machine
end

section
/-!
PROOF. What a step can do to the fuses (R592, R602): every row but OTP_WORD_PROGRAMMED leaves the cells, and that one blows bits of one
word.
-/

namespace Sys2Proof.Machine

open Sys2Proof (Word Instr)

/-! ### Blowing bits of a word -/

@[simp] theorem Otp.cell_blow_same (o : Otp) (a : Nat) (b l : Word) :
    (o.blow a b l).cell a = ((o.cell a).1 ||| b, (o.cell a).2 ||| b ||| l) := by
  simp [Otp.blow, Otp.cell]

theorem Otp.cell_blow_other (o : Otp) {a c : Nat} (hne : c ≠ a) (b l : Word) : (o.blow a b l).cell c = o.cell c := by
  have hhead : (a == c) = false := beq_false_of_ne (Ne.symm hne)
  have htail : (o.cells.filter (fun d => d.1 != a)).find? (fun d => d.1 == c) = o.cells.find? (fun d => d.1 == c) := by
    rw [List.find?_filter]
    congr 1
    funext d
    by_cases hd : d.1 = c
    · simp [hd, hne]
    · simp [hd]
  simp only [Otp.cell, Otp.blow, List.find?_cons, hhead, htail]

theorem Otp.cell_congr {o p : Otp} (hcells : o.cells = p.cells) (a : Nat) : o.cell a = p.cell a := by
  rw [Otp.cell, Otp.cell, hcells]

/-! ### OTP_WORD_PROGRAMMED (R602) -/

theorem cells_otpEnd (s : State) (j : OtpJob) (st : Nat) (pl : List Word) : (s.otpEnd j st pl).otp.cells = s.otp.cells := by
  rw [State.otpEnd, (finish_quiet _ _ _ _ _ _).otp, setCounters_otp]

/-- With a word to program, the wanted bits but the short ones are blown, and of the short ones some at the loose reference. -/
theorem cells_otpWord {s : State} {j : OtpJob} {a : Nat} {w : Word} {rest : List (Nat × Word)} (hjob : s.otp.job = some j)
    (hwords : j.words = (a, w) :: rest) (short loose : Word) :
    let want := w &&& ~~~ (s.otp.cell a).1
    (s.otpWord short loose).otp.cells = (s.otp.blow a (want &&& ~~~ (want &&& short)) (want &&& short &&& loose)).cells := by
  simp only [State.otpWord, hjob, hwords]
  split
  · exact cells_otpEnd _ _ _ _
  · split
    · exact cells_otpEnd _ _ _ _
    · rfl

theorem cells_otpWord_of_no_word {s : State} (hnone : ∀ j, s.otp.job = some j → j.words = []) (short loose : Word) :
    (s.otpWord short loose).otp.cells = s.otp.cells := by
  unfold State.otpWord
  split
  next => rfl
  next j hjob => simp only [hnone j hjob, cells_otpEnd]

/-- What OTP_WORD_PROGRAMMED can do to the cells. -/
theorem cells_otpWord_cases (s : State) (short loose : Word) :
    (s.otpWord short loose).otp.cells = s.otp.cells ∨ ∃ a b l, (s.otpWord short loose).otp.cells = (s.otp.blow a b l).cells := by
  by_cases hnone : ∀ j, s.otp.job = some j → j.words = []
  · exact .inl (cells_otpWord_of_no_word hnone short loose)
  · push Not at hnone
    obtain ⟨j, hjob, hsome⟩ := hnone
    obtain ⟨⟨a, w⟩, rest, hwords⟩ := List.exists_cons_of_ne_nil hsome
    exact .inr ⟨a, _, _, cells_otpWord hjob hwords short loose⟩

/-! ### A step -/

/-- The cells of `t` are those of `s`, but for bits of one word that were blown. -/
def BlowsOneWord (s t : State) : Prop := t.otp.cells = s.otp.cells ∨ ∃ a b l, t.otp.cells = (s.otp.blow a b l).cells

theorem blowsOneWord_keepQueue {s u t : State} (hnext : Host.Outcome.next (s.keepQueue u) = (.next t : Host.Outcome State Fault Refusal)) :
    BlowsOneWord s t := by
  obtain rfl := Host.Outcome.next.inj hnext
  exact .inl rfl

theorem blowsOneWord_of_exec {i : Instr} {s t : State} (hexec : exec i s = .next t) : BlowsOneWord s t := by
  cases i
  case otpWordProgrammed short loose =>
    obtain rfl := Host.Outcome.next.inj hexec
    exact cells_otpWord_cases s short loose
  all_goals exact blowsOneWord_keepQueue hexec

theorem blowsOneWord_of_step {s t : State} (hstep : step s = .next t) : BlowsOneWord s t := by
  unfold step at hstep
  split at hstep
  next i rest _ => exact blowsOneWord_of_exec (s := s.withPending rest) hstep
  next => exact blowsOneWord_keepQueue hstep

/-! ### What every step keeps -/

theorem within_refl (w : Word) : within w w := BitVec.and_self

theorem within_or (w x : Word) : within w (w ||| x) := by
  unfold within
  ext i
  simp only [BitVec.getElem_and, BitVec.getElem_or, Bool.and_or_distrib_left, Bool.and_self]
  cases w[i] <;> simp

theorem within_or_or {w x : Word} (h : within w x) (b l : Word) : within (w ||| b) (x ||| b ||| l) := by
  unfold within at *
  ext i hi
  have hbit : (w[i] && x[i]) = w[i] := by rw [← BitVec.getElem_and, h]
  simp only [BitVec.getElem_and, BitVec.getElem_or]
  revert hbit
  cases w[i] <;> cases x[i] <;> cases b[i] <;> simp

/-- Settles O58: a step adds bits to one word at both references, or leaves the cells. -/
theorem fusesNeverReturn : Obligations.FusesNeverReturn := by
  intro s t hstep a
  rcases blowsOneWord_of_step hstep with hsame | ⟨x, b, l, hblown⟩
  · rw [Otp.cell_congr hsame]
    exact ⟨within_refl _, within_refl _⟩
  · rw [Otp.cell_congr hblown]
    by_cases hx : a = x
    · subst hx
      rw [Otp.cell_blow_same, BitVec.or_assoc]
      exact ⟨within_or _ _, within_or _ _⟩
    · rw [Otp.cell_blow_other _ hx]
      exact ⟨within_refl _, within_refl _⟩

/-- Settles O59: what a step blows at the strict reference it blows at the loose one too. -/
theorem everyStepKeepsOtpSound : Obligations.EveryStepKeepsOtpSound := by
  intro s t hsound hstep a
  rcases blowsOneWord_of_step hstep with hsame | ⟨x, b, l, hblown⟩
  · rw [Otp.cell_congr hsame]
    exact hsound a
  · rw [Otp.cell_congr hblown]
    by_cases hx : a = x
    · subst hx
      rw [Otp.cell_blow_same]
      exact within_or_or (hsound a) b l
    · rw [Otp.cell_blow_other _ hx]
      exact hsound a

/-- Settles O60: as shipped no cell is listed, so every word reads as `otpShipped` at both references (log entry 50). -/
theorem resetOtpIsSound : Obligations.ResetOtpIsSound := fun a => within_refl (otpShipped a)

end Sys2Proof.Machine
end

section
/-!
PROOF. Steps that need no command of a chapter: the front of the queue runs, an idle slot passes (R17 to R20), power is lost (R494, R537,
R552, R602, R640), and a trailer is not taken twice (R624).
-/

namespace Sys2Proof.Machine

open Sys2Proof (Word Pkt)

/-! ### The front of the queue -/

/-- Settles O36: `step` matches on the queue. -/
theorem stepRunsFrontCommand : Obligations.StepRunsFrontCommand := fun _ _ _ => rfl

/-! ### What sending leaves held -/

/-- `t` differs from `s` as sending makes it differ, and the same packets are held. -/
structure KeepsHeld (s t : State) : Prop where
  quiet : Quiet s t
  held : t.fe.held = s.fe.held

theorem KeepsHeld.refl (s : State) : KeepsHeld s s := ⟨Quiet.refl s, rfl⟩

theorem KeepsHeld.trans {s t u : State} (h : KeepsHeld s t) (g : KeepsHeld t u) : KeepsHeld s u :=
  ⟨h.quiet.trans g.quiet, g.held.trans h.held⟩

theorem LinkOnly.keepsHeld {s t : State} (h : LinkOnly s t) : KeepsHeld s t := ⟨h.quiet, by rw [h]⟩

theorem keepsHeld_lnk (s : State) (x : Lnk) : KeepsHeld s { s with lnk := x } := ⟨lnk_quiet s x, rfl⟩

theorem keepsHeld_iter {f : State → State} (h : ∀ s, KeepsHeld s (f s)) : ∀ (n : Nat) (s : State), KeepsHeld s (iter f n s)
  | 0, s => KeepsHeld.refl s
  | n + 1, s => (h s).trans (keepsHeld_iter h n (f s))

theorem keepsHeld_put (s : State) (c : Ctl) : KeepsHeld s (s.put c) := ⟨put_quiet s c, by rw [fe_put]⟩

theorem keepsHeld_sendOne (s : State) : KeepsHeld s s.sendOne := by
  refine ⟨sendOne_quiet s, ?_⟩
  unfold State.sendOne
  split
  · exact (keepsHeld_put _ _).held
  · split
    · exact (keepsHeld_put _ _).held
    · rfl

theorem keepsHeld_flush (s : State) : KeepsHeld s s.flush := by
  unfold State.flush
  split
  · exact keepsHeld_iter keepsHeld_sendOne _ s
  · exact KeepsHeld.refl s

theorem keepsHeld_reply (s : State) (op tag gen st fn : Nat) (pl : List Word) : KeepsHeld s (s.reply op tag gen st fn pl) := by
  refine ⟨reply_quiet _ _ _ _ _ _ _, ?_⟩
  unfold State.reply
  simp only []
  split
  · exact (keepsHeld_put _ _).held
  · rfl

theorem keepsHeld_finish (s : State) (op tag st fn : Nat) (pl : List Word) : KeepsHeld s (s.finish op tag st fn pl) := by
  refine ⟨finish_quiet _ _ _ _ _ _, ?_⟩
  unfold State.finish
  split
  · rfl
  · exact (keepsHeld_reply _ _ _ _ _ _ _).held

theorem keepsHeld_finishOp (s : State) (op st fn : Nat) (pl : List Word) : KeepsHeld s (s.finishOp op st fn pl) := by
  unfold State.finishOp
  generalize s.fe.opn.filter (fun o => o.op == op) = os
  induction os generalizing s with
  | nil => exact KeepsHeld.refl s
  | cons o os ih => exact (keepsHeld_finish s o.op o.tag st fn pl).trans (ih _)

theorem keepsHeld_settleFfe (s : State) : KeepsHeld s s.settleFfe := by
  have hset : LinkOnly s ((s.lnk.ffeNext.filter (fun p => !s.lnk.active.testBit p.1)).foldl (fun t p => t.setFfe p.1 p.2.1 p.2.2)
      { s with lnk := { s.lnk with ffeNext := s.lnk.ffeNext.filter (fun p => s.lnk.active.testBit p.1) } }) :=
    LinkOnly.trans (t := { s with lnk := _ }) rfl
      (foldl_linkOnly _ (fun s (p : Nat × Nat × Nat) => setFfe_linkOnly s p.1 p.2.1 p.2.2) _ _)
  unfold State.settleFfe
  simp only []
  split
  · exact hset.keepsHeld.trans (keepsHeld_finishOp _ _ _ _ _)
  · exact hset.keepsHeld

theorem keepsHeld_markerFfe (s : State) : KeepsHeld s s.markerFfe :=
  have hset : LinkOnly s (s.lnk.ffeNext.foldl (fun (t : State) p => t.setFfe p.1 p.2.1 p.2.2)
      { s with lnk := { s.lnk with ffeNext := [] } }) :=
    LinkOnly.trans (t := { s with lnk := _ }) rfl
      (foldl_linkOnly _ (fun s (p : Nat × Nat × Nat) => setFfe_linkOnly s p.1 p.2.1 p.2.2) _ _)
  hset.keepsHeld.trans (keepsHeld_settleFfe _)

theorem keepsHeld_laneBlock (s : State) : KeepsHeld s s.laneBlock := by
  unfold State.laneBlock
  split
  · exact (marker_linkOnly s _ _).keepsHeld.trans (keepsHeld_markerFfe _)
  · exact (laneStep_linkOnly s).keepsHeld

theorem keepsHeld_lanesSlot (s : State) (d : Nat) : KeepsHeld s (s.lanesSlot d) := by
  unfold State.lanesSlot
  split
  · exact KeepsHeld.trans (keepsHeld_lnk s _) (keepsHeld_iter keepsHeld_laneBlock _ _)
  · exact KeepsHeld.refl s

/-! ### Time -/

/-- Time that passes moves the time on, sends what waits, and leaves everything else as it is. -/
theorem elapse_eq {s : State} {t : Nat} (h : s.tt.clk < t) :
    ∃ tt : Tt, tt.clk = t ∧ KeepsHeld { s with tt := tt } (s.elapse t) := by
  have hclk : s.tt.clk + (t - s.tt.clk) = t := by omega
  unfold State.elapse
  rw [if_pos h]
  split
  · exact ⟨{ s.tt with clk := t }, rfl, keepsHeld_flush _⟩
  · exact ⟨(s.advanceTb (t - s.tt.clk)).tt, hclk, keepsHeld_flush _⟩

/-! ### The interconnect (R17, R18) -/

/-- The entries of its own that a class holds. -/
def ownTaken (c : Nat) (l : List IcnReq) : Nat := (l.filter (fun r => r.cls == c && !r.pooled)).length

/-- The entries that the pool has given. -/
def poolTaken (l : List IcnReq) : Nat := (l.filter (fun r => r.pooled)).length

theorem icnBounded_congr {s t : State} (htaken : t.icn.taken = s.icn.taken) (h : IcnBounded s) : IcnBounded t := by
  unfold IcnBounded
  rwa [htaken]

theorem icnBounded_icnDone {s : State} (h : IcnBounded s) (r : IcnReq) : IcnBounded (s.icnDone r) := by
  obtain ⟨hown, hpool⟩ := h
  have hsub : (s.icnDone r).icn.taken.Sublist s.icn.taken := List.erase_sublist
  exact ⟨fun c => ((hsub.filter _).length_le).trans (hown c), ((hsub.filter _).length_le).trans hpool⟩

/-- A request that the arbiter may grant has a free entry. -/
theorem icnFree_of_icnNext {s : State} {r : IcnReq} (h : s.icnNext = some r) : s.icnFree r.cls = true := by
  have hof : ∀ (l : List IcnReq) {r : IcnReq},
      (List.range 5).findSome? (fun i => l.find? (fun r => r.cls == i + 1)) = some r → r ∈ l := fun l r hfind => by
    obtain ⟨i, _, hi⟩ := List.exists_of_findSome?_eq_some hfind
    exact List.mem_of_find?_eq_some hi
  have hready : r ∈ s.icn.waiting.filter (fun r => s.icnFree r.cls) := by
    unfold State.icnNext at h
    simp only [] at h
    split at h
    next x hx =>
      obtain rfl := Option.some.inj h
      exact (List.mem_filter.mp (hof _ hx)).1
    next => exact hof _ h
  exact (List.mem_filter.mp hready).2

theorem icnBounded_icnGrant {s : State} (h : IcnBounded s) : IcnBounded s.icnGrant := by
  unfold State.icnGrant
  split
  · exact h
  next r hnext =>
    obtain ⟨hown, hpool⟩ := h
    have hfree := icnFree_of_icnNext hnext
    simp only [State.icnFree, Bool.or_eq_true, decide_eq_true_eq] at hfree
    by_cases hmine : s.icnOwnFree r.cls = true
    · refine ⟨fun c => ?_, ?_⟩
      · rw [List.filter_append, List.length_append]
        by_cases hc : r.cls = c
        · subst hc
          have hroom := hmine
          simp only [State.icnOwnFree, decide_eq_true_eq] at hroom
          simpa [hmine] using hroom
        · simpa [hmine, hc] using hown c
      · simpa [hmine] using hpool
    · have hroom := hfree.resolve_left hmine
      refine ⟨fun c => by simpa [hmine] using hown c, ?_⟩
      rw [List.filter_append, List.length_append]
      simpa [hmine] using hroom

theorem icnBounded_iter_icnGrant : ∀ (n : Nat) {s : State}, IcnBounded s → IcnBounded (iter State.icnGrant n s)
  | 0, _, h => h
  | n + 1, _, h => icnBounded_iter_icnGrant n (icnBounded_icnGrant h)

theorem icnBounded_foldl {α : Type} {f : State → α → State} (hf : ∀ s a, IcnBounded s → IcnBounded (f s a)) :
    ∀ (l : List α) {s : State}, IcnBounded s → IcnBounded (l.foldl f s)
  | [], _, h => h
  | a :: l, s, h => icnBounded_foldl hf l (hf s a h)

theorem icnBounded_icnSlot {s : State} (h : IcnBounded s) : IcnBounded s.icnSlot := by
  unfold State.icnSlot
  extract_lets n t ends t2 made old t3 fresh t4
  have ht : IcnBounded t := icnBounded_congr (s := s) rfl h
  have ht2 : IcnBounded t2 :=
    icnBounded_foldl (f := fun (u : State) (p : Nat × IcnReq) => u.icnDone p.2) (fun _ _ hu => icnBounded_icnDone hu _) _ ht
  have ht3 : IcnBounded t3 :=
    icnBounded_foldl (f := fun (u : State) (p : Nat × Nat) => u.icnRequest p.1 p.2) (fun u _ hu => icnBounded_congr (s := u) rfl hu) _ ht2
  have ht4 : IcnBounded t4 := icnBounded_iter_icnGrant _ ht3
  exact icnBounded_foldl (f := State.icnWaits) (fun u _ hu => icnBounded_congr (s := u) rfl hu) _ ht4

/-! ### A slot without a command -/

theorem takeHeld_of_nothing_held {s : State} (h : s.fe.held = []) : s.takeHeld = s := by
  unfold State.takeHeld
  rw [h]

/-- `t` is `s` at a later time, but for what the lanes, the interconnect, the switching outputs and the heater's gate bring. -/
structure SlotPasses (s t : State) : Prop where
  clk : t.tt.clk = s.tt.clk + max 1 s.slot
  stg : t.stg = s.stg
  pend : t.pend = s.pend
  taken : t.taken = s.taken
  otp : t.otp = s.otp
  sys : t.sys = s.sys
  out : t.out = s.out
  icn : IcnBounded s → IcnBounded t

theorem slotOutputs_frame (s : State) (d : Nat) :
    ∃ (sw : List SwOut) (thm : Thm), (s.swSlot d).htrSlot d = { s with sw := sw, thm := thm } := by
  unfold State.htrSlot
  split
  · exact ⟨_, _, rfl⟩
  · exact ⟨_, _, rfl⟩

theorem slotPasses_tick {s : State} (hheld : s.fe.held = []) (hdown : s.pwr.down = none) : SlotPasses s s.tick := by
  obtain ⟨tt, hclk, htime⟩ := elapse_eq (s := s) (t := s.tt.clk + max 1 s.slot) (by omega)
  have hdown' : (s.elapse (s.tt.clk + max 1 s.slot)).pwr.down = none := by rw [htime.quiet.pwr, hdown]
  simp only [State.tick, hdown', Option.isSome_none, Bool.false_eq_true, if_false]
  generalize s.elapse (s.tt.clk + max 1 s.slot) = t at htime
  have hclk' : t.tt.clk = s.tt.clk + max 1 s.slot := by rw [htime.quiet.tt, hclk]
  split
  · exact ⟨hclk', htime.quiet.stg, htime.quiet.pend, htime.quiet.taken, htime.quiet.otp, htime.quiet.sys, htime.quiet.out,
      icnBounded_congr (by rw [htime.quiet.icn])⟩
  · have hlanes := keepsHeld_lanesSlot t (max 1 s.slot)
    generalize t.lanesSlot (max 1 s.slot) = u at hlanes
    have hicn : IcnOnly u u.icnSlot := icnSlot_icnOnly u
    have hbound : IcnBounded u → IcnBounded u.icnSlot := icnBounded_icnSlot
    generalize u.icnSlot = v at hicn hbound
    obtain ⟨sw, thm, houtputs⟩ := slotOutputs_frame v s.tt.clk
    have hall := htime.quiet.trans hlanes.quiet
    rw [houtputs, takeHeld_of_nothing_held]
    · refine ⟨?_, ?_, ?_, ?_, ?_, ?_, ?_, fun h => icnBounded_congr rfl (hbound (icnBounded_congr (by rw [hall.icn]) h))⟩
      · rw [hicn, hlanes.quiet.tt, hclk']
      · rw [hicn, hall.stg]
      · rw [hicn, hall.pend]
      · rw [hicn, hall.taken]
      · rw [hicn, hall.otp]
      · rw [hicn, hall.sys]
      · rw [hicn, hall.out]
    · rw [hicn, hlanes.held, htime.held, hheld]

/-- Settles O37: a slot passes, and with nothing held and no power-down waiting nothing else moves. -/
theorem idleStepPassesOneSlot : Obligations.IdleStepPassesOneSlot := by
  intro s hpending hheld hdown
  obtain ⟨hclk, hstg, hpend, htaken, hotp, hsys, hout, hicn⟩ := slotPasses_tick hheld hdown
  refine ⟨s.keepQueue s.tick, ?_, hpending, hclk, hstg, hpend, htaken, ?_, hsys, hout, hicn⟩
  · simp only [step, hpending]
  · rw [State.keepQueue_otp, hotp]

/-! ### The loss of power -/

theorem Mem.get_filter (m : Mem) (f : Nat → Bool) (k : Nat) :
    Mem.get (m.filter (fun p => f p.1)) k = if f k then m.get k else memReset k := by
  unfold Mem.get
  by_cases hk : f k = true
  · rw [Mem.find_filter_eq (f := fun p => f p.1) (fun _ => hk), if_pos hk]
  · rw [Mem.find_filter_none (f := fun p => f p.1) (fun _ => Bool.eq_false_iff.mpr hk), if_neg hk]

/-- The words of the power die's own register go with its power. -/
theorem reg_powerOff (s : State) (vin a : Nat) : (s.powerOff vin).reg a = if nonvolatile a then s.reg a else memReset a := by
  have hreset : s.intoReset.reg a = if nonvolatile a || a == R.PWR_HICCUP then s.reg a else memReset a :=
    Mem.get_filter s.mem (fun k => nonvolatile k || k == R.PWR_HICCUP) a
  have hoff : (s.powerOff vin).reg a = if nonvolatile a then s.intoReset.reg a else memReset a :=
    Mem.get_filter s.intoReset.mem nonvolatile a
  rw [hoff, hreset]
  by_cases ha : nonvolatile a = true <;> simp [ha]

/-- Settles O53. -/
theorem powerOffKeepsNonvolatile : Obligations.PowerOffKeepsNonvolatile := fun s =>
  ⟨s.keepQueue (s.powerOff 0), rfl, reg_powerOff s 0, rfl, rfl, rfl, rfl, rfl⟩

/-! ### Trailers -/

theorem trailerReason_of_stale {s : State} {x : Session} {c : Nat} (hsess : s.sec.sess = some x) (hcctr : x.cctr = some c) {k : Pkt}
    (hle : trailerCctr k ≤ c) (op : Nat) (service : Bool) : s.trailerReason op k service ≠ none := by
  simp only [State.trailerReason, hsess, hcctr, hle, decide_true]
  split
  · exact Option.some_ne_none _
  split
  · exact Option.some_ne_none _
  · exact Option.some_ne_none _

/-- Settles O48: the session that took the trailer keeps its CCTR, against which a later packet's is stale. -/
theorem trailerNeverReplays : Obligations.TrailerNeverReplays := by
  intro s op op' k k' service service' htaken hle
  cases hsess : s.sec.sess with
  | none => simp [State.trailerReason, hsess] at htaken
  | some x =>
    have hsess' : (s.takeTrailer k).sec.sess = some { x with cctr := some (trailerCctr k) } := by simp [hsess]
    exact trailerReason_of_stale hsess' rfl hle op' service'

end Sys2Proof.Machine
end


section
/-!
PROOF. The System commands (R480, R493, R499, R698, R699), and the commands of groups Firmware and Diagnostics (R662, R664, R667, R668,
R670): what each service comes to under the checks of its own chapter.
-/

namespace Sys2Proof.Machine

open Sys2Proof (Word Pkt Instr)

/-- A command whose trailer passes the checks of R624 acts on the state in which the trailer is taken. -/
theorem withTrailer_of_accepted {s : State} {op : Nat} {k : Pkt} {service : Bool} (haccept : s.trailerReason op k service = none)
    (act : State → Ans × State) : s.withTrailer op k service act = act (s.takeTrailer k) := by
  simp only [State.withTrailer, haccept]

/-! ### System -/

/-- Settles O1: each service answers the words of its rule, and none of those words depends on what the arrival changes. -/
theorem systemCommandsAnswer : Obligations.SystemCommandsAnswer := by
  refine fun k s => ⟨fun hready => ?_, fun hready => ?_, fun hready => ?_, fun hready => ?_, fun hready => ?_⟩
  · exact answered_of_srv (c := ⟨0x01, 0, 0, srvGetIdentity⟩) hready rfl (by decide) rfl
  · exact answered_of_srv (c := ⟨0x02, 0, 0, srvGetStatus⟩) hready rfl (by decide) rfl
  · exact answered_of_srv (c := ⟨0x04, 0, 0, srvGetMode⟩) hready rfl (by decide) rfl
  · exact answered_of_srv hready rfl (by decide) (srvEventMask_eq k (s.takes 0x06 k))
  · exact answered_of_srv (c := ⟨0xE4, 0, 0, srvRollCallResult⟩) hready rfl (by decide) rfl

/-! ### Firmware and Diagnostics -/

section
variable {k : Pkt} {s : State}

theorem srvFwStageBegin_ok (haccept : s.trailerReason 0xD0 k true = none) (hswitch : s.saf.switching = none)
    (htarget : pf k 0 0 1 ≠ s.sys.image ∨ s.sys.fw = .limp ∧ s.sys.imageGood = false) (hsize : (pw k 1).toNat ≤ 8388864) :
    srvFwStageBegin k s = (.later, State.emmcAsk { s.takeTrailer k with saf := { (s.takeTrailer k).saf with
      stage := 1, target := pf k 0 0 1, total := (pw k 1).toNat, offset := 0, svnStaged := 0 } } (.stageErase k.tag)) := by
  have hother : ¬ (pf k 0 0 1 = s.sys.image ∧ (s.sys.fw ≠ .limp ∨ s.sys.imageGood = true)) := by
    rintro ⟨hsame, hgood⟩
    rcases htarget with hne | ⟨hlimp, hbad⟩
    · exact hne hsame
    · simp [hlimp, hbad] at hgood
  simp [srvFwStageBegin, withTrailer_of_accepted haccept, hswitch, hother, Nat.not_lt.mpr hsize]

theorem srvFwStageChunk_ok (haccept : s.trailerReason 0xD1 k true = none) (hstage : s.saf.stage ≠ 0)
    (hoff : (pw k 0).toNat = s.saf.offset) (hword : (pw k 0).toNat % 4 = 0)
    (hfits : (pw k 0).toNat + 4 * ((k.payload.drop 1).take (k.payload.length - 6)).length ≤ s.saf.total + 3) :
    srvFwStageChunk k s = (.later, State.emmcAsk { s.takeTrailer k with saf := { (s.takeTrailer k).saf with
        stage := 1, offset := (pw k 0).toNat + 4 * ((k.payload.drop 1).take (k.payload.length - 6)).length } }
      (.stageWrite k.tag (wkey (imageWid s.saf.target) ((pw k 0).toNat / 4)) ((k.payload.drop 1).take (k.payload.length - 6)))) := by
  have hpass : ¬ (s.saf.stage = 0 ∨ (pw k 0).toNat ≠ s.saf.offset ∨ (pw k 0).toNat % 4 ≠ 0 ∨
      s.saf.total + 3 < (pw k 0).toNat + 4 * ((k.payload.drop 1).take (k.payload.length - 6)).length) := by
    omega
  exact (withTrailer_of_accepted haccept _).trans (if_neg hpass)

section
variable (haccept : s.trailerReason 0xD3 k true = none) (hswitch : s.saf.switching = none) (hstage : s.saf.stage = 2)
include haccept hswitch hstage

theorem srvFwSwitch_live (hlive : pf k 0 0 1 = 1) (hmode : s.sys.mode ≠ 0xB) (htarget : s.saf.target ≠ s.sys.image) :
    srvFwSwitch k s = (.accepted [],
      let persist := pf k 0 1 1 = 1
      let u : State := { s.takeTrailer k with saf := { (s.takeTrailer k).saf with
        switching := some (k.tag, decide persist), switchReady := false, switchAt := s.tt.clk } }
      if persist then u.emmcAsk (.persist none s.saf.target) else u) := by
  by_cases hpersist : pf k 0 1 1 = 1 <;>
    simp [srvFwSwitch, withTrailer_of_accepted haccept, hswitch, hstage, hlive, hmode, htarget, hpersist]

theorem srvFwSwitch_persists (hlive : pf k 0 0 1 ≠ 1) (hpersist : pf k 0 1 1 = 1) :
    srvFwSwitch k s = (.later, (s.takeTrailer k).emmcAsk (.persist (some k.tag) s.saf.target)) := by
  simp [srvFwSwitch, withTrailer_of_accepted haccept, hswitch, hstage, hlive, hpersist]

theorem srvFwSwitch_nothing (hlive : pf k 0 0 1 ≠ 1) (hpersist : pf k 0 1 1 ≠ 1) :
    srvFwSwitch k s = (s.takeTrailer k).ok [] := by
  simp [srvFwSwitch, withTrailer_of_accepted haccept, hswitch, hstage, hlive, hpersist]

end

theorem srvFwStageVerify_ok (hidle : s.isOpen 0xD2 = false) : srvFwStageVerify k s = (.accepted [], s) :=
  if_neg (Bool.eq_false_iff.mp hidle)

theorem srvEccStatus_keeps (hkeep : pf k 0 0 1 = 0) : srvEccStatus k s = s.ok (s.run R.SAF_ECC0 7) := by
  simp [srvEccStatus, hkeep]

theorem srvEccStatus_clears (hclear : pf k 0 0 1 = 1) :
    srvEccStatus k s = (s.setRun R.SAF_ECC0 (List.replicate 7 0#32)).ok (s.run R.SAF_ECC0 7) := by
  simp [srvEccStatus, hclear]

theorem srvSelftestRun_ok (hpins : (pf k 0 0 4).testBit 3 = true → s.checkMode = 0x2) (hidle : s.saf.selftest = none) :
    srvSelftestRun k s = (.accepted [],
      { s with saf := { s.saf with selftest := some (pf k 0 0 4), pinTest := (pf k 0 0 4).testBit 3 } }) := by
  have hmode : ¬ ((pf k 0 0 4).testBit 3 && s.checkMode != 0x2) = true := by
    simpa using hpins
  simp only [srvSelftestRun, if_neg hmode, hidle, Option.isSome_none, Bool.false_eq_true, if_false]

end

/-- FAULT_CLEAR first clears SAF_LATCHED, which leaves SAF_ACTIVE. -/
theorem srvFaultClear_eq (k : Pkt) (s : State) :
    srvFaultClear k s =
      (let m := pf k 0 0 21
       let active := clearMask (s.reg R.SAF_ACTIVE) (m &&& eventFaults)
       ((s.setReg R.SAF_LATCHED (clearMask (s.reg R.SAF_LATCHED) m)).setReg R.SAF_ACTIVE active).ok [active]) := by
  have hother : ∀ w : Word, (s.setReg R.SAF_LATCHED w).reg R.SAF_ACTIVE = s.reg R.SAF_ACTIVE := fun w =>
    Mem.get_set_other s.mem w (by decide)
  have hsame : ∀ (t : State) (w : Word), (t.setReg R.SAF_ACTIVE w).reg R.SAF_ACTIVE = w := fun t w => Mem.get_set_same _ _ _
  simp only [srvFaultClear, hother, hsame]

/-- Settles O17: each command passes the checks of its own chapter under the hypotheses of its clause. -/
theorem firmwareCommandsAnswer : Obligations.FirmwareCommandsAnswer := by
  intro k s
  refine ⟨fun hready haccept hswitch htarget hsize => ?_, fun hready haccept hstage => ?_, fun hready hidle => ?_,
    fun hready haccept hswitch hstage => ?_, fun hready => ?_, fun hready hpins hidle => ?_, fun hready => ?_, fun hready => ?_,
    fun hready => ?_⟩
  · exact answered_of_srv hready rfl (by decide) (srvFwStageBegin_ok (s := s.takes 0xD0 k) haccept hswitch htarget hsize)
  · intro off ws t hoff hword hfits
    exact answered_of_srv hready rfl (by decide) (srvFwStageChunk_ok (s := s.takes 0xD1 k) haccept hstage hoff hword hfits)
  · exact answered_of_srv hready rfl (by decide) (srvFwStageVerify_ok (k := k) (s := s.takes 0xD2 k) hidle)
  · intro t persist
    refine ⟨fun hlive hmode htarget => ?_, fun hlive hpersist => ?_, fun hlive hpersist => ?_⟩
    · exact answered_of_srv hready rfl (by decide)
        (srvFwSwitch_live (s := s.takes 0xD3 k) haccept hswitch hstage hlive hmode htarget)
    · exact answered_of_srv hready rfl (by decide)
        (srvFwSwitch_persists (s := s.takes 0xD3 k) haccept hswitch hstage (by omega) hpersist)
    · exact answered_of_srv hready rfl (by decide)
        (srvFwSwitch_nothing (s := s.takes 0xD3 k) haccept hswitch hstage (by omega) hpersist)
  · exact answered_of_srv (c := ⟨0xD4, 0, 0, srvFwInfo⟩) hready rfl (by decide) rfl
  · exact answered_of_srv hready rfl (by decide) (srvSelftestRun_ok (s := s.takes 0xE0 k) hpins hidle)
  · exact answered_of_srv (c := ⟨0xE1, 0, 0, srvFaultRead⟩) hready rfl (by decide) rfl
  · exact answered_of_srv hready rfl (by decide) (srvFaultClear_eq k (s.takes 0xE2 k))
  · intro u
    exact ⟨fun hkeep => answered_of_srv hready rfl (by decide) (srvEccStatus_keeps (s := u) hkeep),
      fun hclear => answered_of_srv hready rfl (by decide) (srvEccStatus_clears (s := u) hclear)⟩

end Sys2Proof.Machine
end


section
/-!
PROOF. The commands of groups Power, housekeeping and thermal (R544, R545, R553, R554, R570, R571, R575, R580, R585).
-/

namespace Sys2Proof.Machine

open Sys2Proof (Word Pkt Instr)

theorem testBit_clearBit_same (n i : Nat) : (clearBit n i).testBit i = false := by
  unfold clearBit
  split
  next hset =>
    rw [Nat.testBit_eq_decide_div_mod_eq] at hset ⊢
    have hle : 2 ^ i ≤ n := by
      by_contra hlt
      simp [Nat.div_eq_of_lt (Nat.not_le.mp hlt)] at hset
    have hdiv := Nat.div_eq_sub_div (Nat.two_pow_pos i) hle
    simp only [decide_eq_true_eq, decide_eq_false_iff_not] at hset ⊢
    omega
  next hclear => exact Bool.eq_false_iff.mpr hclear

/-! ### Voltage commands -/

/-- The end of a voltage command moves no time. -/
theorem vcmdEnd_tt (s : State) (c : Vcmd) (reply vid : Nat) : (s.vcmdEnd c reply vid).tt = s.tt := by
  have hfinish : ∀ (t : State) (g fn : Nat), (t.finish 0x91 g reply fn []).tt = t.tt := fun t g fn => (finish_quiet t _ _ _ _ _).tt
  cases htid : c.tid <;> cases htag : c.tag <;> simp [State.vcmdEnd, htid, htag, hfinish]

theorem foldl_vcmdEnd_tt (reply vid : Nat) (cs : List Vcmd) (s : State) :
    (cs.foldl (fun t d => t.vcmdEnd d reply vid) s).tt = s.tt := by
  induction cs generalizing s with
  | nil => rfl
  | cons c cs ih => rw [List.foldl_cons, ih, vcmdEnd_tt]

/-! ### RAIL_CONFIG (R544, R545) -/

section
variable {k : Pkt} {s : State}

section
variable (hrail : pf k 0 0 3 = 0) (hen : pf k 0 8 1 = 0) (hlow : 620 ≤ pf k 1 0 16) (hhigh : pf k 1 0 16 ≤ 850)
  (hmin : s.rd F.PWR_CORE_VMIN ≤ roundUp (2 * (pf k 1 0 16 - 600)) 5)
include hrail hen hlow hhigh hmin

theorem srvRailConfig_core_begins
    (hnew : roundUp (2 * (pf k 1 0 16 - 600)) 5 ≠ s.rd F.PWR_CORE_VSET ∨ ∃ c ∈ s.pwr.cmds, c.rail = 0) :
    srvRailConfig k s = (.accepted [],
      let code := roundUp (2 * (pf k 1 0 16 - 600)) 5
      let t := s.vcmdNew ⟨0, some k.tag, none, 600000 + 2500 * code⟩
      State.wr { t with pwr := { t.pwr with coreFrom := s.coreNow, coreAt := t.tt.clk } } F.PWR_CORE_VSET code) := by
  have hchanges : (∀ c ∈ s.pwr.cmds, ¬ c.rail = 0) → ¬ roundUp (2 * (pf k 1 0 16 - 600)) 5 = s.rd F.PWR_CORE_VSET := by
    rintro hnone hsame
    rcases hnew with hne | ⟨c, hc, hzero⟩
    · exact hne hsame
    · exact hnone c hc hzero
  have hrange : ¬ (pf k 1 0 16 < 620 ∨ 850 < pf k 1 0 16) := by
    omega
  simpa [srvRailConfig, hrail, hen, hrange, Nat.not_lt.mpr hmin] using hchanges

theorem srvRailConfig_core_same (hsame : roundUp (2 * (pf k 1 0 16 - 600)) 5 = s.rd F.PWR_CORE_VSET)
    (hnone : ∀ c ∈ s.pwr.cmds, c.rail ≠ 0) : srvRailConfig k s = (.both 0 s.tt.fn [], s) := by
  have hrange : ¬ (pf k 1 0 16 < 620 ∨ 850 < pf k 1 0 16) := by
    omega
  simpa [srvRailConfig, hrail, hen, hrange, hsame, Nat.not_lt.mpr (hsame ▸ hmin)] using hnone

end

section
variable (hrail : pf k 0 0 3 = 6) (howner : s.tst F.PWR_VCMP_OWNER = false)
include hrail howner

section
variable (hen : pf k 0 8 1 = 1) (hlow : 1200 ≤ pf k 1 0 16) (hhigh : pf k 1 0 16 ≤ 3300)
include hen hlow hhigh

theorem srvRailConfig_vcmp_begins (hnew : s.pwr.vcmpOn = false ∨ roundUp (pf k 1 0 16 - 1200) 10 ≠ s.rd F.PWR_VCMP_CODE ∨
      ∃ c ∈ s.pwr.cmds, c.rail = 6) :
    srvRailConfig k s = (.accepted [], s.vcmpGo (roundUp (pf k 1 0 16 - 1200) 10) (some k.tag) none) := by
  have hchanges : s.pwr.vcmpOn = true → (∀ c ∈ s.pwr.cmds, ¬ c.rail = 6) →
      ¬ roundUp (pf k 1 0 16 - 1200) 10 = s.rd F.PWR_VCMP_CODE := by
    rintro hon hnone hsame
    rcases hnew with hoff | hne | ⟨c, hc, hsix⟩
    · simp [hon] at hoff
    · exact hne hsame
    · exact hnone c hc hsix
  have hrange : ¬ (pf k 1 0 16 < 1200 ∨ 3300 < pf k 1 0 16) := by
    omega
  simpa [srvRailConfig, hrail, howner, hen, hrange] using hchanges

theorem srvRailConfig_vcmp_same (hon : s.pwr.vcmpOn = true) (hsame : roundUp (pf k 1 0 16 - 1200) 10 = s.rd F.PWR_VCMP_CODE)
    (hnone : ∀ c ∈ s.pwr.cmds, c.rail ≠ 6) : srvRailConfig k s = (.both 0 s.tt.fn [], s) := by
  have hrange : ¬ (pf k 1 0 16 < 1200 ∨ 3300 < pf k 1 0 16) := by
    omega
  simpa [srvRailConfig, hrail, howner, hen, hrange, hon, hsame] using hnone

end

theorem srvRailConfig_vcmp_off (hen : pf k 0 8 1 = 0) :
    ∃ t, srvRailConfig k s = (.both 0 t.tt.fn [], t) ∧ t.pwr.vcmpOn = false ∧ t.pwr.pgood.testBit 6 = false := by
  let t := (s.pwr.cmds.filter (fun d => d.rail == 6)).foldl (fun t d => t.vcmdEnd d 0x0A 0xA) s
  have htt : t.tt = s.tt := foldl_vcmdEnd_tt _ _ _ _
  refine ⟨{ t with pwr := { t.pwr with vcmpOn := false, pgood := clearBit t.pwr.pgood 6 } }, ?_, rfl, testBit_clearBit_same _ _⟩
  simp [srvRailConfig, hrail, howner, hen, htt, t]

end

/-! ### Housekeeping, thermal and the report cards -/

/-- The sequence words stand apart from the heater's register. -/
theorem tst_setRun_sequence (s : State) {conv start : Nat} {ws : List Word} :
    (s.setRun (wkey (0x1100 + conv) start) ws).tst F.THM_HTR_EN = s.tst F.THM_HTR_EN :=
  State.tst_congr (Mem.get_setRun_other s.mem (Or.inl (by unfold wkey F.THM_HTR_EN; simp; omega)))

theorem hkApply_ok (hgood : seqReason (s.seqStaged 0) (s.seqStaged 1) (s.tst F.THM_HTR_EN) = none) :
    hkApply s = (.ok, { s with hk := { s.hk with due := some (s.seqStaged 0 ++ s.seqStaged 1) } }) := by
  simp only [hkApply, hgood]

theorem srvHkSequenceLoad_more (hfits : pf k 0 8 5 + (k.payload.length - 1) ≤ 32) (hmore : pf k 0 16 1 = 0) :
    srvHkSequenceLoad k s = State.ok (s.setRun (wkey (0x1100 + pf k 0 0 1) (pf k 0 8 5))
      ((k.payload.drop 1).map (fun w => keepMask w 0x3FFF))) [] := by
  simp [srvHkSequenceLoad, Nat.not_lt.mpr hfits, hmore]

theorem srvHkSequenceLoad_last (hfits : pf k 0 8 5 + (k.payload.length - 1) ≤ 32) (hlast : pf k 0 16 1 = 1) :
    let t := s.setRun (wkey (0x1100 + pf k 0 0 1) (pf k 0 8 5)) ((k.payload.drop 1).map (fun w => keepMask w 0x3FFF))
    seqReason (t.seqStaged 0) (t.seqStaged 1) (s.tst F.THM_HTR_EN) = none →
    srvHkSequenceLoad k s = State.ok { t with hk := { t.hk with due := some (t.seqStaged 0 ++ t.seqStaged 1) } } [] := by
  intro t hgood
  have happly := hkApply_ok (s := t) (by rw [tst_setRun_sequence]; exact hgood)
  simp only [srvHkSequenceLoad, List.length_drop, if_neg (Nat.not_lt.mpr hfits), if_pos hlast, happly, t]

theorem srvHkRead_ok (hsome : 1 ≤ pf k 0 16 6) (hmost : pf k 0 16 6 ≤ 32) (hfits : pf k 0 8 5 + pf k 0 16 6 ≤ 32) :
    srvHkRead k s = State.ok (if pf k 0 24 1 = 1 then
      (List.range (pf k 0 16 6)).foldl (fun x j => x.setReg (resReg (pf k 0 0 1) (pf k 0 8 5 + j))
        (clearMask (x.reg (resReg (pf k 0 0 1) (pf k 0 8 5 + j))) 0x3000)) s else s)
      (s.run (resReg (pf k 0 0 1) (pf k 0 8 5)) (pf k 0 16 6)) :=
  if_neg (by omega)

theorem srvReportCardRead_ok (hsome : 1 ≤ pf k 0 8 4) (hmost : pf k 0 8 4 ≤ 10) :
    srvReportCardRead k s = s.ok
      ((((s.cardsByAge.takeWhile (fun c => bits (c.2.getD 0 0#32) 8 8 != 0)).drop (pf k 0 0 6)).take (pf k 0 8 4)).flatMap
        (fun c => c.2)) :=
  if_neg (by omega)

theorem srvReportCardClear_ok (haccept : s.trailerReason 0x98 k true = none) :
    srvReportCardClear k s = (.later, (s.takeTrailer k).cardFor 0 0xFF [] (some (0x98, k.tag))) :=
  withTrailer_of_accepted haccept _

theorem srvThrottleAck_ok (hgrace : s.thm.state = 1) (hkeep : pf k 0 0 1 = 0) : srvThrottleAck k s = s.ok [] := by
  simp [srvThrottleAck, hgrace, hkeep]

theorem srvThrottleAck_extends (hgrace : s.thm.state = 1) (hextend : pf k 0 0 1 = 1) (hfirst : s.thm.extended = false) :
    srvThrottleAck k s = State.ok { s with thm := { s.thm with graceAt := s.tt.clk, extended := true } } [] := by
  simp [srvThrottleAck, hgrace, hextend, hfirst]

theorem srvThermalConfig_ok (hgood : thmCfgBad (pw k 0) = false) :
    srvThermalConfig k s = (s.setReg R.THM_CFG (keepMask (pw k 0) 0xFF7F7F)).ok [] :=
  if_neg (Bool.eq_false_iff.mp hgood)

theorem srvHeaterConfig_ok (hgood : heaterBad (pw k 0) = false) :
    srvHeaterConfig k s = s.underLevel ((s.setReg R.THM_HTR (pw k 0)).ok []) :=
  congrArg s.underLevel (if_neg (Bool.eq_false_iff.mp hgood))

end

/-- Settles O13: each command passes the checks of its own chapter under the hypotheses of its clause. -/
theorem powerCommandsAnswer : Obligations.PowerCommandsAnswer := by
  intro k s
  refine ⟨fun hready => ?_, fun hready => ?_, fun hready => ?_, fun hready => ?_, fun hready hgood => ?_,
    fun hready hgrace => ?_, fun hready hgood => ?_, fun hready => ?_, fun hready haccept => ?_⟩
  · exact answered_of_srv (c := ⟨0x90, 0, 0, srvPowerStatus⟩) hready rfl (by decide) rfl
  · intro u mv code vcmp
    refine ⟨fun hrail hen hlow hhigh hmin hnew => ?_, fun hrail hen hlow hhigh hmin hsame hnone => ?_,
      fun hrail howner hen hlow hhigh hnew => ?_, fun hrail howner hen hlow hhigh hon hsame hnone => ?_,
      fun hrail howner hen => ?_⟩
    · exact answered_of_srv hready rfl (by decide) (srvRailConfig_core_begins (s := u) hrail hen hlow hhigh hmin hnew)
    · exact answered_of_srv hready rfl (by decide) (srvRailConfig_core_same (s := u) hrail hen hlow hhigh hmin hsame hnone)
    · exact answered_of_srv hready rfl (by decide) (srvRailConfig_vcmp_begins (s := u) hrail howner hen hlow hhigh hnew)
    · exact answered_of_srv hready rfl (by decide) (srvRailConfig_vcmp_same (s := u) hrail howner hen hlow hhigh hon hsame hnone)
    · obtain ⟨t, hsrv, hoff, hgood⟩ := srvRailConfig_vcmp_off (s := u) hrail howner hen
      exact ⟨t, answered_of_srv hready rfl (by decide) hsrv, hoff, hgood⟩
  · intro t hfits
    exact ⟨fun hmore => answered_of_srv hready rfl (by decide) (srvHkSequenceLoad_more (s := s.takes 0x92 k) hfits hmore),
      fun hlast hgood => answered_of_srv hready rfl (by decide) (srvHkSequenceLoad_last (s := s.takes 0x92 k) hfits hlast hgood)⟩
  · intro conv i n hsome hmost hfits
    have hsrv := srvHkRead_ok (s := s.takes 0x93 k) hsome hmost hfits
    exact ⟨fun hkeep => answered_of_srv hready rfl (by decide) (by rw [if_neg (by omega)] at hsrv; exact hsrv),
      fun hclear => answered_of_srv hready rfl (by decide) (by rw [if_pos hclear] at hsrv; exact hsrv)⟩
  · exact answered_of_srv hready rfl (by decide) (srvThermalConfig_ok (s := s.takes 0x94 k) hgood)
  · intro u
    exact ⟨fun hkeep => answered_of_srv hready rfl (by decide) (srvThrottleAck_ok (s := u) hgrace hkeep),
      fun hextend hfirst => answered_of_srv hready rfl (by decide) (srvThrottleAck_extends (s := u) hgrace hextend hfirst)⟩
  · exact answered_of_srv hready rfl (by decide) ((srvHeaterConfig_ok (s := s.takes 0x96 k) hgood).trans (underLevel_ok _ _ []))
  · intro n hsome hmost
    exact answered_of_srv hready rfl (by decide) (srvReportCardRead_ok (s := s.takes 0x97 k) hsome hmost)
  · exact answered_of_srv hready rfl (by decide) (srvReportCardClear_ok (s := s.takes 0x98 k) haccept)

end Sys2Proof.Machine
end


section
/-!
PROOF. The commands of group OTP (R598, R602, R605 to R609): each passes its checks and begins to program, and blows nothing itself.
-/

namespace Sys2Proof.Machine

open Sys2Proof (Word Pkt Instr)

section
variable {k : Pkt} {s : State}

@[simp] theorem State.takeTrailer_writeLocked (s : State) (k : Pkt) (a : Nat) : (s.takeTrailer k).writeLocked a = s.writeLocked a := rfl
@[simp] theorem State.takeTrailer_supplyOk (s : State) (k : Pkt) : (s.takeTrailer k).supplyOk = s.supplyOk := rfl
@[simp] theorem State.takeTrailer_rd (s : State) (k : Pkt) (f : Fld) : (s.takeTrailer k).rd f = s.rd f := rfl
@[simp] theorem State.takeTrailer_tst (s : State) (k : Pkt) (f : Fld) : (s.takeTrailer k).tst f = s.tst f := rfl
@[simp] theorem State.takeTrailer_reg (s : State) (k : Pkt) (a : Nat) : (s.takeTrailer k).reg a = s.reg a := rfl
@[simp] theorem State.takeTrailer_slotUsable (s : State) (k : Pkt) (n use revoke : Nat) :
    (s.takeTrailer k).slotUsable n use revoke = s.slotUsable n use revoke := rfl

/-- A marginal word noted moves no time. -/
theorem noteMarginal_tt (s : State) (found : List Nat) : (s.noteMarginal found).tt = s.tt := by
  unfold State.noteMarginal
  split <;> rfl

/-- The words that OTP_READ reads (R605). -/
def otpRun (k : Pkt) : List Nat := (List.range (pf k 1 0 9)).map (fun i => pf k 0 0 10 + i)

theorem srvOtpRead_ok (hsome : 1 ≤ pf k 1 0 9) (hmost : pf k 1 0 9 ≤ 256) (hfits : pf k 0 0 10 + pf k 1 0 9 ≤ 1024)
    (hopen : ∀ x ∈ otpRun k, (x < 96 ∨ 112 ≤ x) ∧ s.readLocked x = false ∧ s.otpDeviates x = false) :
    srvOtpRead k s = (s.noteMarginal ((otpRun k).filter s.otp.marginal)).ok
      (w32 (flag (!((otpRun k).filter s.otp.marginal).isEmpty) +
          flag (((otpRun k).filter s.otp.marginal).any s.otp.strictUsed) * 2) :: (otpRun k).map s.otp.value) := by
  have hrange : ¬ (pf k 1 0 9 = 0 ∨ 256 < pf k 1 0 9 ∨ 1024 < pf k 0 0 10 + pf k 1 0 9) := by
    omega
  have hread : ¬ (otpRun k).any (fun x => (decide (96 ≤ x) && decide (x < 112)) || s.readLocked x) = true := by
    simp only [List.any_eq_true, not_exists, not_and]
    intro x hx
    obtain ⟨hplace, hlock, -⟩ := hopen x hx
    have hout : ¬ (96 ≤ x ∧ x < 112) := by
      omega
    simp [hlock, hout]
  have hgood : ((otpRun k).filter s.otpDeviates).isEmpty = true := by
    simp only [List.isEmpty_iff, List.filter_eq_nil_iff]
    exact fun x hx => Bool.eq_false_iff.mp (hopen x hx).2.2
  exact (if_neg hrange).trans ((if_neg hread).trans (if_pos hgood))

/-! ### Programming -/

/-- The words that OTP_PROGRAM brings, without the trailer (R606). -/
def otpWords (k : Pkt) : List Word := (k.payload.drop 1).take (k.payload.length - 6)

/-- The words of the OTP that OTP_PROGRAM names (R606). -/
def otpTargets (k : Pkt) : List Nat := (List.range (otpWords k).length).map (fun i => pf k 0 0 10 + i)

theorem srvOtpProgram_ok (haccept : s.trailerReason 0xA1 k true = none) (hidle : s.otp.job = none) (hsupply : s.supplyOk = true)
    (hfits : pf k 0 0 10 + (otpWords k).length ≤ 1024)
    (htarget : ∀ x ∈ otpTargets k, notTarget x = false ∧ s.writeLocked x = false)
    (hblank : ∀ p ∈ (otpTargets k).zip (otpWords k), s.conflicts p.1 p.2 = false) :
    srvOtpProgram k s = (s.takeTrailer k).otpBegin 0xA1 k.tag ((otpTargets k).zip (otpWords k)) [] := by
  have hjob : ¬ (s.takeTrailer k).otp.job.isSome = true := by
    simp [hidle]
  have hplace : ¬ (otpTargets k).any notTarget = true := by
    simpa using fun x hx => (htarget x hx).1
  have hlock : ¬ (otpTargets k).any (s.takeTrailer k).writeLocked = true := by
    simpa using fun x hx => (htarget x hx).2
  have hkeeps : ¬ ((otpTargets k).zip (otpWords k)).any (fun p => (s.takeTrailer k).conflicts p.1 p.2) = true := by
    simp only [List.any_eq_true, not_exists, not_and]
    exact fun p hp => Bool.eq_false_iff.mp (hblank p hp)
  have hpower : ¬ (!(s.takeTrailer k).supplyOk) = true := by
    simpa using hsupply
  exact (withTrailer_of_accepted haccept _).trans ((if_neg hjob).trans ((if_neg (Nat.not_lt.mpr hfits)).trans
    ((if_neg hplace).trans ((if_neg hlock).trans ((if_neg hkeeps).trans (if_neg hpower))))))

/-! ### OTP_FUSE_LOCK (R607) -/

section
variable (haccept : s.trailerReason 0xA2 k true = none) (hidle : s.otp.job = none) (hsupply : s.supplyOk = true)
  (hprog : s.tst F.OTP_LOCK_PROG_DIS = false)
include haccept hidle hsupply hprog

theorem srvOtpFuseLock_native (hcode : pf k 0 0 4 = 2 ∨ pf k 0 0 4 = 3) (hwrite : pf k 0 4 1 = 0)
    (hunlocked : bit (s.otp.value 127) (pf k 0 0 4) = false)
    (hpasses : pf k 0 8 1 = 1 ∨
      ∀ r, regions.find? (fun r => r.code == pf k 0 0 4) = some r → s.otp.regionPasses r true = true) :
    srvOtpFuseLock k s = State.otpBegin ((s.takeTrailer k).setReg R.OTP_LOCK (s.reg R.OTP_LOCK ||| w32 (2 ^ pf k 0 0 4))) 0xA2 k.tag
      [(127, w32 (2 ^ pf k 0 0 4))] [] := by
  have hnative : pf k 0 0 4 < 8 := by
    omega
  have hcodes : (pf k 0 0 4 != 2 && pf k 0 0 4 != 3) = false := by
    rcases hcode with h | h <;> simp [h]
  by_cases hforce : pf k 0 8 1 = 1
  · simp [srvOtpFuseLock, withTrailer_of_accepted haccept, hidle, hsupply, hprog, hnative, hwrite, hunlocked, hcodes, hforce]
  · have hpass := hpasses.resolve_left hforce
    cases hfind : regions.find? (fun r => r.code == pf k 0 0 4) with
    | none =>
      simp [srvOtpFuseLock, withTrailer_of_accepted haccept, hidle, hsupply, hprog, hnative, hwrite, hunlocked, hcodes, hfind]
    | some r =>
      simp [srvOtpFuseLock, withTrailer_of_accepted haccept, hidle, hsupply, hprog, hnative, hwrite, hunlocked, hfind,
        hcodes, hpass r hfind]

theorem srvOtpFuseLock_compat (hcode : 8 ≤ pf k 0 0 4)
    (hunlocked : bit (s.otp.value 1016) (pf k 0 0 4 - 8 + 8 * pf k 0 4 1) = false) :
    srvOtpFuseLock k s = State.otpBegin (s.takeTrailer k) 0xA2 k.tag
      [(1016, w32 (2 ^ (pf k 0 0 4 - 8 + 8 * pf k 0 4 1)))] [] := by
  simp [srvOtpFuseLock, withTrailer_of_accepted haccept, hidle, hsupply, hprog, Nat.not_lt.mpr hcode, hunlocked]

end

/-! ### COUNTER_ADVANCE (R608) -/

section
variable (haccept : s.trailerReason 0xA3 k true = none) (hidle : s.otp.job = none) (hsupply : s.supplyOk = true)
  (hprog : s.tst F.OTP_LOCK_PROG_DIS = false) (hcount : s.tst F.OTP_LOCK_CNT_WL = false)
include haccept hidle hsupply hprog hcount

theorem srvCounterAdvance_version (hc : pf k 0 0 2 = 0) (hmore : s.rd F.OTP_FW_VERSION_VALUE < (pw k 1).toNat)
    (hmost : (pw k 1).toNat ≤ 128) (hsvn : (pw k 1).toNat ≤ s.saf.svn) :
    srvCounterAdvance k s = State.otpBegin (s.takeTrailer k) 0xA3 k.tag
      ((List.range 4).map (fun i => (112 + i, w32 (thermoBits (pw k 1).toNat / 2 ^ (32 * i))))) [w32 (pw k 1).toNat] := by
  have hrange : ¬ ((pw k 1).toNat < s.rd F.OTP_FW_VERSION_VALUE ∨ 128 < (pw k 1).toNat ∨ s.saf.svn < (pw k 1).toNat) := by
    omega
  have hsame : (pw k 1).toNat ≠ s.rd F.OTP_FW_VERSION_VALUE := by
    omega
  simp [srvCounterAdvance, withTrailer_of_accepted haccept, hidle, hsupply, hprog, hcount, hc, hrange, hsame]

theorem srvCounterAdvance_epoch (hc : pf k 0 0 2 = 1) (hmore : s.rd F.OTP_KEY_EPOCH_VALUE < (pw k 1).toNat)
    (hmost : (pw k 1).toNat ≤ 16) :
    srvCounterAdvance k s = State.otpBegin (s.takeTrailer k) 0xA3 k.tag [(116, w32 (thermoBits (pw k 1).toNat))]
      [w32 (pw k 1).toNat] := by
  have hrange : ¬ ((pw k 1).toNat < s.rd F.OTP_KEY_EPOCH_VALUE ∨ 16 < (pw k 1).toNat) := by
    omega
  have hsame : (pw k 1).toNat ≠ s.rd F.OTP_KEY_EPOCH_VALUE := by
    omega
  simp [srvCounterAdvance, withTrailer_of_accepted haccept, hidle, hsupply, hprog, hcount, hc, hrange, hsame]

theorem srvCounterAdvance_revoke (hc : pf k 0 0 2 = 2) (hslots : (pw k 1).toNat < 8)
    (hown : (s.rd F.OTP_KEY_EPOCH_REVOKE ||| (pw k 1).toNat % 8).testBit s.saf.slot = false)
    (husable : ∃ n < 3, s.slotUsable n 0 (s.rd F.OTP_KEY_EPOCH_REVOKE ||| (pw k 1).toNat % 8) = true)
    (hnew : (s.rd F.OTP_KEY_EPOCH_REVOKE ||| (pw k 1).toNat % 8) ≠ s.rd F.OTP_KEY_EPOCH_REVOKE) :
    srvCounterAdvance k s = State.otpBegin (s.takeTrailer k) 0xA3 k.tag
      [(116, w32 ((s.rd F.OTP_KEY_EPOCH_REVOKE ||| (pw k 1).toNat % 8) * 2 ^ 16))]
      [w32 (s.rd F.OTP_KEY_EPOCH_REVOKE ||| (pw k 1).toNat % 8)] := by
  have hgood : ¬ (8 ≤ (pw k 1).toNat ∨ (s.rd F.OTP_KEY_EPOCH_REVOKE ||| (pw k 1).toNat % 8).testBit s.saf.slot = true ∨
      (!(List.range 3).any (fun n => s.slotUsable n 0 (s.rd F.OTP_KEY_EPOCH_REVOKE ||| (pw k 1).toNat % 8))) = true) := by
    simpa [hslots, hown] using husable
  have hjob : ¬ (s.takeTrailer k).otp.job.isSome = true := by
    simp [hidle]
  have hlock : ¬ ((s.takeTrailer k).tst F.OTP_LOCK_CNT_WL = true ∨ (s.takeTrailer k).tst F.OTP_LOCK_PROG_DIS = true) := by
    simp [hcount, hprog]
  have hpower : ¬ (!(s.takeTrailer k).supplyOk) = true := by
    simpa using hsupply
  have hzero : pf k 0 0 2 ≠ 0 := by
    omega
  have hone : pf k 0 0 2 ≠ 1 := by
    omega
  exact (withTrailer_of_accepted haccept _).trans ((if_neg hjob).trans ((if_neg hlock).trans ((if_neg hzero).trans
    ((if_neg hone).trans ((if_pos hc).trans ((if_neg hgood).trans ((if_neg hnew).trans (if_neg hpower))))))))

end

end

/-- Settles O14: each command passes the checks of its own chapter under the hypotheses of its clause. -/
theorem otpCommandsAnswer : Obligations.OtpCommandsAnswer := by
  intro k s
  refine ⟨fun hready => ?_, fun hready haccept hidle hsupply => ?_, fun hready haccept hidle hsupply hprog => ?_,
    fun hready haccept hidle hsupply hprog hcount => ?_, fun hready => ?_⟩
  · intro a n run found hsome hmost hfits hopen
    have hsrv := answered_of_srv hready rfl (by decide) (srvOtpRead_ok (s := s.takes 0xA0 k) hsome hmost hfits hopen)
    exact hsrv
  · intro a ws tgt t hfits htarget hblank
    exact answered_of_srv hready rfl (by decide)
      (srvOtpProgram_ok (s := s.takes 0xA1 k) haccept hidle hsupply hfits htarget hblank)
  · intro code t
    exact ⟨fun hcode hwrite hunlocked hpasses => answered_of_srv hready rfl (by decide)
        (srvOtpFuseLock_native (s := s.takes 0xA2 k) haccept hidle hsupply hprog hcode hwrite hunlocked hpasses),
      fun hcode hunlocked => answered_of_srv hready rfl (by decide)
        (srvOtpFuseLock_compat (s := s.takes 0xA2 k) haccept hidle hsupply hprog hcode hunlocked)⟩
  · intro v t job
    refine ⟨fun hc hmore hmost hsvn => ?_, fun hc hmore hmost => ?_, fun hc => ?_⟩
    · exact answered_of_srv hready rfl (by decide)
        (srvCounterAdvance_version (s := s.takes 0xA3 k) haccept hidle hsupply hprog hcount hc hmore hmost hsvn)
    · exact answered_of_srv hready rfl (by decide)
        (srvCounterAdvance_epoch (s := s.takes 0xA3 k) haccept hidle hsupply hprog hcount hc hmore hmost)
    · intro new hslots hown husable hnew
      exact answered_of_srv hready rfl (by decide)
        (srvCounterAdvance_revoke (s := s.takes 0xA3 k) haccept hidle hsupply hprog hcount hc hslots hown husable hnew)
  · exact answered_of_srv (c := ⟨0xA4, 0, 0, srvOtpStatus⟩) hready rfl (by decide) rfl

end Sys2Proof.Machine
end


section
/-!
PROOF. The commands of group Security (R617, R621 to R635), among them NONCE_PUSH, whose packet keeps the TB of its arrival (R628).
-/

namespace Sys2Proof.Machine

open Sys2Proof (Word Pkt Instr)

/-! ### Free words -/

/-- Words drawn from the free source leave everything but the count of the draws. -/
theorem drawWords_state (n : Nat) (s : State) : (drawWords n s).2 = { s with free := s.free + n } := by
  induction n generalizing s with
  | zero => rfl
  | succ n ih =>
    refine (ih s.fresh.2).trans ?_
    simp only [State.fresh, Nat.add_right_comm s.free 1 n, Nat.add_assoc s.free n 1]

/-! ### The services -/

/-- The bits of LIVENESS_CONFIG that are kept lie in the field that they are written to (R625). -/
theorem w32_bits_keepMask (w : Word) : w32 (bits (keepMask w 0x10F) 0 10 % 2 ^ F.SEC_LIVE_CFG.len) = keepMask w 0x10F := by
  have hle : (keepMask w 0x10F).toNat ≤ 0x10F := by
    rw [keepMask, BitVec.toNat_and]
    exact Nat.and_le_right
  have hbits : bits (keepMask w 0x10F) 0 10 % 2 ^ F.SEC_LIVE_CFG.len = (keepMask w 0x10F).toNat := by
    simp only [bits, Nat.shiftRight_zero, F.SEC_LIVE_CFG, Nat.mod_mod]
    exact Nat.mod_eq_of_lt (by omega)
  rw [hbits, w32_toNat]

section
variable {k : Pkt} {s : State}

/-- A handshake begins with the role that the packet names and its tag, and the session stays (R621). -/
theorem helloSession_begins (k : Pkt) (s : State) :
    ∃ t h, helloSession k s = (.accepted [], t) ∧ t.sec.hand = some h ∧ h.role = pf k 0 4 1 ∧ h.tag = some k.tag ∧
      t.sec.sess = s.sec.sess := by
  refine ⟨_, _, rfl, rfl, rfl, rfl, ?_⟩
  have hdrawn : (drawWords 9 s).2.sec = s.sec := by rw [drawWords_state]
  change (match (drawWords 9 s).2.sec.hand.bind (fun x => x.tag) with
    | some g => (drawWords 9 s).2.finish 0xB0 g 0x0A (drawWords 9 s).2.tt.fn []
    | none => (drawWords 9 s).2).sec.sess = s.sec.sess
  split
  · rw [(finish_quiet _ _ _ _ _ _).sec, hdrawn]
  · rw [hdrawn]

section
variable (herased : s.tst F.SEC_STAT_ERASED = false) (hrandom : s.tst F.SEC_STAT_RNG_OK = true)
include herased hrandom

theorem srvAuthHello_session (hop : pf k 0 0 2 = 0) (hlen : k.payload.length = 17) : srvAuthHello k s = helloSession k s := by
  simp [srvAuthHello, hop, hlen, herased, hrandom]

theorem srvAuthHello_provision (hop : pf k 0 0 2 = 1) (hlen : k.payload.length = 6) : srvAuthHello k s = helloProvision k s := by
  simp [srvAuthHello, hop, hlen, herased, hrandom]

end

/-- PROVISION begins to program the eight words of the root secret and its check word (R618). -/
theorem helloProvision_begins (haccept : s.trailerReason 0xB0 k true = none) (hidle : s.otp.job = none)
    (hblank : s.otpCodeState 2 = 0) (hwrite : s.tst F.OTP_LOCK_RS_WL = false) (hprog : s.tst F.OTP_LOCK_PROG_DIS = false)
    (hsupply : s.supplyOk = true) :
    ∃ t j, helloProvision k s = (.accepted [], t) ∧ t.otp.job = some j ∧ j.op = 0xB0 ∧ j.tag = k.tag ∧
      j.words.map (fun p => p.1) = [96, 97, 98, 99, 100, 101, 102, 103, 104] := by
  have hjob : ¬ (s.takeTrailer k).otp.job.isSome = true := by
    simp [hidle]
  have hopen : ¬ ((s.takeTrailer k).otpCodeState 2 ≠ 0 ∨ (s.takeTrailer k).tst F.OTP_LOCK_RS_WL = true) :=
    not_or.mpr ⟨Classical.not_not.mpr hblank, by simp [hwrite]⟩
  have hfree : ¬ (s.takeTrailer k).tst F.OTP_LOCK_PROG_DIS = true := by
    simp [hprog]
  have hpower : ¬ (!(s.takeTrailer k).supplyOk) = true := by
    simpa using hsupply
  exact ⟨_, _, (withTrailer_of_accepted haccept _).trans ((if_neg hjob).trans ((if_neg hopen).trans ((if_neg hfree).trans
    (if_neg hpower)))), rfl, rfl, rfl, rfl⟩

theorem srvAuthFinish_ok {h : Handshake} (hhand : s.sec.hand = some h) (hlen : k.payload.length = if h.role = 1 then 38 else 6)
    (herased : s.tst F.SEC_STAT_ERASED = false) (hidle : s.sec.finish = none) (hrole : pf k 1 0 1 = 1 → h.role = 1) :
    srvAuthFinish k s = (.accepted [], { s with sec := { s.sec with finish := some ⟨k.tag, k.payload, s.tt.clk⟩ } }) := by
  by_cases hservice : h.role = 1
  · rw [if_pos hservice] at hlen
    simp [srvAuthFinish, hhand, hservice, hlen, herased, hidle]
  · rw [if_neg hservice] at hlen
    have hplain : pf k 1 0 1 ≠ 1 := mt hrole hservice
    simp [srvAuthFinish, hhand, hservice, hlen, hplain, herased, hidle]

section
variable (haccept : s.trailerReason 0xB2 k false = none)
include haccept

theorem srvLivenessConfig_ends (hend : pf k 0 9 1 = 1) : srvLivenessConfig k s = (s.takeTrailer k).endSession.ok [0#32] :=
  (withTrailer_of_accepted haccept _).trans (if_pos hend)

theorem srvLivenessConfig_sets (hset : pf k 0 9 1 = 0) :
    srvLivenessConfig k s =
      State.ok ((s.takeTrailer k).wr F.SEC_LIVE_CFG (bits (keepMask (pw k 0) 0x10F) 0 10)) [keepMask (pw k 0) 0x10F] := by
  have hfield : ∀ t : State, w32 ((t.wr F.SEC_LIVE_CFG (bits (keepMask (pw k 0) 0x10F) 0 10)).rd F.SEC_LIVE_CFG) =
      keepMask (pw k 0) 0x10F := fun t => by
    rw [State.rd_wr_same (by decide)]
    exact w32_bits_keepMask (pw k 0)
  have hstay : ¬ pf k 0 9 1 = 1 := by
    omega
  simp only [srvLivenessConfig, withTrailer_of_accepted haccept, if_neg hstay, hfield]

end

theorem srvPopQuiz_ok (hrun : s.tt.run = true) (hidle : s.isOpen 0xB4 = false) (hsome : 1 ≤ pf k 0 0 3) (hmost : pf k 0 0 3 ≤ 4)
    (hlen : k.payload.length = 1 + pf k 0 0 3)
    (hblocks : ∀ b ∈ (List.range (pf k 0 0 3)).map (fun i => (pf k (1 + i) 0 10, pf k (1 + i) 16 10)),
      inWindow s.live b.1 b.2 = true ∧ s.bondFailed b.1 b.2 = false) :
    srvPopQuiz k s = (.accepted [], { s with sec := { s.sec with sched := some ⟨s.quizFn, some k.tag, pf k 0 8 1 == 1,
      ((List.range (pf k 0 0 3)).map (fun i => (pf k (1 + i) 0 10, pf k (1 + i) 16 10))).map
        (fun b => ⟨b.1, b.2, false, true, 0⟩)⟩ } }) := by
  have hnumber : ¬ (pf k 0 0 3 = 0 ∨ 4 < pf k 0 0 3) := by
    omega
  have hgood : ¬ ((List.range (pf k 0 0 3)).map (fun i => (pf k (1 + i) 0 10, pf k (1 + i) 16 10))).any
      (fun b => !inWindow s.live b.1 b.2 || s.bondFailed b.1 b.2) = true := by
    simp only [List.any_eq_true, not_exists, not_and]
    intro b hb
    simp [hblocks b hb]
  exact (if_neg (by simp [hrun])).trans ((if_neg hnumber).trans ((if_neg (Classical.not_not.mpr hlen)).trans
    ((if_neg (Bool.eq_false_iff.mp hidle)).trans (if_neg hgood))))

theorem srvAlarmClear_ok (haccept : s.trailerReason 0xB6 k true = none) :
    srvAlarmClear k s = State.ok ((s.takeTrailer k).setReg R.SEC_ALARM (clearMask (s.reg R.SEC_ALARM) (pf k 0 0 9)))
      [clearMask (s.reg R.SEC_ALARM) (pf k 0 0 9)] := by
  have hsame : ∀ (t : State) (w : Word), (t.setReg R.SEC_ALARM w).reg R.SEC_ALARM = w := fun t w => Mem.get_set_same _ _ _
  simp only [srvAlarmClear, withTrailer_of_accepted haccept, hsame, State.takeTrailer_reg]

/-! ### NONCE_PUSH (R628) -/

/-- The TB of the packet's arrival is the one the service takes, and it is kept no longer. -/
theorem srvNoncePush_ok (hid : pf k 0 0 16 ≠ 0) (hfirst : ∀ p ∈ s.sec.arrivals, p.1 ≠ k.tag) :
    srvNoncePush k { s with sec := { s.sec with arrivals := s.sec.arrivals ++ [(k.tag, s.tt.tb)] } } =
      State.ok (State.wr { s with sec := { s.sec with nonce := (k.payload.drop 1).take 4, nonceTb := s.tt.tb } }
        F.SEC_LASTNONCE_NONCE_ID (pf k 0 0 16)) [] := by
  have hfind : (s.sec.arrivals ++ [(k.tag, s.tt.tb)]).find? (fun p => p.1 == k.tag) = some (k.tag, s.tt.tb) := by
    rw [List.find?_append, List.find?_eq_none.mpr (by simpa using hfirst)]
    simp
  have hgone : (s.sec.arrivals ++ [(k.tag, s.tt.tb)]).filter (fun p => p.1 != k.tag) = s.sec.arrivals := by
    rw [List.filter_append, List.filter_eq_self.mpr (by simpa using hfirst)]
    simp
  simp only [srvNoncePush, hfind, hgone, if_neg hid]

/-- A held packet that nothing stands before is taken at once (R29, R473). -/
theorem pump_of_one_held {h : Held} (hheld : s.fe.held = [h]) (hserver : s.serverUp = true) (horder : h.pkt.order = false) :
    s.pump = (State.release { s with fe := { s.fe with held := [] } } (charge h.op h.pkt.payload.length)).serve h.op h.pkt := by
  simp only [State.pump, hheld, List.length_singleton, iter, State.takeHeld, hserver, State.barrier, horder, Bool.not_true,
    Bool.false_and, Bool.or_self, Bool.false_eq_true, if_false]

/-- NONCE_PUSH is held, and taken at once, with the TB of its arrival noted (R628). -/
theorem accept_noncePush (hheld : s.fe.held = []) (hserver : s.serverUp = true) (horder : k.order = false) :
    s.accept 0xB3 k =
      (State.release { s with sec := { s.sec with arrivals := s.sec.arrivals ++ [(k.tag, s.tt.tb)] } }
        (charge 0xB3 k.payload.length)).serve 0xB3 k := by
  let h : Held := ⟨0xB3, k, (s.fe.opn.filter (fun o => o.op == 0x54)).map (fun o => o.tag)⟩
  let t : State := { s with
    fe := { s.fe with held := s.fe.held ++ [h] },
    sec := { s.sec with arrivals := s.sec.arrivals ++ [(k.tag, s.tt.tb)] } }
  have hone : t.fe.held = [h] := by
    simp only [t, hheld, List.nil_append]
  have hfe : ({ t.fe with held := [] } : Fe) = s.fe := by
    simp only [t, ← hheld]
  refine (pump_of_one_held hone hserver horder).trans ?_
  rw [hfe]

/-- A command that passes the checks of the mode and of its form is answered as its service says. -/
theorem serve_of_srv {op : Nat} {t : State} {c : Cmd} {a : Ans} (hcmd : findCmd op = some c) (hlegal : legalIn op s.checkMode = true)
    (hform : formOk op k = true) (hop : op ∉ [0x03, 0x05, 0x11, 0x12, 0x14, 0x21, 0x54]) (hsrv : c.srv k s = (a, t)) :
    s.serve op k = t.answer op k a := by
  simp only [List.mem_cons, List.not_mem_nil, not_or, or_false] at hop
  obtain ⟨h03, h05, h11, h12, h14, h21, h54⟩ := hop
  have hsoft : softAsked op k = false := softAsked_of_other_op (by simp [h05, h11, h12, h14]) k
  simp only [State.serve, hcmd, hlegal, hform, hsoft, hsrv, Bool.not_true, Bool.false_eq_true, if_false, State.afterwards, h03, h21,
    h54, or_self]
  cases a with
  | done st fn pl => cases st <;> rfl
  | accepted w => rfl
  | both st fn pl => rfl
  | later => rfl

/-- A packet that is ready is sent well, and reaches the front end's checks with the receive buffer empty. -/
theorem reaches_of_ready {op : Nat} (hready : ready op k s = true) :
    wellSent k s = true ∧ reaches k s = true ∧ s.fe.held = [] ∧ s.serverUp = true ∧ k.order = false ∧
      passes op k s = true := by
  simp only [ready, wellSent, takesNow, reaches, Bool.and_eq_true, Bool.not_eq_true', List.isEmpty_iff] at hready ⊢
  tauto

/-- Settles the clause of NONCE_PUSH (R628). -/
theorem noncePush_answered (hready : ready 0xB3 k s = true) (hid : pf k 0 0 16 ≠ 0) (hfirst : ∀ p ∈ s.sec.arrivals, p.1 ≠ k.tag) :
    okay .noncePush 0xB3 k s [] (State.wr { s.takes 0xB3 k with sec := { (s.takes 0xB3 k).sec with
      nonce := (k.payload.drop 1).take 4, nonceTb := s.tt.tb } } F.SEC_LASTNONCE_NONCE_ID (pf k 0 0 16)) := by
  obtain ⟨hsent, hreach, hheld, hserver, horder, hpass⟩ := reaches_of_ready hready
  simp only [passes, Bool.and_eq_true, decide_eq_true_eq] at hpass
  obtain ⟨⟨⟨hlen, hmost⟩, hlegal⟩, hform⟩ := hpass
  have hcmd : findCmd 0xB3 = some ⟨0xB3, 5, 5, srvNoncePush⟩ := rfl
  simp only [hcmd, Bool.and_eq_true, decide_eq_true_eq] at hlen
  obtain ⟨hlo, hhi⟩ := hlen
  have hcredits : (s.withSeq k.seq).hasCredits (charge 0xB3 k.payload.length) := by
    have hcharge := charge_le 0xB3 k.payload.length hmost
    have hfree : (s.withSeq k.seq).creditsFree = (4096, 2048) := by
      simp only [State.creditsFree, State.withSeq, hheld, List.map_nil, List.foldl_nil]
    rw [State.hasCredits, hfree]
    omega
  have harrive : arrive 0xB3 k s = (s.withSeq k.seq).accept 0xB3 k :=
    (arrive_checked hsent hreach (by omega)).trans
      (checked_of_passed (s := s.withSeq k.seq) hcredits (tag_free_of_reaches hreach) hmost hcmd
        (rsvd_eq_zero_of_wellSent hsent) hlo hhi)
  have hserve := serve_of_srv (s := { s.takes 0xB3 k with sec := { s.sec with arrivals := s.sec.arrivals ++ [(k.tag, s.tt.tb)] } })
    hcmd hlegal hform (by decide) (srvNoncePush_ok (s := s.takes 0xB3 k) hid hfirst)
  have haccept : arrive 0xB3 k s = _ :=
    harrive.trans ((accept_noncePush (s := s.withSeq k.seq) hheld hserver horder).trans hserve)
  exact congrArg (fun t => Host.Outcome.next (s.keepQueue t)) haccept

end

/-- Settles O15: each command passes the checks of its own chapter under the hypotheses of its clause. -/
theorem securityCommandsAnswer : Obligations.SecurityCommandsAnswer := by
  intro k s
  refine ⟨fun hready herased hrandom => ⟨fun hop hlen => ?_, fun hop hlen haccept hidle hblank hwrite hprog hsupply => ?_⟩,
    fun hready herased hidle => ?_, fun hready haccept => ?_, fun hready hid hfirst => ?_, fun hready hrun hidle => ?_,
    fun hready => ?_, fun hready haccept => ?_⟩
  · obtain ⟨t, h, hsrv, hhand, hrole, htag, hsess⟩ := helloSession_begins k (s.takes 0xB0 k)
    exact ⟨t, h, answered_of_srv hready rfl (by decide)
      ((srvAuthHello_session (s := s.takes 0xB0 k) herased hrandom hop hlen).trans hsrv), hhand, hrole, htag, hsess⟩
  · obtain ⟨t, j, hsrv, hjob⟩ := helloProvision_begins (s := s.takes 0xB0 k) haccept hidle hblank hwrite hprog hsupply
    exact ⟨t, j, answered_of_srv hready rfl (by decide)
      ((srvAuthHello_provision (s := s.takes 0xB0 k) herased hrandom hop hlen).trans hsrv), hjob⟩
  · intro u h hhand hlen hrole
    exact answered_of_srv hready rfl (by decide) (srvAuthFinish_ok (s := u) hhand hlen herased hidle hrole)
  · intro t
    exact ⟨fun hend => answered_of_srv hready rfl (by decide) (srvLivenessConfig_ends (s := s.takes 0xB2 k) haccept hend),
      fun hset => answered_of_srv hready rfl (by decide) (srvLivenessConfig_sets (s := s.takes 0xB2 k) haccept hset)⟩
  · exact noncePush_answered hready hid hfirst
  · intro n blocks u hsome hmost hlen hblocks
    exact answered_of_srv hready rfl (by decide) (srvPopQuiz_ok (s := u) hrun hidle hsome hmost hlen hblocks)
  · exact answered_of_srv (c := ⟨0xB5, 0, 0, srvAlarmStatus⟩) hready rfl (by decide) rfl
  · exact answered_of_srv hready rfl (by decide) (srvAlarmClear_ok (s := s.takes 0xB6 k) haccept)

end Sys2Proof.Machine
end


section
/-!
PROOF. The commands of group Recorder (R645, R648, R650, R654, R655).
-/

namespace Sys2Proof.Machine

open Sys2Proof (Word Pkt Instr)

section
variable {k : Pkt} {s : State}

/-! ### REC_MOUNT (R645, R655) -/

theorem srvRecMount_ok (hmount : s.rec_.mount ≠ 1) (hplain : pf k 0 0 1 = 0) (hlen : k.payload.length = 1) :
    srvRecMount k s = (.accepted [], s.mountStart (some k.tag) false) := by
  simp [srvRecMount, hmount, hplain, hlen]

theorem srvRecMount_formats (hmount : s.rec_.mount ≠ 1) (hformat : pf k 0 0 1 = 1) (hheld : s.emmcHeld = false)
    (haccept : s.trailerReason 0xC0 k true = none) :
    srvRecMount k s = (.accepted [], (s.takeTrailer k).mountStart (some k.tag) true) := by
  have hfree : ¬ ((s.takeTrailer k).rec_.mount = 1 ∨ (true = true ∧ (s.takeTrailer k).emmcHeld = true)) := by
    rintro (hbusy | ⟨-, hopen⟩)
    · exact hmount hbusy
    · exact Bool.eq_false_iff.mp hheld hopen
  exact (if_pos hformat).trans ((withTrailer_of_accepted haccept _).trans (if_neg hfree))

/-! ### REC_CONFIG (R648, R655) -/

/-- The words of REC_CONFIG written (R656). -/
def State.setRec (s : State) (cfg clip : Word) : State := (s.setReg R.REC_CFG (keepMask cfg 0x3F03F7)).setReg R.REC_CLIP clip

/-- Words within their ranges that keep the size of the ring and its frames are written (R648, R656). -/
theorem recConfig_ok {cfg clip : Word} (hsame : bits cfg 4 6 = s.rd F.REC_CFG_CB_MB)
    (hkeep : s.tst F.REC_CFG_EN = true → bit cfg 0 = true) (hsome : 1 ≤ bits cfg 4 6) (hmost : bits cfg 4 6 ≤ 32)
    (hrate : 1 ≤ bits cfg 16 6) (hrates : bits cfg 16 6 ≤ 40) (hpre : bits clip 0 16 ≤ 60000) (hpost : bits clip 16 16 ≤ 60000) :
    recConfig cfg clip s = (.ok, s.setRec cfg clip) := by
  have hspeed : ¬ (bits cfg 16 6 < 1 ∨ 40 < bits cfg 16 6) := by
    omega
  have hrange : ¬ (bits cfg 4 6 < 1 ∨ 32 < bits cfg 4 6 ∨ 60000 < bits clip 0 16 ∨ 60000 < bits clip 16 16) := by
    omega
  have hring : (bits cfg 4 6 != s.rd F.REC_CFG_CB_MB || (s.tst F.REC_CFG_EN && !bit cfg 0)) = false := by
    cases hen : s.tst F.REC_CFG_EN with
    | false => simp [hsame]
    | true => simp [hsame, hkeep hen]
  simp only [recConfig, if_neg hspeed, if_neg hrange, hring, Bool.false_and, Bool.false_eq_true, if_false, State.setRec]

theorem srvRecConfig_ok {t : State} (hplain : bit (pw k 0) 1 = false ∨ s.tst F.REC_CFG_RING = true) (hlen : k.payload.length = 2)
    (hset : recConfig (pw k 0) (pw k 1) s = (.ok, t)) : srvRecConfig k s = t.ok [] := by
  have hring : (bit (pw k 0) 1 && !s.tst F.REC_CFG_RING) = false := by
    rcases hplain with h | h <;> simp [h]
  simp [srvRecConfig, hring, hlen, hset, WRes.ans]

theorem srvRecConfig_starts_ring {t : State} (hstart : bit (pw k 0) 1 = true) (hstopped : s.tst F.REC_CFG_RING = false)
    (haccept : s.trailerReason 0xC1 k true = none) (hset : recConfig (pw k 0) (pw k 1) (s.takeTrailer k) = (.ok, t)) :
    srvRecConfig k s = t.ok [] := by
  simp [srvRecConfig, hstart, hstopped, withTrailer_of_accepted haccept, hset, WRes.ans]

/-! ### REC_EVENT (R650) -/

/-- An event in the post window of an open clip moves its end, never before the one it has and never past its limit. -/
theorem recEvent_of_post {c : OpenClip} (hmount : s.rec_.mount = 2) (hpost : s.rec_.opens.find? (fun c => c.post) = some c)
    (source : Nat) (protect : Bool) (user : Word) (pics : List RecFrame) (coding : Bool) :
    s.recEvent source protect user pics coding =
      (let want := (s.tt.fn + s.framesIn (s.rd F.REC_CLIP_POST_MS)) % 2 ^ 32
       let want := if seqLe want c.last then c.last else want
       let last := if seqLe want c.limit then want else c.limit
       ((some c.id, 0, []), { s with rec_ := { s.rec_ with
         opens := s.rec_.opens.map (fun d => if d.id = c.id then { d with last := last } else d) } })) := by
  simp only [State.recEvent, hmount, bne_self_eq_false, Bool.false_eq_true, if_false, hpost]

theorem srvRecEvent_ok {id st : Nat} {pl : List Word} {t : State}
    (hevent : s.recEvent 0 (pf k 0 0 1 == 1) (pw k 1) [] true = ((some id, st, pl), t)) :
    srvRecEvent k s = (.done 0 s.tt.fn [w32 id], t) := by
  simp only [srvRecEvent, hevent]

/-! ### Reading, erasing and unmounting (R654, R655) -/

section
variable (hmount : s.rec_.mount = 2)
include hmount

theorem srvRecIndexRead_ok (hsome : 1 ≤ pf k 1 0 4) (hmost : pf k 1 0 4 ≤ 8) (hfits : pf k 0 0 16 + pf k 1 0 4 ≤ 65536) :
    srvRecIndexRead k s = s.ok ((List.range (pf k 1 0 4)).flatMap (fun i => s.indexEntry (pf k 0 0 16 + i))) :=
  (if_neg (by simp [hmount])).trans ((if_neg (by omega)).trans (if_neg (by omega)))

theorem srvRecErase_ok (haccept : s.trailerReason 0xC5 k true = none) (hheld : s.emmcHeld = false) (hsome : 1 ≤ pf k 1 0 17)
    (hfits : pf k 0 0 16 + pf k 1 0 17 ≤ 65536)
    (hany : s.rec_.clips.filter (fun c => decide (pf k 0 0 16 ≤ c.id) && decide (c.id < pf k 0 0 16 + pf k 1 0 17)) ≠ [])
    (hopen : pf k 0 16 1 = 0 →
      (s.rec_.clips.filter (fun c => decide (pf k 0 0 16 ≤ c.id) && decide (c.id < pf k 0 0 16 + pf k 1 0 17))).any Clip.protected_
        = false) :
    srvRecErase k s = (.accepted [],
      let t := s.takeTrailer k
      { t with rec_ := { t.rec_ with jobs := t.rec_.jobs ++ [.erase k.tag ((s.rec_.clips.filter (fun c =>
        decide (pf k 0 0 16 ≤ c.id) && decide (c.id < pf k 0 0 16 + pf k 1 0 17))).map Clip.id)] } }) := by
  let ids := s.rec_.clips.filter (fun c => decide (pf k 0 0 16 ≤ c.id) && decide (c.id < pf k 0 0 16 + pf k 1 0 17))
  have hmounted : ¬ ((s.takeTrailer k).rec_.mount != 2) = true := by
    simp [hmount]
  have hfree : ¬ (s.takeTrailer k).emmcHeld = true := Bool.eq_false_iff.mp hheld
  have hrange : ¬ (pf k 1 0 17 = 0 ∨ 65536 < pf k 0 0 16 + pf k 1 0 17 ∨ ids.isEmpty = true) := by
    have hids : ids ≠ [] := hany
    simp only [List.isEmpty_iff, hids, or_false]
    omega
  have hallowed : ¬ (pf k 0 16 1 = 0 ∧ ids.any Clip.protected_ = true) := fun h => Bool.eq_false_iff.mp (hopen h.1) h.2
  exact (withTrailer_of_accepted haccept _).trans ((if_neg hmounted).trans ((if_neg hfree).trans ((if_neg hrange).trans
    (if_neg hallowed))))

theorem srvRecUnmount_ok (hidle : s.rec_.unmountTag = none) :
    srvRecUnmount k s = (.accepted [],
      let t := s.mapClips (fun c => if c.post then { c with post := false, last := s.tt.fn } else c)
      State.pumpUnmount { t with rec_ := { t.rec_ with unmountTag := some k.tag } }) := by
  simp only [srvRecUnmount, hmount, hidle, bne_self_eq_false, Bool.false_eq_true, Option.isSome_none, if_false]

/-- The frames of a clip that REC_CLIP_READ names (R654). -/
def clipFrames (k : Pkt) (c : Clip) : List RecFrame :=
  if pw k 2 = 0#32 then c.frames.drop (pw k 1).toNat else (c.frames.drop (pw k 1).toNat).take (pw k 2).toNat

/-- The state in which the frames of a clip are read (R654). -/
def State.readsClip (s : State) (k : Pkt) (c : Clip) : State :=
  { s with rec_ := { s.rec_ with reading := some ⟨k.tag, clipFrames k c⟩ } }

section
variable {c : Clip} (hmode : s.checkMode ≠ 0x7) (hheld : s.emmcHeld = false)
  (hclip : s.rec_.clips.find? (fun c => c.id == pf k 0 0 16) = some c)
  (hband : State.bandwidthOk (s.readsClip k c) (s.readsClip k c).staged ((s.readsClip k c).rd F.LNK_CFG_RATE)
    ((s.readsClip k c).rd F.LNK_CFG_LANES) = true)
include hmode hheld hclip hband

/-- REC_CLIP_READ that passes its checks answers as the frames that it names say (R654). -/
theorem srvRecClipRead_eq :
    srvRecClipRead k s =
      if (clipFrames k c).isEmpty then (.both 0 s.tt.fn [], s)
      else (.accepted [],
        let t := s.readsClip k c
        { t with rec_ := { t.rec_ with jobs := t.rec_.jobs ++ [.readFrame] } }) := by
  have hawake : ¬ (s.checkMode == 0x7) = true := by
    simpa using hmode
  have hmounted : ¬ (s.rec_.mount != 2) = true := by
    simp [hmount]
  have hfree : ¬ s.emmcHeld = true := Bool.eq_false_iff.mp hheld
  have hwide : ¬ (!State.bandwidthOk (s.readsClip k c) (s.readsClip k c).staged ((s.readsClip k c).rd F.LNK_CFG_RATE)
      ((s.readsClip k c).rd F.LNK_CFG_LANES)) = true := by
    simp [hband]
  unfold srvRecClipRead
  rw [if_neg hawake, if_neg hmounted, hclip]
  exact (if_neg hfree).trans (if_neg hwide)

theorem srvRecClipRead_empty (hnone : clipFrames k c = []) : srvRecClipRead k s = (.both 0 s.tt.fn [], s) :=
  (srvRecClipRead_eq hmount hmode hheld hclip hband).trans (if_pos (List.isEmpty_iff.mpr hnone))

theorem srvRecClipRead_begins (hsome : clipFrames k c ≠ []) :
    srvRecClipRead k s = (.accepted [],
      let t := s.readsClip k c
      { t with rec_ := { t.rec_ with jobs := t.rec_.jobs ++ [.readFrame] } }) :=
  (srvRecClipRead_eq hmount hmode hheld hclip hband).trans (if_neg (mt List.isEmpty_iff.mp hsome))

end

end

end

/-- Settles O16: each command passes the checks of its own chapter under the hypotheses of its clause. -/
theorem recorderCommandsAnswer : Obligations.RecorderCommandsAnswer := by
  intro k s
  refine ⟨fun hready hmount => ⟨fun hplain hlen => ?_, fun hformat hheld haccept => ?_⟩,
    fun hready hsame hkeep hsome hmost hrate hrates hpre hpost => ?_, fun hready hmount => ⟨fun c hpost => ?_, fun id st pl t hevent => ?_⟩,
    fun hready hmount => ?_, fun hready hmode hmount hheld c hclip => ?_, fun hready haccept hmount hheld => ?_,
    fun hready hmount hidle => ?_⟩
  · exact answered_of_srv hready rfl (by decide) (srvRecMount_ok (s := s.takes 0xC0 k) hmount hplain hlen)
  · exact answered_of_srv hready rfl (by decide) (srvRecMount_formats (s := s.takes 0xC0 k) hmount hformat hheld haccept)
  · intro set
    exact ⟨fun hplain hlen => answered_of_srv hready rfl (by decide) (srvRecConfig_ok (s := s.takes 0xC1 k) hplain hlen
        (recConfig_ok hsame hkeep hsome hmost hrate hrates hpre hpost)),
      fun hstart hstopped haccept => answered_of_srv hready rfl (by decide)
        (srvRecConfig_starts_ring (s := s.takes 0xC1 k) hstart hstopped haccept
          (recConfig_ok hsame hkeep hsome hmost hrate hrates hpre hpost))⟩
  · intro want want' last u
    exact answered_of_srv hready rfl (by decide) (srvRecEvent_ok (s := u) (recEvent_of_post (s := u) hmount hpost 0 _ (pw k 1) [] true))
  · exact answered_of_srv hready rfl (by decide) (srvRecEvent_ok (s := s.takes 0xC2 k) hevent)
  · intro n hsome hmost hfits
    exact answered_of_srv hready rfl (by decide) (srvRecIndexRead_ok (s := s.takes 0xC3 k) hmount hsome hmost hfits)
  · intro all fs u t hband
    exact ⟨fun hnone => answered_of_srv hready rfl (by decide) (srvRecClipRead_empty (s := u) hmount hmode hheld hclip hband hnone),
      fun hsome => answered_of_srv hready rfl (by decide) (srvRecClipRead_begins (s := u) hmount hmode hheld hclip hband hsome)⟩
  · intro lo n ids t hsome hfits hany hopen
    exact answered_of_srv hready rfl (by decide) (srvRecErase_ok (s := s.takes 0xC5 k) hmount haccept hheld hsome hfits hany hopen)
  · intro t
    exact answered_of_srv hready rfl (by decide) (srvRecUnmount_ok (s := s.takes 0xC6 k) hmount hidle)

end Sys2Proof.Machine
end


section
/-!
PROOF. SET_MODE (R488, R491, R492), and a TRIGGERED frame in its LEAD (R246), which a change of mode waits for.
-/

namespace Sys2Proof.Machine

open Sys2Proof (Word Pkt Instr)

/-- While a frame runs, a change of mode out of another mode than LOCKED only waits (R246, R488). -/
theorem applyMode_of_frameRuns {s : State} (hruns : s.frameRuns = true) (hmode : s.sys.mode ≠ 4) : s.applyMode = s := by
  unfold State.applyMode
  split
  · simp [hruns, hmode]
  · rfl

/-- A change to a mode without operands of its own that the matrix allows is decided by the command (R491, R492). -/
theorem srvSetMode_decides {k : Pkt} {s : State} {m : Nat} (hm : pf k 0 0 4 = m) (hplain : m = 2 ∨ m = 3)
    (hallowed : (modeTargets s.checkMode).contains m = true) (hlimp : s.checkMode ≠ 0xB) (hother : m ≠ s.checkMode)
    (htest : s.lnk.test = none) (hloop : s.lnk.loop = none) (hchg : s.sys.chg = none) :
    srvSetMode k s = (.later, { s with sys := { s.sys with chg := some ⟨m, s.tt.clk, none⟩ } }) := by
  rcases hplain with rfl | rfl <;>
    simp only [srvSetMode, setModeTo, hm, hallowed, hlimp, hother, htest, hloop, hchg, if_false, Bool.not_true, Bool.false_eq_true,
      Option.isSome_none, Bool.or_self] <;> rfl

/-- A device in TRIGGERED mode with no frame read, for which an event has set the start of one: it is in its LEAD. -/
def triggeredInLead : State :=
  { State.reset with
    sys := { State.reset.sys with phase := .run, mode := 5, fw := .running, takenOver := true }
    lnk := { State.reset.lnk with state := 2 }
    tt := { State.reset.tt with startDue := some 1 } }

/-- SET_MODE to STANDBY. -/
def toStandby : Pkt := ⟨0, 0, false, 0, 0, [2#32]⟩

/-- The change that SET_MODE decides in the LEAD of a TRIGGERED frame waits for that frame: the mode stays. -/
theorem exec_setMode_triggeredInLead :
    ∃ t, exec (.setMode toStandby) triggeredInLead = .next t ∧ t.sys.mode = 5 := by
  have hready : ready 0x03 toStandby triggeredInLead = true := by decide
  let s := triggeredInLead.takes 0x03 toStandby
  let t : State := { s with sys := { s.sys with chg := some ⟨2, s.tt.clk, none⟩ } }
  have hsrv : srvSetMode toStandby s = (.later, t) :=
    srvSetMode_decides (by decide) (.inl rfl) (by decide) (by decide) (by decide) rfl rfl rfl
  have hserved := arrive_served (c := ⟨0x03, 1, 7, srvSetMode⟩) hready rfl (by decide) (by decide) (by decide) (by decide)
    (softAsked_of_other_op (by decide) toStandby) hsrv
  have hafter : (t.answer 0x03 toStandby .later).afterwards 0x03 toStandby .later = t.answer 0x03 toStandby .later :=
    applyMode_of_frameRuns (s := t.answer 0x03 toStandby .later) (by decide) (by decide)
  refine ⟨triggeredInLead.keepQueue (arrive 0x03 toStandby triggeredInLead), rfl, ?_⟩
  rw [hserved, hafter]
  rfl

/-- Refutes O3: in TRIGGERED mode a frame that an event has started is in its LEAD before it is read, and a change of mode waits for it
(R246). No frame is read then, and SET_MODE changes no mode. -/
theorem not_setModeChangesMode : ¬ Obligations.SetModeChangesMode := by
  intro h
  obtain ⟨-, hchange⟩ := h toStandby triggeredInLead (by decide)
  obtain ⟨-, hidle⟩ := hchange rfl rfl rfl (by decide) (by decide)
  obtain ⟨t, hexec, hmode, -⟩ := hidle rfl rfl (by decide) (by decide)
  obtain ⟨u, hwaits, hstays⟩ := exec_setMode_triggeredInLead
  have hsame : t = u := by
    rw [hexec] at hwaits
    exact Host.Outcome.next.inj hwaits
  rw [hsame, hstays] at hmode
  exact absurd hmode (by decide)

end Sys2Proof.Machine
end


section
/-!
PROOF. The register rows (R11, R85, R88, R257, R335, R450, R483, R599, R664, R696).
-/

namespace Sys2Proof.Machine

open Sys2Proof (Word Pkt Instr)

/-! ### SOFT_RESET (R486, R696) -/

/-- Events formed into packets are sent or wait, and nothing beside the front end and the link changes. -/
theorem formEvents_sys (s : State) : s.formEvents.sys = s.sys := by
  unfold State.formEvents
  split
  · exact (flush_quiet s).sys
  · split <;> rfl

/-- The front end is cleared: nothing is held, open or waiting as an event, and no session stands (R486). -/
theorem clearFrontEnd_clears (s : State) :
    s.clearFrontEnd.fe.held = [] ∧ s.clearFrontEnd.fe.opn = [] ∧ s.clearFrontEnd.fe.events = [] ∧ s.clearFrontEnd.sec.sess = none :=
  ⟨rfl, rfl, rfl, rfl⟩

theorem softReset_of_running {s : State} (hfw : s.sys.fw = .running) (htaken : s.sys.takenOver = true) :
    s.softReset = { s.clearFrontEnd with sys := { s.clearFrontEnd.sys with fw := .restarting, fwReady := false } } := by
  simp [State.softReset, hfw, htaken]

/-! ### The rows -/

section
variable {s : State}

theorem moves_kick (hrun : s.saf.wdogRun = true) (hlate : s.wdogTime ≤ 8 * (s.tt.clk - s.saf.kickAt)) :
    moves .kick s { s with saf := { s.saf with kickAt := s.tt.clk } } := by
  simp [moves, exec, execKick, hrun, Nat.not_lt.mpr hlate]

theorem moves_counterClr {a : Nat} {d : RegDesc} (hreg : findReg a = some d) (hcounter : d.isCounter = true) :
    moves (.counterClr a) s (s.setReg d.addr 0#32) := by
  simp [moves, exec, execCounterClr, hreg, hcounter]

theorem moves_lockSet {a : Nat} (hlock : [R.ARR_CTRL, R.CNV_CTRL, R.PWR_CORE, R.SEC_ALARM_LVL, R.SAF_WDOG].contains a = true) :
    moves (.lockSet a) s (s.setReg a (s.reg a ||| 0x80000000#32)) := by
  simp only [moves, exec, execLockSet, hlock, if_true]

theorem moves_sysCtrlSoftReset (hpower : s.sys.phase ≠ .unpowered) (hreset : s.sys.phase ≠ .reset) :
    moves .sysCtrlSoftReset s s.formEvents.softReset := by
  simp [moves, exec, execSysCtrlSoftReset, hpower, hreset]

end

/-- Settles O19: each row is the one write, or the one copy, that its rule names. -/
theorem registerRowsAct : Obligations.RegisterRowsAct := by
  intro s
  refine ⟨fun a v t hwrite => moves_of_write_ok hwrite rfl, fun hpower hreset hfw htaken => ?_, fun hrun hlate => moves_kick hrun hlate,
    fun a d hreg hcounter => moves_counterClr hreg hcounter, fun a hlock => moves_lockSet hlock, fun v => rfl, rfl, rfl, rfl, rfl⟩
  obtain ⟨hheld, hopn, hevents, hsess⟩ := clearFrontEnd_clears s.formEvents
  refine ⟨_, moves_sysCtrlSoftReset hpower hreset, ?_⟩
  rw [softReset_of_running (by rw [formEvents_sys]; exact hfw) (by rw [formEvents_sys]; exact htaken)]
  exact ⟨hheld, hopn, hevents, hsess, rfl⟩

end Sys2Proof.Machine
end


section
/-!
PROOF. Time passing: what it leaves alone, and the time it comes to.
-/

namespace Sys2Proof.Machine

open Sys2Proof (Instr)

/-- A row that leaves `t` but for the queue moves to whatever `t` is. -/
theorem moves_of_row {i : Instr} {s t u : State} (hrow : exec i s = .next (s.keepQueue t)) (heq : t = u) : moves i s u :=
  hrow.trans (congrArg (fun x => Host.Outcome.next (s.keepQueue x)) heq)

/-! ### Time -/

section
variable (s : State) (t : Nat)

@[simp] theorem State.elapse_stg : (s.elapse t).stg = s.stg := by obtain ⟨_, _, _, _, h⟩ := elapse_frame s t; rw [h]
@[simp] theorem State.elapse_pend : (s.elapse t).pend = s.pend := by obtain ⟨_, _, _, _, h⟩ := elapse_frame s t; rw [h]
@[simp] theorem State.elapse_taken : (s.elapse t).taken = s.taken := by obtain ⟨_, _, _, _, h⟩ := elapse_frame s t; rw [h]
@[simp] theorem State.elapse_free : (s.elapse t).free = s.free := by obtain ⟨_, _, _, _, h⟩ := elapse_frame s t; rw [h]
@[simp] theorem State.elapse_sys : (s.elapse t).sys = s.sys := by obtain ⟨_, _, _, _, h⟩ := elapse_frame s t; rw [h]
@[simp] theorem State.elapse_exp : (s.elapse t).exp = s.exp := by obtain ⟨_, _, _, _, h⟩ := elapse_frame s t; rw [h]
@[simp] theorem State.elapse_bel : (s.elapse t).bel = s.bel := by obtain ⟨_, _, _, _, h⟩ := elapse_frame s t; rw [h]
@[simp] theorem State.elapse_cnv : (s.elapse t).cnv = s.cnv := by obtain ⟨_, _, _, _, h⟩ := elapse_frame s t; rw [h]
@[simp] theorem State.elapse_pix : (s.elapse t).pix = s.pix := by obtain ⟨_, _, _, _, h⟩ := elapse_frame s t; rw [h]
@[simp] theorem State.elapse_sp : (s.elapse t).sp = s.sp := by obtain ⟨_, _, _, _, h⟩ := elapse_frame s t; rw [h]
@[simp] theorem State.elapse_out : (s.elapse t).out = s.out := by obtain ⟨_, _, _, _, h⟩ := elapse_frame s t; rw [h]
@[simp] theorem State.elapse_pb : (s.elapse t).pb = s.pb := by obtain ⟨_, _, _, _, h⟩ := elapse_frame s t; rw [h]
@[simp] theorem State.elapse_pwr : (s.elapse t).pwr = s.pwr := by obtain ⟨_, _, _, _, h⟩ := elapse_frame s t; rw [h]
@[simp] theorem State.elapse_hk : (s.elapse t).hk = s.hk := by obtain ⟨_, _, _, _, h⟩ := elapse_frame s t; rw [h]
@[simp] theorem State.elapse_thm : (s.elapse t).thm = s.thm := by obtain ⟨_, _, _, _, h⟩ := elapse_frame s t; rw [h]
@[simp] theorem State.elapse_clk : (s.elapse t).clk = s.clk := by obtain ⟨_, _, _, _, h⟩ := elapse_frame s t; rw [h]
@[simp] theorem State.elapse_otp : (s.elapse t).otp = s.otp := by obtain ⟨_, _, _, _, h⟩ := elapse_frame s t; rw [h]
@[simp] theorem State.elapse_sec : (s.elapse t).sec = s.sec := by obtain ⟨_, _, _, _, h⟩ := elapse_frame s t; rw [h]
@[simp] theorem State.elapse_rec_ : (s.elapse t).rec_ = s.rec_ := by obtain ⟨_, _, _, _, h⟩ := elapse_frame s t; rw [h]
@[simp] theorem State.elapse_saf : (s.elapse t).saf = s.saf := by obtain ⟨_, _, _, _, h⟩ := elapse_frame s t; rw [h]

/-- Time passing moves the clock and the timebase, and nothing else of the timetable. -/
theorem elapse_tt : ∃ tb rem : Nat, (s.elapse t).tt = { s.tt with clk := max s.tt.clk t, tb := tb, tbRem := rem } := by
  unfold State.elapse
  split
  next hlate =>
    have hmax : max s.tt.clk t = t := by
      omega
    rw [(flush_quiet _).tt, hmax]
    split
    · exact ⟨s.tt.tb, s.tt.tbRem, rfl⟩
    · have hsum : s.tt.clk + (t - s.tt.clk) = t := by
        omega
      refine ⟨(s.advanceTb (t - s.tt.clk)).tt.tb, (s.advanceTb (t - s.tt.clk)).tt.tbRem, ?_⟩
      simp only [State.advanceTb, hsum]
  next hpast =>
    have hmax : max s.tt.clk t = s.tt.clk := by
      omega
    exact ⟨s.tt.tb, s.tt.tbRem, by rw [hmax]⟩

@[simp] theorem State.elapse_fn : (s.elapse t).tt.fn = s.tt.fn := by
  obtain ⟨_, _, h⟩ := elapse_tt s t
  rw [h]

theorem elapse_tt_clk : (s.elapse t).tt.clk = max s.tt.clk t := by
  obtain ⟨_, _, h⟩ := elapse_tt s t
  rw [h]

end

/-! ### Streams -/

/-- `t` differs from `s` in the outputs, the front end, the link and the words in force alone. -/
def Streams (s t : State) : Prop := t = { s with out := t.out, fe := t.fe, lnk := t.lnk, mem := t.mem }

theorem Streams.trans {s t u : State} (h : Streams s t) (g : Streams t u) : Streams s u := by
  unfold Streams at *
  rw [g, h]

theorem Quiet.streams {s t : State} (h : Quiet s t) : Streams s t := by
  rw [h]
  rfl

theorem Streams.sys {s t : State} (h : Streams s t) : t.sys = s.sys := by rw [h]
theorem Streams.tt {s t : State} (h : Streams s t) : t.tt = s.tt := by rw [h]
theorem Streams.clk {s t : State} (h : Streams s t) : t.clk = s.clk := by rw [h]
theorem Streams.pwr {s t : State} (h : Streams s t) : t.pwr = s.pwr := by rw [h]
theorem Streams.saf {s t : State} (h : Streams s t) : t.saf = s.saf := by rw [h]
theorem Streams.rec_ {s t : State} (h : Streams s t) : t.rec_ = s.rec_ := by rw [h]

theorem out_streams (s : State) (x : Out) : Streams s { s with out := x } := rfl

theorem foldl_streams {α : Type} (f : State → α → State) (h : ∀ s a, Streams s (f s a)) :
    ∀ (l : List α) (s : State), Streams s (l.foldl f s)
  | [], _ => rfl
  | a :: l, s => (h s a).trans (foldl_streams f h l (f s a))

theorem streamPacket_streams (s : State) (stream ptype fn : Nat) (ws : List Word) :
    Streams s (s.streamPacket stream ptype fn ws) := by
  unfold State.streamPacket
  split
  · rfl
  · exact (out_streams s _).trans (sendData_quiet _ _ _).streams

theorem framePacket_streams (s : State) (f : StreamFrame) (ptype : Nat) (ws : List Word) :
    Streams s (s.framePacket f ptype ws) := by
  unfold State.framePacket
  split
  · exact streamPacket_streams s _ _ _ _
  · rfl

theorem abortFrame_streams (s : State) (reason : Nat) (f : StreamFrame) : Streams s (s.abortFrame reason f) := by
  unfold State.abortFrame
  split
  · exact ((framePacket_streams s f 7 _).trans (out_streams _ _)).trans (bump_quiet _ _).streams
  · exact (framePacket_streams s f 7 _).trans (out_streams _ _)

theorem abortAll_streams (s : State) (reason : Nat) : Streams s (s.abortAll reason) :=
  foldl_streams _ (fun s f => abortFrame_streams s reason f) _ s

/-- The link goes down: every stream frame ends, and nothing beyond the outputs and the link changes (R364, R425). -/
theorem linkDown_streams (s : State) : Streams s s.linkDown := by
  unfold State.linkDown
  split
  · rfl
  · exact (abortAll_streams s 3).trans (lnk_quiet _ _).streams

end Sys2Proof.Machine
end

section
/-!
PROOF. The supply events (R494, R495, R537, R547 to R549, R577).
-/

namespace Sys2Proof.Machine

/-! ### Faults and records -/

theorem cardNow_pwr (s : State) (cause rail : Nat) (detail : List Word) : (s.cardNow cause rail detail).pwr = s.pwr := rfl

/-- The MTP word written leaves everything but the queue of writes, the front end, the link and the words in force. -/
theorem mtpWrite_pwr (s : State) : s.mtpWrite.pwr = s.pwr := by
  unfold State.mtpWrite
  split
  · rfl
  · extract_lets t u
    split
    · exact (finish_quiet _ _ _ _ _ _).pwr
    · rfl

/-- With the rails stopped the device is in reset, VIN as it was. -/
theorem finishDown_stops (s : State) (cause : Nat) :
    (s.finishDown cause).sys.phase = .reset ∧ (s.finishDown cause).pwr.pgood = 0 ∧ (s.finishDown cause).pwr.step = 0 ∧
      (s.finishDown cause).pwr.vin = s.pwr.vin ∧ (cause = 5 → (s.finishDown cause).pwr.shut = true) := by
  unfold State.finishDown
  extract_lets thermal t u
  have hvin : u.pwr.vin = s.pwr.vin := by
    change t.pwr.vin = s.pwr.vin
    unfold t
    split
    · rw [mtpWrite_pwr]
    · rfl
  split
  · exact ⟨rfl, rfl, rfl, hvin, fun _ => rfl⟩
  next hcold => exact ⟨rfl, rfl, rfl, hvin, fun hcause => absurd (decide_eq_true (.inl hcause)) hcold⟩

/-- A power-down that nothing holds runs at once (R548). -/
theorem shutdown_of_free {s : State} (hdown : s.pwr.down = none) (hgood : s.pwr.pgood ≠ 0) (hjobs : s.rec_.jobs = []) (cause : Nat) :
    s.shutdown cause = s.finishDown cause := by
  simp [State.shutdown, hdown, hgood, hjobs]

/-! ### The start of the boot ROM -/

/-- `t` is in the phase that `s` is in, and with RESET_N as there. -/
def KeepsPhase (s t : State) : Prop := t.sys.phase = s.sys.phase ∧ t.sys.resetN = s.sys.resetN

theorem KeepsPhase.trans {s t u : State} (h : KeepsPhase s t) (g : KeepsPhase t u) : KeepsPhase s u :=
  ⟨g.1.trans h.1, g.2.trans h.2⟩

theorem Streams.keepsPhase {s t : State} (h : Streams s t) : KeepsPhase s t := by
  simp only [KeepsPhase, h.sys, and_self]

theorem setRun_quiet (s : State) (a : Nat) (ws : List Word) : Quiet s (s.setRun a ws) := rfl

theorem wrs_quiet (l : List (Fld × Nat)) (s : State) : Quiet s (s.wrs l) :=
  foldl_quiet _ (fun s (p : Fld × Nat) => wr_quiet s p.1 p.2) l s

theorem putWords_quiet (s : State) (m : List (Nat × Nat)) (ws : List Word) : Quiet s (s.putWords m ws) :=
  foldl_quiet _ (fun s (p : Nat × Nat) => setReg_quiet s p.2 _) m s

theorem loadTrims_keepsPhase (s : State) : KeepsPhase s s.loadTrims := ⟨rfl, rfl⟩

theorem loadHomeroom_keepsPhase (s : State) : KeepsPhase s s.loadHomeroom := by
  unfold State.loadHomeroom
  extract_lets h y t u
  have hchosen : KeepsPhase s t := ⟨rfl, rfl⟩
  have hwords : KeepsPhase s u := hchosen.trans (putWords_quiet t hrLink h.2).streams.keepsPhase
  split
  · exact hwords
  next w _ =>
    refine hwords.trans (Quiet.streams ?_).keepsPhase
    exact Quiet.trans (putWords_quiet u _ w) (Quiet.trans (setReg_quiet _ _ _)
      (Quiet.trans (foldl_quiet _ (fun s (n : Nat) => setRun_quiet s _ _) _ _) (lnk_quiet _ _)))

theorem prefectStart_keepsPhase (s : State) : KeepsPhase s s.prefectStart := by
  unfold State.prefectStart
  split
  · exact ⟨rfl, rfl⟩
  · exact ⟨rfl, rfl⟩

theorem relock_keepsPhase (s : State) (n : Nat) : KeepsPhase s (s.relock n) := by
  unfold State.relock
  extract_lets t
  have hplls : KeepsPhase s t := ⟨rfl, rfl⟩
  split
  · exact hplls.trans (linkDown_streams t).keepsPhase
  · exact hplls

theorem foldl_relock_keepsPhase (l : List Nat) (s : State) : KeepsPhase s (l.foldl (fun (v : State) n => v.relock n) s) := by
  induction l generalizing s with
  | nil => exact ⟨rfl, rfl⟩
  | cons n l ih => exact (relock_keepsPhase s n).trans (ih _)

theorem limpFor_keepsPhase (s : State) (cause : Nat) : KeepsPhase s (s.limpFor cause) := by
  unfold State.limpFor
  split
  · exact ⟨rfl, rfl⟩
  · split <;> exact ⟨rfl, rfl⟩

theorem loadImage_keepsPhase (s : State) : KeepsPhase s s.loadImage := by
  unfold State.loadImage
  split
  · exact ⟨rfl, rfl⟩
  · exact limpFor_keepsPhase s 1

/-- With its critical regions good and its reference within 5 %, the device boots (R495, R515, R596). -/
theorem bootFrom_boots {s : State} {refclk : Bool} {khz : Nat} (emmc : Bool)
    (htrim : s.otpStart.otpCodeState 0 = 2) (hconfig : s.otpStart.otpCodeState 1 = 2) :
    let f := if refclk then bits (s.otpStart.otpUsed 3 128) 0 16 else 25000
    1 ≤ f → 20 * (f - khz) ≤ f → 20 * (khz - f) ≤ f →
      (s.bootFrom refclk (some khz) emmc).sys.phase = .boot ∧ (s.bootFrom refclk (some khz) emmc).sys.resetN = true := by
  intro f hsome hlow hhigh
  have hgood : ([0, 1] : List Nat).find? (fun c => s.otpStart.otpCodeState c != 2) = none := by
    simp [htrim, hconfig]
  have hoff : ¬ (f = 0 ∨ f < 20 * (if khz < f then f - khz else khz - f)) := by
    split <;> omega
  unfold State.bootFrom
  simp only [hgood, Option.getD_some]
  rw [if_neg hoff]
  let u : State := { s.otpStart with
    sys := { s.otpStart.sys with phase := .boot, resetN := true },
    rec_ := { s.otpStart.rec_ with present := emmc },
    pwr := { s.otpStart.pwr with coreFrom := 750000, coreAt := s.otpStart.tt.clk } }
  have htrims : KeepsPhase u (u.loadTrims.wrs [(F.CLK_CFG_REFSRC, flag refclk), (F.CLK_CFG_REF_KHZ, f)]) :=
    (loadTrims_keepsPhase u).trans (wrs_quiet _ _).streams.keepsPhase
  exact htrims.trans ((loadHomeroom_keepsPhase _).trans ((prefectStart_keepsPhase _).trans
    ((foldl_relock_keepsPhase (List.range 4) _).trans (loadImage_keepsPhase _))))

/-! ### The rows -/

section
variable {s : State}

/-- Where sequencing begins, the power die alone changes (R547). -/
theorem beginRise_frame (s : State) : ∃ p : Pwr, s.beginRise = { s with pwr := p } ∧ p.vin = s.pwr.vin ∧ p.poc = s.pwr.poc ∧
    p.surge = s.pwr.surge := by
  unfold State.beginRise
  split <;> exact ⟨_, rfl, rfl, rfl, rfl⟩

/-- The origin alone is marked (R495). -/
theorem markOrigin_frame (s : State) (was : Nat) :
    ∃ y : Sys, s.markOrigin was = { s with sys := y } ∧ y.phase = s.sys.phase := by
  unfold State.markOrigin
  split <;> exact ⟨_, rfl, rfl⟩

/-- A power die with the origin marked and the rise begun keeps its words, its OTP, its phase, VIN, the surge and the count of power-ons. -/
theorem markOrigin_beginRise_frame (s : State) (was : Nat) :
    let t := (s.markOrigin was).beginRise
    t.mem = s.mem ∧ t.otp = s.otp ∧ t.sys.phase = s.sys.phase ∧ t.pwr.vin = s.pwr.vin ∧ t.pwr.surge = s.pwr.surge ∧
      t.pwr.poc = s.pwr.poc := by
  obtain ⟨y, hmark, hphase⟩ := markOrigin_frame s was
  obtain ⟨p, hrise, hvin, hpoc, hsurge⟩ := beginRise_frame (s.markOrigin was)
  rw [hrise]
  rw [hmark] at hvin hpoc hsurge ⊢
  exact ⟨rfl, rfl, hphase, hvin, hsurge, hpoc⟩

theorem vinRise_rises {v : Nat} (hrise : s.pwr.vin < v) :
    ∃ t, exec (.vinRise v) s = .next t ∧ t.pwr.vin = v ∧ t.mem = s.mem ∧ t.otp = s.otp ∧
      (s.sys.phase = .unpowered → 450 ≤ v → t.sys.phase = .reset ∧ t.pwr.poc = (s.pwr.poc + 1) % 2 ^ 32) := by
  let a : State := { s with pwr := { s.pwr with vin := v } }
  let b : State := if s.sys.phase == .unpowered && decide (450 ≤ v) then
      { a with sys := { a.sys with phase := .reset }, pwr := { a.pwr with poc := (a.pwr.poc + 1) % 2 ^ 32 } }
    else a
  have hb : b.mem = s.mem ∧ b.otp = s.otp ∧ b.pwr.vin = v := by
    unfold b
    split <;> exact ⟨rfl, rfl, rfl⟩
  obtain ⟨hmem, hotp, hvin⟩ := hb
  obtain ⟨hmem', hotp', hphase', hvin', -, hpoc'⟩ := markOrigin_beginRise_frame b s.pwr.vin
  have hexec : exec (.vinRise v) s = .next (s.keepQueue ((b.markOrigin s.pwr.vin).beginRise)) :=
    moves_of_row rfl (if_neg (Nat.not_le.mpr hrise))
  refine ⟨_, hexec, hvin'.trans hvin, hmem'.trans hmem, ?_, fun hoff hlive => ?_⟩
  · rw [State.keepQueue_otp, hotp', hotp]
  · have hon : b = { a with sys := { a.sys with phase := .reset }, pwr := { a.pwr with poc := (a.pwr.poc + 1) % 2 ^ 32 } } :=
      if_pos (by simp [hoff, hlive])
    rw [State.keepQueue_sys, State.keepQueue_pwr, hphase', hpoc', hon]
    exact ⟨rfl, rfl⟩

theorem uvlo_stops {v : Nat} (hlow : v < 540) (hpower : s.sys.phase ≠ .unpowered) (hdown : s.pwr.down = none)
    (hgood : s.pwr.pgood ≠ 0) (hjobs : s.rec_.jobs = []) :
    ∃ t, exec (.uvlo v) s = .next t ∧ t.pwr.vin = v ∧ t.pwr.pgood = 0 ∧ t.pwr.step = 0 ∧ t.sys.phase = .reset := by
  let a := s.elapse (us 50 + s.tt.clk)
  let b : State := { a with pwr := { a.pwr with vin := v } }
  have hacts : ¬ (540 ≤ v ∨ s.sys.phase = .unpowered) := by
    simp [hpower, hlow]
  have hexec : exec (.uvlo v) s = .next (s.keepQueue (b.shutdown 1)) :=
    moves_of_row rfl (if_neg hacts)
  have hdown' : b.shutdown 1 = b.finishDown 1 := shutdown_of_free (by simp [b, a, hdown]) (by simp [b, a, hgood])
    (by simp [b, a, hjobs]) 1
  obtain ⟨hphase, hpgood, hstep, hvin, -⟩ := finishDown_stops b 1
  rw [hdown'] at hexec
  exact ⟨_, hexec, hvin, hpgood, hstep, hphase⟩

theorem moves_vinHi {v : Nat} (hhigh : 1950 < v) (hpower : s.sys.phase ≠ .unpowered) :
    let t := s.elapse (us 10 + s.tt.clk)
    let u : State := { t with pwr := { t.pwr with vin := v, vinHi := true } }
    moves (.vinHi v) s (if s.coreRuns then u.faultC 18 else u) := by
  intro t u
  have hacts : ¬ (v ≤ 1950 ∨ s.sys.phase = .unpowered) := by
    simp [hpower, hhigh]
  have hruns : u.coreRuns = s.coreRuns := by
    simp [State.coreRuns, u, t]
  rw [← hruns]
  exact moves_of_row rfl (if_neg hacts)

theorem surge_stops {v : Nat} (hhigh : 2450 < v) (hpower : s.sys.phase ≠ .unpowered) :
    ∃ t, exec (.surge v) s = .next t ∧ t.pwr.vin = v ∧ t.pwr.surge = true ∧ t.pwr.pgood = 0 ∧ t.sys.phase = .reset := by
  have hacts : ¬ (v ≤ 2450 ∨ s.sys.phase = .unpowered) := by
    simp [hpower, hhigh]
  exact ⟨_, moves_of_row rfl (if_neg hacts), rfl, rfl, rfl, rfl⟩

theorem surgeRecovery_recovers {v : Nat} (hsurge : s.pwr.surge = true) (hlow : v < 1900) :
    ∃ t, exec (.surgeRecovery v) s = .next t ∧ t.pwr.vin = v ∧ t.pwr.surge = false ∧ t.otp = s.otp := by
  let a := s.elapse (ms 1 + s.tt.clk)
  let b : State := { a with pwr := { a.pwr with vin := v, surge := false } }
  have hacts : ¬ (!s.pwr.surge || decide (1900 ≤ v)) = true := by
    simp [hsurge, hlow]
  obtain ⟨-, hotp, -, hvin, hsurge', -⟩ := markOrigin_beginRise_frame b 0
  refine ⟨_, moves_of_row rfl (if_neg hacts), hvin, hsurge', ?_⟩
  rw [State.keepQueue_otp, hotp]
  simp [b, a]

theorem resetNAssert_resets (hruns : s.coreRuns = true) :
    ∃ t, exec .resetNAssert s = .next t ∧ t.sys.phase = .reset ∧ t.sys.resetN = false ∧ t.sys.fw = .rom ∧
      t.fe = State.reset.fe ∧ t.stg = [] ∧ t.otp.cells = s.otp.cells ∧ t.pwr.vin = s.pwr.vin := by
  have hexec : exec .resetNAssert s =
      .next (s.keepQueue { s.intoReset with sys := { s.intoReset.sys with resetN := false } }) := by
    simp only [exec, execResetNAssert, hruns, if_true]
  exact ⟨_, hexec, rfl, rfl, rfl, rfl, rfl, rfl, rfl⟩

theorem exec_resetRelease (hphase : s.sys.phase = .reset) (hrails : s.railsGood = true) (hwaits : s.railWaits = false)
    (refclk : Bool) (khz : Nat) (emmc : Bool) :
    exec (.resetRelease refclk khz emmc) s = .next (s.keepQueue (State.bootFrom
      (if s.sys.resetN then s else { s with sys := { s.sys with resetN := true, origin := s.tt.clk } }) refclk (some khz) emmc)) := by
  have hacts : ¬ (s.sys.phase != .reset || !s.railsGood || s.railWaits) = true := by
    simp [hphase, hrails, hwaits]
  exact moves_of_row rfl (if_neg hacts)

theorem moves_softStartStep (hphase : s.sys.phase = .reset) (hfirst : 1 ≤ s.pwr.step) (hlast : s.pwr.step < 8)
    (hwaits : s.railWaits = false) :
    let t := s.elapse (ns (stepNs s.pwr.step) + s.pwr.stepAt)
    moves .softStartStep s { t with pwr := { t.pwr with
      pgood := (stepRails s.pwr.step).foldl setBit t.pwr.pgood, step := s.pwr.step + 1, stepAt := t.tt.clk } } := by
  have hstep : s.pwr.step ≠ 0 := by
    omega
  have hacts : ¬ (s.sys.phase != .reset || s.pwr.step == 0 || decide (8 ≤ s.pwr.step) || s.railWaits) = true := by
    simp [hphase, hstep, hlast, hwaits]
  exact moves_of_row rfl (if_neg hacts)

theorem moves_softStartTimeout {rail : Nat} (hrail : rail ≠ 6) (hphase : s.sys.phase = .reset) (hin : rail ∈ stepRails s.pwr.step)
    (hwaits : s.railWaits = false) :
    moves (.softStartTimeout rail) s ((s.elapse (ms 5 + s.pwr.stepAt)).railFault rail false) := by
  have hacts : (s.sys.phase == .reset && (stepRails s.pwr.step).contains rail && !s.railWaits) = true := by
    simp [hphase, hin, hwaits]
  exact moves_of_row rfl ((if_neg hrail).trans (if_pos hacts))

theorem moves_softStartTimeout_vcmp (hon : s.pwr.vcmpOn = true) (hbad : s.pwr.pgood.testBit 6 = false) :
    moves (.softStartTimeout 6) s ((s.elapse (ms 5 + s.pwr.vcmpAt)).railFault 6 false) := by
  have hacts : (s.pwr.vcmpOn && !s.pwr.pgood.testBit 6) = true := by
    simp [hon, hbad]
  exact moves_of_row rfl ((if_pos rfl).trans (if_pos hacts))

theorem moves_railFault {rail : Nat} (hon : s.railOn rail = true) :
    moves (.railFault rail) s ((s.elapse (us 100 + s.tt.clk)).railFault rail false) :=
  moves_of_row rfl (if_pos hon)

theorem moves_railOv {rail : Nat} (hon : s.railOn rail = true) :
    moves (.railOv rail) s ((s.elapse (us 20 + s.tt.clk)).railFault rail true) :=
  moves_of_row rfl (if_pos hon)

theorem hiccupRestart_restarts {rail : Nat} {p : Nat × Nat} (hwaits : s.pwr.waiting.find? (fun q => q.1 == rail) = some p) :
    ∃ t, exec (.hiccupRestart rail) s = .next t ∧ t.pwr.waiting = s.pwr.waiting.filter (fun q => q.1 != rail) ∧
      t.pwr.pgood = s.pwr.pgood ∧ (rail = 6 → t.pwr.vcmpOn = true) := by
  by_cases hrail : rail = 6
  · subst hrail
    simp [exec, execHiccupRestart, hwaits]
  · simp [exec, execHiccupRestart, hwaits, hrail]

theorem thermalComparatorTrip_shuts (hpower : s.sys.phase ≠ .unpowered) (hdown : s.pwr.down = none) (hgood : s.pwr.pgood ≠ 0)
    (hjobs : s.rec_.jobs = []) (sensor : Nat) :
    ∃ t, exec (.thermalComparatorTrip sensor) s = .next t ∧ t.pwr.shut = true ∧ t.pwr.pgood = 0 := by
  obtain ⟨-, hpgood, -, -, hshut⟩ := finishDown_stops s 5
  have hexec : exec (.thermalComparatorTrip sensor) s = .next (s.keepQueue (s.finishDown 5)) := by
    rw [← shutdown_of_free hdown hgood hjobs 5]
    exact moves_of_row rfl (if_neg (by simpa using hpower))
  exact ⟨_, hexec, hshut rfl, hpgood⟩

end

/-- Settles O20: each row of the supply, of reset and of the soft start. -/
theorem supplyEventsAct : Obligations.SupplyEventsAct := by
  intro s
  refine ⟨fun v hrise => vinRise_rises hrise, fun v hlow hpower hdown hgood hjobs => uvlo_stops hlow hpower hdown hgood hjobs,
    ⟨_, rfl, rfl, rfl, rfl, rfl⟩, fun v hhigh hpower => moves_vinHi hhigh hpower, rfl, fun v hhigh hpower => surge_stops hhigh hpower,
    fun v hsurge hlow => surgeRecovery_recovers hsurge hlow, fun hruns => resetNAssert_resets hruns,
    fun refclk khz emmc hphase hrails hwaits => ?_,
    fun hphase hfirst hlast hwaits => moves_softStartStep hphase hfirst hlast hwaits,
    fun rail hrail hphase hin hwaits => moves_softStartTimeout hrail hphase hin hwaits,
    fun hon hbad => moves_softStartTimeout_vcmp hon hbad, fun rail hon => ⟨moves_railFault hon, moves_railOv hon⟩,
    fun rail p hwaits => hiccupRestart_restarts hwaits,
    fun hpower hdown hgood hjobs sensor => thermalComparatorTrip_shuts hpower hdown hgood hjobs sensor⟩
  intro u f htrim hconfig hsome hlow hhigh
  obtain ⟨hboot, hreset⟩ := bootFrom_boots emmc htrim hconfig hsome hlow hhigh
  exact ⟨_, exec_resetRelease hphase hrails hwaits refclk khz emmc, hboot, hreset⟩

end Sys2Proof.Machine
end


section
/-!
PROOF. The rows of the Bell (R222 to R244), of the OTP and the Prefect (R602, R621 to R635), and of dependability (R660 to R670).
-/

namespace Sys2Proof.Machine

open Sys2Proof (Word Instr)

/-! ### The Bell -/

section
variable {s : State}

theorem moves_bellTake {e : BellEv} (hraised : s.bel.raised = some e) (hmode : s.sys.mode = 5) :
    moves .bellTake s (s.bellTake e (s.rd F.BEL_CFG_DELAY)) := by
  simp [moves, exec, execBellTake, hraised, hmode]

theorem moves_trigInEdge {held : Nat} {falling : Bool} (hmode : s.sys.mode = 5) (hsource : (s.rd F.BEL_CFG_SRC).testBit 0 = true)
    (hedge : s.tst F.BEL_CFG_EDGE = falling) (hwide : 2 * max 1 (s.rd F.BEL_CFG_MINW) ≤ held) (after : Nat) :
    let t := s.elapse (ns (2 * after + 2 * max 1 (s.rd F.BEL_CFG_MINW) + 8) + s.tt.clk)
    moves (.trigInEdge after falling held) s (t.bellRaise ⟨t.tt.clk, t.tt.tb, none⟩) := by
  have hacts : ¬ (s.sys.mode != 0x5 || !(s.rd F.BEL_CFG_SRC).testBit 0 || s.tst F.BEL_CFG_EDGE != falling ||
      decide (held < 2 * max 1 (s.rd F.BEL_CFG_MINW))) = true := by
    simp [hmode, hsource, hedge, hwide]
  exact moves_of_row rfl (if_neg hacts)

theorem moves_trigInEdge_of_short {held : Nat} (hshort : held < 2 * max 1 (s.rd F.BEL_CFG_MINW)) (after : Nat) (falling : Bool) :
    moves (.trigInEdge after falling held) s s := by
  have hignored : (s.sys.mode != 0x5 || !(s.rd F.BEL_CFG_SRC).testBit 0 || s.tst F.BEL_CFG_EDGE != falling ||
      decide (held < 2 * max 1 (s.rd F.BEL_CFG_MINW))) = true := by
    simp [hshort]
  exact moves_of_row rfl (if_pos hignored)

theorem moves_triggerAtReached {at_ tag : Nat} (hsched : s.bel.sched = some (at_, tag)) :
    let t := s.elapse (s.clkAtTb at_)
    moves .triggerAtReached s (State.bellRaise { t with bel := { t.bel with sched := none } } ⟨t.tt.clk, at_, some tag⟩) := by
  simp only [moves, exec, execTriggerAtReached, hsched]

/-- The state in which the Bell is ready again: what an event started ends at the end of its last frame, which begins at `rp0`, less the
lead of the next (R241). -/
def State.bellReady (s : State) (rp0 : Nat) : State :=
  let v := s.viewFor s.bel.lastFn
  let next := (s.viewFor (fnNext s.bel.lastFn)).over s.bellOverlay
  let t := s.elapse (onCycle (rp0 + 16 * vVtotal v * rpRaw v - frameLead next * rpRaw next))
  { t with bel := { t.bel with busy := false } }

section
variable (hbusy : s.bel.busy = true) (hseq : s.exp.seq = none) {rp0 : Nat}
  (hrp0 : s.tt.startDue = some rp0 ∨ (s.tt.startDue = none ∧ rp0 = s.tt.rp0))
include hbusy hseq hrp0

theorem moves_bellBusyEnd_ready (hnone : (s.bellReady rp0).bel.queue = none) : moves .bellBusyEnd s (s.bellReady rp0) := by
  obtain ⟨el, hel⟩ : ∃ el, State.elapse s = el := ⟨_, rfl⟩
  have hbel : ∀ x, (el x).bel = s.bel := hel ▸ s.elapse_bel
  change execBellBusyEnd s = _
  unfold State.bellReady at hnone ⊢
  unfold execBellBusyEnd
  rw [hel] at hnone ⊢
  have hqueue : s.bel.queue = none := by simpa [hbel] using hnone
  rcases hrp0 with hdue | ⟨hdue, rfl⟩ <;>
    simp only [hbusy, hseq, hdue, hbel, hqueue, Bool.not_true, Bool.or_self, Bool.false_eq_true, if_false]

theorem moves_bellBusyEnd_takes {e : BellEv} (hheld : (s.bellReady rp0).bel.queue = some e) :
    moves .bellBusyEnd s (State.bellTake { s.bellReady rp0 with bel := { (s.bellReady rp0).bel with queue := none } } e 0) := by
  obtain ⟨el, hel⟩ : ∃ el, State.elapse s = el := ⟨_, rfl⟩
  have hbel : ∀ x, (el x).bel = s.bel := hel ▸ s.elapse_bel
  change execBellBusyEnd s = _
  unfold State.bellReady at hheld ⊢
  unfold execBellBusyEnd
  rw [hel] at hheld ⊢
  have hqueue : s.bel.queue = some e := by simpa [hbel] using hheld
  rcases hrp0 with hdue | ⟨hdue, rfl⟩ <;>
    simp only [hbusy, hseq, hdue, hbel, hqueue, Bool.not_true, Bool.or_self, Bool.false_eq_true, if_false]

end

end

/-- Settles O29: each row of the Bell. -/
theorem bellEventsAct : Obligations.BellEventsAct := fun _ =>
  ⟨fun _ hraised hmode => moves_bellTake hraised hmode,
    fun after _ _ hmode hsource hedge hwide => moves_trigInEdge hmode hsource hedge hwide after,
    fun after falling _ _ hshort => moves_trigInEdge_of_short hshort after falling,
    fun _ _ hsched => moves_triggerAtReached hsched,
    fun hbusy hseq _ hrp0 => ⟨fun hnone => moves_bellBusyEnd_ready hbusy hseq hrp0 hnone,
      fun _ hheld => moves_bellBusyEnd_takes hbusy hseq hrp0 hheld⟩⟩

/-! ### The OTP and the Prefect -/

section
variable {s : State}

/-- The wanted bits without the short ones among them are the wanted bits that are not short. -/
theorem and_not_and_self (want short : Word) : want &&& ~~~ (want &&& short) = want &&& ~~~ short := by
  ext i
  simp only [BitVec.getElem_and, BitVec.getElem_not]
  cases want[i] <;> rfl

theorem otpWordProgrammed_blows {j : OtpJob} {a : Nat} {w : Word} {rest : List (Nat × Word)} (hjob : s.otp.job = some j)
    (hwords : j.words = (a, w) :: rest) (short loose : Word) :
    ∃ t, exec (.otpWordProgrammed short loose) s = .next t ∧
      (t.otp.cell a).1 = (s.otp.cell a).1 ||| ((w &&& ~~~ (s.otp.cell a).1) &&& ~~~ short) ∧
      ∀ b, b ≠ a → t.otp.cell b = s.otp.cell b := by
  have hcells := cells_otpWord hjob hwords short loose
  refine ⟨{ s.otpWord short loose with pending := s.pending }, rfl, ?_, fun b hb => ?_⟩
  · rw [Otp.cell_congr (o := (s.otpWord short loose).otp) hcells, Otp.cell_blow_same, and_not_and_self]
  · rw [Otp.cell_congr (o := (s.otpWord short loose).otp) hcells, Otp.cell_blow_other _ hb]

theorem handshakeDone_answers {h : Handshake} {g : Nat} (hhand : s.sec.hand = some h) (htag : h.tag = some g) :
    ∃ t, exec .handshakeDone s = .next t ∧ t.sec.hand = some { h with tag := none, repliedAt := s.tt.clk } := by
  refine ⟨_, rfl, ?_⟩
  simp only [State.keepQueue_sec, hhand, htag, (finish_quiet _ _ _ _ _ _).tt]

theorem moves_handshakeTimeout {h : Handshake} (hhand : s.sec.hand = some h) (htag : h.tag = none) (hlives : h.expired = false) :
    let t := s.elapse (ms 1000 + h.repliedAt)
    moves .handshakeTimeout s { t with sec := { t.sec with hand := some { h with expired := true } } } := by
  simp only [moves, exec, execHandshakeTimeout, hhand, htag, hlives, Option.isSome_none, Bool.or_self, Bool.false_eq_true, if_false]

theorem moves_finishCheckDone {f : FinishJob} (hfinish : s.sec.finish = some f) :
    moves .finishCheckDone s (State.finishCheck { s with sec := { s.sec with finish := none } } f) := by
  simp only [moves, exec, execFinishCheckDone, hfinish]

/-- What a map of the quizzes of a frame makes of one of them stands among them. -/
theorem mem_quizzes_mapQuiz {u : State} {q : Quiz} {fn : Nat} (hmem : q ∈ u.sec.quizzes) (hfn : q.fn = fn) (f : Quiz → Quiz) :
    f q ∈ (u.mapQuiz fn f).sec.quizzes :=
  List.mem_map.mpr ⟨q, hmem, if_pos hfn⟩

/-- What holds of every state with the quizzes and the frame of this one holds at the row of a quiz block, whether the frame reads it
(R635) or not. -/
theorem at_quizRow {P : State → Prop} (h : ∀ u : State, u.sec = s.sec → u.tt.fn = s.tt.fn → P u) (row : Option Int) :
    P (match row with
      | some p => s.elapse (s.slotTime (16 * p))
      | none => s) := by
  cases row with
  | none => exact h s rfl rfl
  | some p => exact h _ (State.elapse_sec s _) (State.elapse_fn s _)

/-- A quiz block is marked as read in every quiz of the frame (R635). -/
def State.readQuizBlock (u : State) (b : QuizBlock) : State :=
  u.mapQuiz u.tt.fn (fun q => q.mapBlocks (fun c => if c = b then { c with read := true } else c))

theorem exec_popQuizEvent {n : Nat} {b : QuizBlock}
    (hblock : (s.sec.quizzes.find? (fun q => q.fn == s.tt.fn)).bind (fun q => q.blocks[n]?) = some b) :
    ∃ u : State, u.sec = s.sec ∧ u.tt.fn = s.tt.fn ∧ exec (.popQuizEvent n) s = .next (s.keepQueue (u.readQuizBlock b)) := by
  change ∃ u : State, u.sec = s.sec ∧ u.tt.fn = s.tt.fn ∧ execPopQuizEvent n s = _
  unfold execPopQuizEvent
  rw [hblock]
  dsimp only
  generalize readRp s.live (4 * b.by_ + 48) = row
  exact at_quizRow (P := fun t => ∃ u : State, u.sec = s.sec ∧ u.tt.fn = s.tt.fn ∧
    Host.Outcome.next (s.keepQueue (t.readQuizBlock b)) = .next (s.keepQueue (u.readQuizBlock b)))
    (fun u hsec hfn => ⟨u, hsec, hfn, rfl⟩) row

theorem popQuizEvent_reads {n : Nat} {b : QuizBlock}
    (hblock : (s.sec.quizzes.find? (fun q => q.fn == s.tt.fn)).bind (fun q => q.blocks[n]?) = some b) :
    ∃ t q, exec (.popQuizEvent n) s = .next t ∧ q ∈ t.sec.quizzes ∧ q.fn = s.tt.fn ∧ { b with read := true } ∈ q.blocks := by
  obtain ⟨q, hfind, hget⟩ := Option.bind_eq_some_iff.mp hblock
  have hfn : q.fn = s.tt.fn := by simpa using List.find?_some hfind
  obtain ⟨u, hsec, hufn, hexec⟩ := exec_popQuizEvent hblock
  have hmem : q ∈ u.sec.quizzes := by
    rw [hsec]
    exact List.mem_of_find?_eq_some hfind
  exact ⟨_, _, hexec, mem_quizzes_mapQuiz hmem (hfn.trans hufn.symm) _, hfn,
    List.mem_map.mpr ⟨b, List.mem_of_getElem? hget, if_pos rfl⟩⟩

theorem moves_alarmDetect {source : Nat} (hsource : source < 9) (hruns : s.coreRuns = true) :
    moves (.alarmDetect source) s ((if source = 6 then s.wr F.SEC_STAT_RNG_OK 0 else s).alarm source) := by
  have hpowered : s.sys.phase ≠ .unpowered ∧ s.sys.phase ≠ .reset := by
    constructor <;> intro hphase <;> simp [State.coreRuns, hphase] at hruns
  have hacts : ¬ (9 ≤ source || s.sys.phase == .unpowered || s.sys.phase == .reset) = true := by
    simp [hsource, hpowered]
  exact moves_of_row rfl (if_neg hacts)

end

/-- Settles O32: each row of the OTP and of the Prefect. -/
theorem securityEventsAct : Obligations.SecurityEventsAct := fun _ =>
  ⟨fun _ _ _ _ short loose hjob hwords => otpWordProgrammed_blows hjob hwords short loose,
    fun _ _ hhand htag => handshakeDone_answers hhand htag,
    fun _ hhand htag hlives => moves_handshakeTimeout hhand htag hlives,
    fun _ hfinish => moves_finishCheckDone hfinish, fun _ _ hblock => popQuizEvent_reads hblock,
    fun _ hsource hruns => moves_alarmDetect hsource hruns⟩

/-! ### Dependability -/

section
variable {s : State}

theorem moves_watchdog (hrun : s.saf.wdogRun = true) : moves .watchdog s ((s.elapse (s.saf.kickAt + s.wdogTime)).restartFor 9) :=
  moves_of_row rfl (if_pos hrun)

theorem moves_lockstep (hruns : s.coreRuns = true) : moves .lockstep s (s.restartFor 8) := moves_of_row rfl (if_pos hruns)

section
variable (hruns : s.coreRuns = true) {m : Nat} (hm : m ≤ 6)
include hruns hm

/-- An uncorrectable error of one of the seven memories is counted before it acts. -/
theorem exec_memUncorr :
    exec (.memUncorr m) s = .next (s.keepQueue (if [0, 2, 5].contains m then
      State.restartFor (s.bump ⟨R.SAF_ECC0 + m, 16, 8⟩) 10 else s.bump ⟨R.SAF_ECC0 + m, 16, 8⟩)) := by
  have hacts : ¬ (!s.coreRuns || 6 < m) = true := by
    simp [hruns, hm]
  exact moves_of_row rfl (if_neg hacts)

theorem moves_memUncorr_restarts (hcode : m = 0 ∨ m = 2 ∨ m = 5) :
    moves (.memUncorr m) s ((s.bump ⟨R.SAF_ECC0 + m, 16, 8⟩).restartFor 10) :=
  moves_of_row (exec_memUncorr hruns hm) (if_pos (by simpa using hcode))

theorem moves_memUncorr_counts (h0 : m ≠ 0) (h2 : m ≠ 2) (h5 : m ≠ 5) :
    moves (.memUncorr m) s (s.bump ⟨R.SAF_ECC0 + m, 16, 8⟩) :=
  moves_of_row (exec_memUncorr hruns hm) (if_neg (by simp [h0, h2, h5]))

end

section
variable (hswitch : s.saf.switching ≠ none)
include hswitch

theorem moves_switchLoadDone :
    moves .switchLoadDone s (if s.imageFail (imageWid s.saf.target) = none then
      { s with saf := { s.saf with switchReady := true } } else s) := by
  have hsome : s.saf.switching.isSome = true := Option.isSome_iff_ne_none.mpr hswitch
  simp only [moves, exec, execSwitchLoadDone, hsome, Bool.true_and, Option.isNone_iff_eq_none]

theorem moves_switchTimeout (hready : s.saf.switchReady = false) :
    let t := s.elapse (ms 200 + s.saf.switchAt)
    moves .switchTimeout s (State.finishOp { t with saf := { t.saf with switching := none } } 0xD3 0x0C t.tt.fn []) := by
  have hacts : (s.saf.switching.isSome && !s.saf.switchReady) = true := by
    simp [Option.isSome_iff_ne_none.mpr hswitch, hready]
  exact moves_of_row rfl (if_pos hacts)

end

section
variable (hopen : s.isOpen 0xD2 = true)
include hopen

theorem moves_stageVerifyDone_stages (hgood : s.imageFail (imageWid s.stageTarget) = none) :
    let svn := bits (s.reg (wkey (imageWid s.stageTarget) 2)) 0 8
    moves .stageVerifyDone s
      (State.finishOp { s with saf := { s.saf with stage := 2, target := s.stageTarget, svnStaged := svn } } 0xD2 0 s.tt.fn [w32 svn]) := by
  simp only [moves, exec, execStageVerifyDone, hopen, hgood, Bool.not_true, Bool.false_eq_true, if_false]

theorem moves_stageVerifyDone_refuses {n : Nat} (hbad : s.imageFail (imageWid s.stageTarget) = some n) :
    moves .stageVerifyDone s (State.finishOp { s with saf := { s.saf with stage := 3 } } 0xD2 4 s.tt.fn [w32 (0xD2 + n * 256)]) := by
  simp only [moves, exec, execStageVerifyDone, hopen, hbad, Bool.not_true, Bool.false_eq_true, if_false]

end

theorem moves_selftestComplete {tests : Nat} (htests : s.saf.selftest = some tests) (passed : Nat) :
    let got := passed &&& tests
    moves (.selftestComplete passed) s (State.finishOp { s with saf := { s.saf with selftest := none, pinTest := false } } 0xE0
      (if got = tests then 0 else 0x0D) s.tt.fn [w32 got]) := by
  simp only [moves, exec, execSelftestComplete, htests]

end

/-- Settles O33: each row of dependability. -/
theorem dependabilityEventsAct : Obligations.DependabilityEventsAct := fun _ =>
  ⟨fun hrun => moves_watchdog hrun,
    fun hruns => ⟨moves_lockstep hruns, fun _ hm => ⟨fun hcode => moves_memUncorr_restarts hruns hm hcode,
      fun h0 h2 h5 => moves_memUncorr_counts hruns hm h0 h2 h5⟩⟩,
    fun hswitch => ⟨moves_switchLoadDone hswitch, fun hready => moves_switchTimeout hswitch hready⟩,
    fun hopen => ⟨fun hgood => moves_stageVerifyDone_stages hopen hgood, fun _ hbad => moves_stageVerifyDone_refuses hopen hbad⟩,
    fun _ passed htests => moves_selftestComplete htests passed⟩

end Sys2Proof.Machine
end


section
/-!
PROOF. The rows of housekeeping and heat (R565 to R587).
-/

namespace Sys2Proof.Machine

open Sys2Proof (Word Instr)

/-! ### Rounds, ticks and requests -/

section
variable {s : State}

section
variable (hpowered : s.powered = true)
include hpowered

theorem moves_hkFastRound_A (codes : List Nat) :
    let es := roundOf (s.seq 0) false
    let t := s.storeRound 0 codes
    moves (.hkFastRound 0 codes) s
      ((State.wr { t with hk := { t.hk with held := none, urgent := es.any (fun p => seqKind p.2 == 1) } }
        F.HK_STAT_FAST_US (min 63 (roundUs (s.hk.lastCh.getD 0 none) es))).watchA) := by
  have hacts : ¬ (!s.powered || 1 < 0) = true := by simp [hpowered]
  exact moves_of_row rfl ((if_neg hacts).trans (if_pos rfl))

theorem moves_hkFastRound_B (codes : List Nat) :
    let t := (s.storeRound 1 codes).heaterSense
    moves (.hkFastRound 1 codes) s (if (roundOf (s.seq 1) false).any (fun p => seqCh p.2 == 0x16) then t.watchB else t) := by
  have hacts : ¬ (!s.powered || 1 < 1) = true := by simp [hpowered]
  exact moves_of_row rfl ((if_neg hacts).trans (if_neg Nat.one_ne_zero))

theorem moves_hkTick (a b : List Nat) :
    let t := (((s.elapse (us 1024 + us 1024 * (s.tt.clk / us 1024))).seqTake.slowRound 0 a).slowRound 1 b).plausibility
    moves (.hkTick a b) s ((t.temperatures.stageWarn t).throttle.heaterPeriod).overTemp := by
  have hacts : ¬ (!s.powered) = true := by simp [hpowered]
  exact moves_of_row rfl (if_neg hacts)

theorem moves_urgentRequest (hurgent : s.hk.urgent = true) (codes : List Nat) : moves (.urgentRequest codes) s (s.sample codes) := by
  have hacts : (s.powered && s.hk.urgent) = true := by simp [hpowered, hurgent]
  exact moves_of_row rfl (if_pos hacts)

theorem moves_unsolicitedUrgentRequest (codes : List Nat) :
    moves (.unsolicitedUrgentRequest codes) s (if s.hk.urgent then s.sample codes else s.bump F.HK_URGDROP_COUNT) := by
  have hacts : ¬ (!s.powered) = true := by simp [hpowered]
  exact moves_of_row rfl (if_neg hacts)

theorem moves_unsolicitedUrgentRequest_samples (hurgent : s.hk.urgent = true) (codes : List Nat) :
    moves (.unsolicitedUrgentRequest codes) s (s.sample codes) := by
  simpa [hurgent] using moves_unsolicitedUrgentRequest hpowered codes

theorem moves_unsolicitedUrgentRequest_drops (hurgent : s.hk.urgent = false) (codes : List Nat) :
    moves (.unsolicitedUrgentRequest codes) s (s.bump F.HK_URGDROP_COUNT) := by
  simpa [hurgent] using moves_unsolicitedUrgentRequest hpowered codes

end

/-! ### Thermal states and the heater -/

theorem moves_graceExpiry (hgrace : s.thm.state = 1) :
    moves .graceExpiry s ((s.elapse (ms (100 * s.rd F.THM_CFG_GRACE) + s.thm.graceAt)).thmGo 2) :=
  moves_of_row rfl (if_pos hgrace)

/-- The time for which CLEAR has to hold in a thermal state, and the state that it then gives way to. -/
def clearGoes : Nat → Option (Nat × Nat)
  | 1 => some (1000, 0)
  | 2 => some (10000, 0)
  | 3 => some (10000, 2)
  | _ => none

theorem moves_clearHoldExpiry {x : Nat} (hclear : s.thm.clearAt = some x) {hold next : Nat} (hgoes : clearGoes s.thm.state = some (hold, next)) :
    moves .clearHoldExpiry s ((s.elapse (ms hold + x)).thmGo next) := by
  change execClearHoldExpiry s = _
  unfold execClearHoldExpiry
  rw [hclear]
  dsimp only
  unfold clearGoes at hgoes
  split at hgoes <;> simp_all

theorem moves_enf2Timeout (henf1 : s.thm.state = 2) (hwarm : s.warnLevel ≤ s.tMax) :
    moves .enf2Timeout s ((s.elapse (ms (1000 * max 1 (s.rd F.THM_CFG_ENF2_S)) + s.thm.since)).thmGo 3) :=
  moves_of_row rfl (if_pos ⟨henf1, hwarm⟩)

theorem moves_heaterPwmOff (hon : s.thm.htrOn = true) :
    let t := s.elapse (us (s.rd F.THM_HTRSTAT_ONTIME) + us 1024 * (s.tt.clk / us 1024))
    moves .heaterPwmOff s { t with thm := { t.thm with htrOn := false } } :=
  moves_of_row rfl (if_pos hon)

theorem powered_of_phase (hphase : s.sys.phase ≠ .unpowered) : s.powered = true := by
  simp [State.powered, hphase]

end

/-- Settles O31: each row of housekeeping and heat. -/
theorem housekeepingEventsAct : Obligations.HousekeepingEventsAct := fun _ =>
  ⟨fun hphase =>
    have hpowered := powered_of_phase hphase
    ⟨fun codes => moves_hkFastRound_A hpowered codes, fun codes => moves_hkFastRound_B hpowered codes,
      fun a b => moves_hkTick hpowered a b,
      fun codes => ⟨fun hurgent => ⟨moves_urgentRequest hpowered hurgent codes, moves_unsolicitedUrgentRequest_samples hpowered hurgent codes⟩,
        fun hurgent => moves_unsolicitedUrgentRequest_drops hpowered hurgent codes⟩⟩,
    fun hgrace => moves_graceExpiry hgrace,
    fun _ hclear => ⟨fun h => moves_clearHoldExpiry hclear (by rw [h]; rfl), fun h => moves_clearHoldExpiry hclear (by rw [h]; rfl),
      fun h => moves_clearHoldExpiry hclear (by rw [h]; rfl)⟩,
    fun henf1 hwarm => moves_enf2Timeout henf1 hwarm, fun hon => moves_heaterPwmOff hon⟩

end Sys2Proof.Machine
end


section
/-!
PROOF. The rows of the recorder (R641 to R655): records, eMMC commands, clips, mounts and the wear check.
-/

namespace Sys2Proof.Machine

open Sys2Proof (Word Instr)

section
variable {s : State}

/-! ### Records, eMMC commands and post windows -/

theorem moves_chalkboardAdd {f : RecFrame} (hformed : s.rec_.formed = some f) :
    let t : State := { s with rec_ := { s.rec_ with formed := none } }
    moves .chalkboardAdd s (if t.ringRuns then t.addFrame f else t) := by
  simp only [moves, exec, execChalkboardAdd, hformed]

theorem moves_emmcCommandDone {j : EmmcJob} {js : List EmmcJob} (hjobs : s.rec_.jobs = j :: js) (good : Bool) :
    let t : State := { s with rec_ := { s.rec_ with jobs := js } }
    moves (.emmcCommandDone good) s (State.emmcIdle (if good then t.emmcDone j else t.emmcFailed j)) := by
  simp only [moves, exec, execEmmcCommandDone, hjobs]

theorem moves_postWindowEnd {c : OpenClip} (hpost : s.rec_.opens.find? (fun d => d.post) = some c)
    (hpassed : s.tt.run = false ∨ seqLe (fnNext c.last) s.tt.fn = true) :
    moves .postWindowEnd s (s.mapClips (fun d => if d.id = c.id then { d with post := false } else d)) := by
  have hends : (s.tt.run && !seqLe (fnNext c.last) s.tt.fn) = false := by
    rcases hpassed with h | h <;> simp [h]
  simp only [moves, exec, execPostWindowEnd, hpost, hends, Bool.false_eq_true, if_false]

/-! ### A clip committed (R652) -/

/-- A REC_UNMOUNT that waits changes neither the open clips nor the committed ones when it is looked at. -/
theorem pumpUnmount_clips (s : State) : s.pumpUnmount.rec_.opens = s.rec_.opens ∧ s.pumpUnmount.rec_.clips = s.rec_.clips := by
  unfold State.pumpUnmount
  split
  · split <;> exact ⟨rfl, rfl⟩
  · exact ⟨rfl, rfl⟩

theorem clipWriteComplete_commits {c : OpenClip} (hwritten : s.rec_.opens.find? (fun d => !d.post) = some c) :
    ∃ t x, exec .clipWriteComplete s = .next t ∧ t.rec_.opens = s.rec_.opens.filter (fun d => d.id != c.id) ∧
      t.rec_.clips = s.rec_.clips ++ [x] ∧ x.units.head? = some c.unit := by
  simp only [exec, execClipWriteComplete, hwritten]
  refine ⟨_, ?clip, rfl, ?opens, ?clips, ?units⟩
  case opens => rw [State.keepQueue_rec_, (pumpUnmount_clips _).1, (event_quiet _ _ _).rec_]
  case clips => rw [State.keepQueue_rec_, (pumpUnmount_clips _).2, (event_quiet _ _ _).rec_]
  case units => rfl

/-! ### Mounts (R645) -/

theorem mountEnd_rec (s : State) (mount st : Nat) (pl : List Word) :
    (s.mountEnd mount st pl).rec_ = { s.rec_ with mount := mount, mountTag := none, format := false } := by
  unfold State.mountEnd
  split
  · exact (finish_quiet _ _ _ _ _ _).rec_
  · rfl

section
variable (hmounts : s.rec_.mount = 1)
include hmounts

theorem moves_mountComplete_of_silence (b : Bool) : moves (.mountComplete false b) s ((s.faultC 19).mountEnd 3 0x0C [0xC1#32]) := by
  simp only [moves, exec, execMountComplete, hmounts, bne_self_eq_false, Bool.false_eq_true, if_false, Bool.not_false, if_true]

theorem mountComplete_formats (hformat : s.rec_.format = true) (b : Bool) :
    ∃ t, exec (.mountComplete true b) s = .next t ∧ t.rec_.mount = 2 ∧ t.rec_.clips = [] ∧ t.rec_.journal = [] ∧
      t.rec_.superblock = true := by
  simp only [exec, execMountComplete, hmounts, hformat, bne_self_eq_false, Bool.false_eq_true, if_false, Bool.not_true, if_true]
  exact ⟨_, rfl, by simp [mountEnd_rec]⟩

section
variable (hplain : s.rec_.format = false)
include hplain

theorem moves_mountComplete_unformatted : moves (.mountComplete true false) s (s.mountEnd 0 0x0C [0xC2#32]) := by
  simp only [moves, exec, execMountComplete, hmounts, hplain, bne_self_eq_false, Bool.false_eq_true, if_false, Bool.not_true,
    Bool.not_false, if_true]

theorem mountComplete_keeps_clips :
    ∃ t, exec (.mountComplete true true) s = .next t ∧ t.rec_.mount = 2 ∧ t.rec_.clips = s.rec_.clips := by
  simp only [exec, execMountComplete, hmounts, hplain, bne_self_eq_false, Bool.false_eq_true, if_false, Bool.not_true]
  exact ⟨_, rfl, by simp [mountEnd_rec, State.bumpBy]⟩

end

end

/-! ### The wear check (R653) -/

section
variable (hmounted : s.rec_.mount = 2) {e : Nat} (a b : Nat)
include hmounted

theorem exec_wearCheck :
    let t := s.elapse (ms 60000 + s.rec_.wearAt)
    let u := State.setReg { t with rec_ := { t.rec_ with wearAt := t.tt.clk } } R.REC_WEAR (w32 (a % 16 + b % 16 * 16 + e % 4 * 256))
    exec (.wearCheck a b e) s = .next (s.keepQueue (if 2 ≤ e % 4 then (u.wr F.REC_STAT_WEAR_WARN 1).faultC 19 else u)) := by
  have hacts : ¬ (s.rec_.mount != 2) = true := by simp [hmounted]
  exact moves_of_row rfl (if_neg hacts)

theorem moves_wearCheck_notes (hgood : e % 4 < 2) :
    let t := s.elapse (ms 60000 + s.rec_.wearAt)
    moves (.wearCheck a b e) s
      (State.setReg { t with rec_ := { t.rec_ with wearAt := t.tt.clk } } R.REC_WEAR (w32 (a % 16 + b % 16 * 16 + e % 4 * 256))) :=
  moves_of_row (exec_wearCheck hmounted a b) (if_neg (Nat.not_le.mpr hgood))

theorem moves_wearCheck_warns (hworn : 2 ≤ e % 4) :
    let t := s.elapse (ms 60000 + s.rec_.wearAt)
    let u := State.setReg { t with rec_ := { t.rec_ with wearAt := t.tt.clk } } R.REC_WEAR (w32 (a % 16 + b % 16 * 16 + e % 4 * 256))
    moves (.wearCheck a b e) s ((u.wr F.REC_STAT_WEAR_WARN 1).faultC 19) :=
  moves_of_row (exec_wearCheck hmounted a b) (if_pos hworn)

end

end

/-- Settles O35: each row of the recorder. -/
theorem recorderEventsAct : Obligations.RecorderEventsAct := fun _ =>
  ⟨fun _ hformed => moves_chalkboardAdd hformed, fun good _ _ hjobs => moves_emmcCommandDone hjobs good,
    fun _ hpost hpassed => moves_postWindowEnd hpost hpassed, fun _ hwritten => clipWriteComplete_commits hwritten,
    fun hmounts => ⟨fun b => moves_mountComplete_of_silence hmounts b, fun hformat b => mountComplete_formats hmounts hformat b,
      fun hplain => moves_mountComplete_unformatted hmounts hplain, fun hplain => mountComplete_keeps_clips hmounts hplain⟩,
    fun a b _ hmounted => ⟨fun hgood => moves_wearCheck_notes hmounted a b hgood, fun hworn => moves_wearCheck_warns hmounted a b hworn⟩⟩

end Sys2Proof.Machine
end


section
/-!
PROOF. The rows of the converters of the power die (R542 to R557): voltage commands, VID frames, phase sheds, Recess and MTP writes.
-/

namespace Sys2Proof.Machine

open Sys2Proof (Word Instr)

section
variable {s : State}

/-- A row leaves in the registers what it made of them. -/
theorem keepQueue_rd (s t : State) (f : Fld) : (s.keepQueue t).rd f = t.rd f := State.rd_congr rfl

/-! ### Voltage commands (R544) -/

section
variable {rail : Nat} {c : Vcmd} (hcmd : s.vcmdOf rail = some c)
include hcmd

theorem moves_vcmdDone :
    let t := (s.elapse (s.slewAt rail + s.nearTime rail)).vcmdEnd c 0 2
    moves (.vcmdDone rail) s (if rail = 6 then { t with pwr := { t.pwr with pgood := t.pwr.pgood ||| 64 } } else t) := by
  simp only [moves, exec, execVcmdDone, hcmd]

theorem moves_vcmdTimeout :
    moves (.vcmdTimeout rail) s
      (((s.elapse (us 200 + (s.slewAt rail + s.slewTime rail))).wr F.PWR_STAT_VCMD_TO 1).vcmdEnd c 0x0B 0xB) := by
  simp only [moves, exec, execVcmdTimeout, hcmd]

end

/-! ### VID frames (R546) -/

/-- The 24 bits of a VID frame, its TID and its code. -/
def vidWord (b : Nat) : Word := w32 (b % 2 ^ 24)
def vidTid (b : Nat) : Nat := bits (vidWord b) 16 4
def vidCode (b : Nat) : Nat := bits (vidWord b) 8 8

/-- Whether a VID frame has its sync and its CRC-8. -/
def vidGood (b : Nat) : Bool :=
  bits (vidWord b) 20 4 == 0xA && crc8 [w8 (bits (vidWord b) 16 8), w8 (vidCode b)] == bits (vidWord b) 0 8

theorem vidGood_iff (b : Nat) : vidGood b = true ↔
    bits (vidWord b) 20 4 = 0xA ∧ crc8 [w8 (bits (vidWord b) 16 8), w8 (vidCode b)] = bits (vidWord b) 0 8 := by
  simp [vidGood]

/-- A frame acknowledged: its TID and status in the register of VCMP and on the port. -/
def State.vidDone (s : State) (tid st : Nat) : State :=
  (s.wrs [(F.PWR_VCMP_LAST_TID, tid), (F.PWR_VCMP_LAST_ST, st)]).vidAnswer tid st

theorem vidDone_pwr (s : State) (tid st : Nat) : (s.vidDone tid st).pwr = { s.pwr with vidOut := tid * 16 + st } := by
  rw [State.vidDone, State.vidAnswer, (wrs_quiet _ _).pwr]

theorem wrs_two (s : State) (f g : Fld) (v w : Nat) : s.wrs [(f, v), (g, w)] = (s.wr f v).wr g w := rfl

/-- An acknowledgement leaves the code of VCMP. -/
theorem vidDone_code (s : State) (tid st : Nat) : (s.vidDone tid st).rd F.PWR_VCMP_CODE = s.rd F.PWR_VCMP_CODE := by
  have hanswer : ∀ t : State, (t.vidAnswer tid st).rd F.PWR_VCMP_CODE = t.rd F.PWR_VCMP_CODE := fun t => State.rd_congr rfl
  rw [State.vidDone, hanswer, wrs_two, State.rd_wr_other (by decide) (by decide), State.rd_wr_other (by decide) (by decide)]

/-- The two newest TIDs, the one given with its status before the others (R546). -/
def State.noteTid (s : State) (tid st : Nat) : State :=
  { s with pwr := { s.pwr with tids := ((tid, st) :: s.pwr.tids.filter (fun p => p.1 != tid)).take 2 } }

theorem exec_vidFrame (b : Nat) : exec (.vidFrame b) s = .next (s.keepQueue (
    if s.pwr.vin < 450 then s
    else if vidGood b && vidCode b == 0xFF then s.vidAnswer (vidTid b) (s.tidStatus (vidTid b))
    else if !vidGood b || 211 ≤ vidCode b || !s.tst F.PWR_VCMP_OWNER then s.vidDone (vidTid b) 4
    else if s.pwr.vcmpOn && s.pwr.cmds.all (fun c => c.rail != 6) && vidCode b == s.rd F.PWR_VCMP_CODE then
      (s.noteTid (vidTid b) 2).vidDone (vidTid b) 2
    else ((s.vcmpGo (vidCode b) none (some (vidTid b))).noteTid (vidTid b) 1).vidDone (vidTid b) 1)) := rfl

theorem vcmpGo_pwr (s : State) (code : Nat) (tag tid : Option Nat) :
    (s.vcmpGo code tag tid).pwr.vcmpOn = true ∧ (s.vcmpGo code tag tid).pwr.vcmpFrom = s.vcmpNow ∧
      (s.vcmpGo code tag tid).pwr.vcmpAt = s.tt.clk := by
  refine ⟨rfl, rfl, ?_⟩
  change (s.vcmdNew _).tt.clk = s.tt.clk
  rw [State.vcmdNew, foldl_vcmdEnd_tt]

theorem vcmpGo_code {code : Nat} (hcode : code < 256) (s : State) (tag tid : Option Nat) :
    (s.vcmpGo code tag tid).rd F.PWR_VCMP_CODE = code := by
  rw [State.vcmpGo, State.rd_wr_same (by decide)]
  exact Nat.mod_eq_of_lt hcode

section
variable {b : Nat}

theorem moves_vidFrame_of_low (hlow : s.pwr.vin < 450) : moves (.vidFrame b) s s := moves_of_row (exec_vidFrame b) (if_pos hlow)

section
variable (hvin : 450 ≤ s.pwr.vin)
include hvin

theorem moves_vidFrame_polls (hgood : vidGood b = true) (hpoll : vidCode b = 0xFF) :
    moves (.vidFrame b) s (s.vidAnswer (vidTid b) (s.tidStatus (vidTid b))) :=
  moves_of_row (exec_vidFrame b) ((if_neg (Nat.not_lt.mpr hvin)).trans (if_pos (by simp [hgood, hpoll])))

theorem moves_vidFrame_refuses (hnew : ¬ vidGood b = true ∨ vidCode b ≠ 0xFF)
    (hbad : ¬ vidGood b = true ∨ 211 ≤ vidCode b ∨ s.tst F.PWR_VCMP_OWNER = false) : moves (.vidFrame b) s (s.vidDone (vidTid b) 4) := by
  have hpoll : ¬ (vidGood b && vidCode b == 0xFF) = true := by
    rcases hnew with h | h <;> simp [h]
  have hrefused : (!vidGood b || 211 ≤ vidCode b || !s.tst F.PWR_VCMP_OWNER) = true := by
    rcases hbad with h | h | h <;> simp [h]
  exact moves_of_row (exec_vidFrame b) ((if_neg (Nat.not_lt.mpr hvin)).trans ((if_neg hpoll).trans (if_pos hrefused)))

theorem vidFrame_refuses (hnew : ¬ vidGood b = true ∨ vidCode b ≠ 0xFF)
    (hbad : ¬ vidGood b = true ∨ 211 ≤ vidCode b ∨ s.tst F.PWR_VCMP_OWNER = false) :
    ∃ t, exec (.vidFrame b) s = .next t ∧ t.pwr.vidOut = vidTid b * 16 + 4 ∧ t.pwr.vcmpOn = s.pwr.vcmpOn ∧
      t.rd F.PWR_VCMP_CODE = s.rd F.PWR_VCMP_CODE := by
  refine ⟨_, moves_vidFrame_refuses hvin hnew hbad, ?_, ?_, ?_⟩
  · rw [State.keepQueue_pwr, vidDone_pwr]
  · rw [State.keepQueue_pwr, vidDone_pwr]
  · rw [keepQueue_rd, vidDone_code]

section
variable (hgood : vidGood b = true) (hcode : vidCode b < 211) (howner : s.tst F.PWR_VCMP_OWNER = true)
include hgood hcode howner

theorem exec_vidFrame_asks : exec (.vidFrame b) s = .next (s.keepQueue (
    if s.pwr.vcmpOn && s.pwr.cmds.all (fun c => c.rail != 6) && vidCode b == s.rd F.PWR_VCMP_CODE then
      (s.noteTid (vidTid b) 2).vidDone (vidTid b) 2
    else ((s.vcmpGo (vidCode b) none (some (vidTid b))).noteTid (vidTid b) 1).vidDone (vidTid b) 1)) := by
  have hpoll : ¬ (vidGood b && vidCode b == 0xFF) = true := by
    have hne : vidCode b ≠ 0xFF := by omega
    simp [hne]
  have hasks : ¬ (!vidGood b || 211 ≤ vidCode b || !s.tst F.PWR_VCMP_OWNER) = true := by
    simp [hgood, hcode, howner]
  exact moves_of_row (exec_vidFrame b) ((if_neg (Nat.not_lt.mpr hvin)).trans ((if_neg hpoll).trans (if_neg hasks)))

theorem vidFrame_has_done (hon : s.pwr.vcmpOn = true) (hfree : s.pwr.cmds.all (fun c => c.rail != 6) = true)
    (hsame : vidCode b = s.rd F.PWR_VCMP_CODE) :
    ∃ t, exec (.vidFrame b) s = .next t ∧ t.pwr.vidOut = vidTid b * 16 + 2 ∧ t.pwr.cmds = s.pwr.cmds := by
  have hdone : (s.pwr.vcmpOn && s.pwr.cmds.all (fun c => c.rail != 6) && vidCode b == s.rd F.PWR_VCMP_CODE) = true := by
    rw [hon, hfree, hsame]
    simp
  refine ⟨_, moves_of_row (exec_vidFrame_asks hvin hgood hcode howner) (if_pos hdone), ?_, ?_⟩
  · rw [State.keepQueue_pwr, vidDone_pwr]
  · rw [State.keepQueue_pwr, vidDone_pwr]
    rfl

theorem vidFrame_goes
    (hnew : ¬ (s.pwr.vcmpOn = true ∧ s.pwr.cmds.all (fun c => c.rail != 6) = true ∧ vidCode b = s.rd F.PWR_VCMP_CODE)) :
    ∃ t, exec (.vidFrame b) s = .next t ∧ t.pwr.vidOut = vidTid b * 16 + 1 ∧ t.pwr.vcmpOn = true ∧
      t.rd F.PWR_VCMP_CODE = vidCode b ∧ t.pwr.vcmpFrom = s.vcmpNow ∧ t.pwr.vcmpAt = s.tt.clk := by
  have hgoes : ¬ (s.pwr.vcmpOn && s.pwr.cmds.all (fun c => c.rail != 6) && vidCode b == s.rd F.PWR_VCMP_CODE) = true := by
    rwa [Bool.and_eq_true, Bool.and_eq_true, beq_iff_eq, and_assoc]
  obtain ⟨hon, hfrom, hat⟩ := vcmpGo_pwr s (vidCode b) none (some (vidTid b))
  refine ⟨_, moves_of_row (exec_vidFrame_asks hvin hgood hcode howner) (if_neg hgoes), ?_, ?_, ?_, ?_, ?_⟩
  · rw [State.keepQueue_pwr, vidDone_pwr]
  · rw [State.keepQueue_pwr, vidDone_pwr]
    exact hon
  · rw [keepQueue_rd, vidDone_code]
    exact vcmpGo_code (by omega) s _ _
  · rw [State.keepQueue_pwr, vidDone_pwr]
    exact hfrom
  · rw [State.keepQueue_pwr, vidDone_pwr]
    exact hat

end

end

end

/-! ### Phases and Recess (R542, R543, R551) -/

/-- What forbids a shed (R498, R542, R543). -/
def State.shedOff (s : State) : Bool :=
  !s.tst F.PWR_SHED_SHED_EN || s.tt.lstep || s.wiresFailed || s.pwr.holdEnd.isSome || s.rd F.PWR_SHED_ACTIVE ≤ 1

theorem shedOff_iff (s : State) : s.shedOff = true ↔ s.tst F.PWR_SHED_SHED_EN = false ∨ s.tt.lstep = true ∨
    s.sys.rollFails.testBit 5 = true ∨ s.pwr.holdEnd ≠ none ∨ s.rd F.PWR_SHED_ACTIVE ≤ 1 := by
  simp [State.shedOff, State.wiresFailed, or_assoc, Option.isSome_iff_ne_none]

theorem moves_phaseShed : moves .phaseShed s
    (if s.shedOff then s else s.wr F.PWR_SHED_ACTIVE (clearBit (s.rd F.PWR_SHED_ACTIVE) (s.rd F.PWR_SHED_ACTIVE).log2)) := rfl

theorem moves_shedHoldExpiry {x : Nat} (hhold : s.pwr.holdEnd = some x) :
    let t := s.elapse x
    moves .shedHoldExpiry s { t with pwr := { t.pwr with holdEnd := none } } := by
  simp only [moves, exec, execShedHoldExpiry, hhold]

theorem moves_recessResume_of_wires (hwires : s.sys.rollFails.testBit 5 = true) : moves .recessResume s s := by
  have hnever : ¬ (!s.tt.lstep && !s.wiresFailed && (s.sys.mode == 0x7 || (s.sys.mode == 0x2 && s.tst F.PWR_RECESS_STBY))) = true := by
    simp [State.wiresFailed, hwires]
  exact moves_of_row rfl (if_neg hnever)

theorem moves_recessResume (hwires : s.sys.rollFails.testBit 5 = false) (hlstep : s.tt.lstep = false)
    (hmode : s.sys.mode = 0x7 ∨ s.sys.mode = 0x2 ∧ s.tst F.PWR_RECESS_STBY = true) :
    let t := s.elapse (us (64 * 1000 / max 1 (s.rd F.PWR_CORE_FSW_KHZ)) + s.tt.clk)
    moves .recessResume s (State.wr { t with pwr := { t.pwr with recess := true } } F.PWR_SHED_ACTIVE 1) := by
  have hacts : (!s.tt.lstep && !s.wiresFailed && (s.sys.mode == 0x7 || (s.sys.mode == 0x2 && s.tst F.PWR_RECESS_STBY))) = true := by
    rcases hmode with h | ⟨h, hstby⟩
    · simp [State.wiresFailed, hwires, hlstep, h]
    · simp [State.wiresFailed, hwires, hlstep, h, hstby]
  exact moves_of_row rfl (if_pos hacts)

/-! ### Writes of the MTP (R553, R557) -/

section
variable {w : MtpWrite} {ws : List MtpWrite} (hqueue : s.sys.mtpQueue = w :: ws)
include hqueue

theorem moves_mtpWriteDone : moves .mtpWriteDone s ((s.elapse (us (60 * w.words.length) + s.tt.clk)).mtpWrite) := by
  simp only [moves, exec, execMtpWriteDone, hqueue]

theorem mtpWrite_queue : s.mtpWrite.sys.mtpQueue = ws := by
  simp only [State.mtpWrite, hqueue]
  split
  · rw [(finish_quiet _ _ _ _ _ _).sys]
    rfl
  · rfl

/-- The words of a write other than of a report card stand in the MTP from its key on. -/
theorem reg_mtpWrite (hkey : w.key ≠ 0) {i : Nat} (hi : i < w.words.length) (hstat : w.key + i ≠ R.LNK_STAT) :
    s.mtpWrite.reg (w.key + i) = w.words.getD i 0#32 := by
  simp only [State.mtpWrite, hqueue, if_neg hkey]
  split
  · rw [reg_finish hstat]
    exact Mem.get_setRun_same _ hi
  · exact Mem.get_setRun_same _ hi

end

theorem mtpWriteDone_writes {w : MtpWrite} {ws : List MtpWrite} (hqueue : s.sys.mtpQueue = w :: ws) (hkey : w.key ≠ 0) :
    ∃ t, exec .mtpWriteDone s = .next t ∧ t.sys.mtpQueue = ws ∧
      ∀ i : Nat, i < w.words.length → nonvolatile (w.key + i) = true → t.reg (w.key + i) = w.words.getD i 0#32 := by
  have hlater : (s.elapse (us (60 * w.words.length) + s.tt.clk)).sys.mtpQueue = w :: ws := by
    rw [State.elapse_sys]
    exact hqueue
  refine ⟨_, moves_mtpWriteDone hqueue, mtpWrite_queue hlater, fun i hi hkeeps => reg_mtpWrite hlater hkey hi ?_⟩
  rintro heq
  rw [heq] at hkeeps
  exact absurd hkeeps (by decide)

end

/-- Settles O22: each row of the converters and of the MTP. -/
theorem railEventsAct : Obligations.RailEventsAct := fun s =>
  ⟨fun _ _ hcmd => ⟨moves_vcmdDone hcmd, moves_vcmdTimeout hcmd⟩,
    fun b => by
      have hgood := vidGood_iff b
      refine ⟨fun hlow => moves_vidFrame_of_low hlow, fun hvin hg hpoll => moves_vidFrame_polls hvin (hgood.mpr hg) hpoll,
        fun hvin hnew hbad => vidFrame_refuses hvin (hnew.imp_left (mt hgood.mp)) (hbad.imp_left (mt hgood.mp)),
        fun hvin hg hcode howner => ⟨fun hdone => ?_, fun hnew => vidFrame_goes hvin (hgood.mpr hg) hcode howner hnew⟩⟩
      obtain ⟨hon, hfree, hsame⟩ := hdone
      exact vidFrame_has_done hvin (hgood.mpr hg) hcode howner hon hfree hsame,
    ⟨fun hon => by simpa only [if_neg (mt (shedOff_iff s).mp hon)] using moves_phaseShed (s := s),
      fun hoff => by simpa only [if_pos ((shedOff_iff s).mpr hoff)] using moves_phaseShed (s := s)⟩,
    rfl, fun _ hhold => moves_shedHoldExpiry hhold, fun hwires => moves_recessResume_of_wires hwires,
    fun hwires hlstep hmode => moves_recessResume hwires hlstep hmode,
    fun _ _ hqueue => ⟨moves_mtpWriteDone hqueue, fun hkey => mtpWriteDone_writes hqueue hkey⟩⟩

end Sys2Proof.Machine
end


section
/-!
PROOF. What a fault leaves alone (R660), and the rows of the start and of the synthesisers (R494 to R503, R520 to R529).
-/

namespace Sys2Proof.Machine

open Sys2Proof (Word Instr)

/-! ### Faults -/

/-- `t` differs from `s` in the front end, the link, the words in force, the recorder and the fault counts alone. -/
def Recorded (s t : State) : Prop := t = { s with fe := t.fe, lnk := t.lnk, mem := t.mem, rec_ := t.rec_, saf := t.saf }

theorem Recorded.trans {s t u : State} (h : Recorded s t) (g : Recorded t u) : Recorded s u := by
  unfold Recorded at *
  rw [g, h]

theorem Quiet.recorded {s t : State} (h : Quiet s t) : Recorded s t := by
  rw [h]
  rfl

theorem Recorded.sys {s t : State} (h : Recorded s t) : t.sys = s.sys := by rw [h]
theorem Recorded.clk {s t : State} (h : Recorded s t) : t.clk = s.clk := by rw [h]
theorem Recorded.tt {s t : State} (h : Recorded s t) : t.tt = s.tt := by rw [h]
theorem Recorded.pb {s t : State} (h : Recorded s t) : t.pb = s.pb := by rw [h]

theorem eraseUntil_recorded (fits : State → Bool) (n : Nat) (s : State) : Recorded s (State.eraseUntil fits n s) := by
  induction n generalizing s with
  | zero => rfl
  | succ n ih =>
    unfold State.eraseUntil
    split
    · rfl
    · split
      next c _ =>
        have herased : Recorded s (s.eraseClip c.id) := rfl
        exact herased.trans (ih _)
      · rfl

theorem recEvent_recorded (s : State) (source : Nat) (protect : Bool) (user : Word) (pics : List RecFrame) (coding : Bool) :
    Recorded s (s.recEvent source protect user pics coding).2 := by
  unfold State.recEvent
  extract_lets e pre post want before per est fits t
  split
  · rfl
  split
  · rfl
  have hroom : Recorded s t := by
    unfold t
    split
    · exact eraseUntil_recorded _ _ _
    · rfl
  split
  · rfl
  split
  · rfl
  · exact hroom.trans rfl

theorem recRaise_recorded (s : State) (source : Nat) (pics : List RecFrame) (coding : Bool) :
    Recorded s (s.recRaise source pics coding) := by
  unfold State.recRaise
  extract_lets r
  split
  · exact recEvent_recorded s source false 0#32 pics coding
  · exact (bump_quiet _ _).recorded

theorem fault_recorded (s : State) (id detail : Nat) : Recorded s (s.fault id detail) := by
  unfold State.fault
  split
  · rfl
  · extract_lets t u v counts w x
    have hevent : Recorded s x := Recorded.trans (t := w) rfl (event_quiet w _ _).recorded
    split
    · exact hevent.trans (recRaise_recorded x _ _ _)
    · exact hevent

/-! ### The synthesisers -/

section
variable {s : State}

theorem pll_congr {s t : State} (hclk : t.clk = s.clk) (n : Nat) : t.pll n = s.pll n := congrArg (fun c : Clk => c.plls.getD n _) hclk

theorem pll_mapPll_same {n : Nat} (hn : n < s.clk.plls.length) (f : Pll → Pll) : (s.mapPll n f).pll n = f (s.pll n) := by
  simp [State.pll, State.mapPll, List.getD_eq_getElem?_getD, hn]

theorem pll_mapPll_other {m n : Nat} (hother : m ≠ n) (f : Pll → Pll) : (s.mapPll n f).pll m = s.pll m := by
  simp [State.pll, State.mapPll, List.getD_eq_getElem?_getD, Ne.symm hother]

theorem relock_clk (s : State) (n : Nat) :
    (s.relock n).clk = (s.mapPll n (fun _ => ⟨1, s.tt.clk, (s.planFor n).isNone, s.pllCorr n, false⟩)).clk := by
  unfold State.relock
  extract_lets t
  split
  · exact (linkDown_streams t).clk
  · rfl

theorem relock_length (s : State) (n : Nat) : (s.relock n).clk.plls.length = s.clk.plls.length := by
  rw [relock_clk]
  exact List.length_modify _ _ _

theorem relock_locks {n : Nat} (hn : n < s.clk.plls.length) : ((s.relock n).pll n).state = 1 := by
  rw [pll_congr (relock_clk s n), pll_mapPll_same hn]

theorem pll_relock_other {m n : Nat} (hother : m ≠ n) : (s.relock n).pll m = s.pll m := by
  rw [pll_congr (relock_clk s n), pll_mapPll_other hother]

/-- A synthesiser that holds locks again when the reference returns (R524). -/
def State.lockAgain (s : State) (n : Nat) : State := if (s.pll n).state = 3 then s.relock n else s

theorem lockAgain_length (s : State) (n : Nat) : (s.lockAgain n).clk.plls.length = s.clk.plls.length := by
  unfold State.lockAgain
  split
  · exact relock_length s n
  · rfl

/-- One that locks goes on locking, and one that holds either holds on or locks. -/
theorem lockAgain_keeps {m : Nat} (hm : m < s.clk.plls.length) (n : Nat) (hlocks : (s.pll m).state = 1) :
    ((s.lockAgain n).pll m).state = 1 := by
  unfold State.lockAgain
  split
  · by_cases hmn : m = n
    · rw [← hmn]
      exact relock_locks hm
    · rw [pll_relock_other hmn, hlocks]
  · exact hlocks

theorem lockAgain_locks {m : Nat} (hm : m < s.clk.plls.length) (hholds : (s.pll m).state = 3) : ((s.lockAgain m).pll m).state = 1 := by
  rw [State.lockAgain, if_pos hholds]
  exact relock_locks hm

theorem lockAgain_other {m n : Nat} (hother : m ≠ n) : (s.lockAgain n).pll m = s.pll m := by
  unfold State.lockAgain
  split
  · exact pll_relock_other hother
  · rfl

theorem foldl_lockAgain_keeps {m : Nat} : ∀ (l : List Nat) {s : State}, m < s.clk.plls.length → (s.pll m).state = 1 →
    ((l.foldl State.lockAgain s).pll m).state = 1
  | [], _, _, hlocks => hlocks
  | n :: l, s, hm, hlocks => foldl_lockAgain_keeps l ((lockAgain_length s n).symm ▸ hm) (lockAgain_keeps hm n hlocks)

theorem foldl_lockAgain_locks {m : Nat} : ∀ (l : List Nat) {s : State}, m < s.clk.plls.length → m ∈ l → (s.pll m).state = 3 →
    ((l.foldl State.lockAgain s).pll m).state = 1
  | [], _, _, hmem, _ => absurd hmem List.not_mem_nil
  | n :: l, s, hm, hmem, hholds => by
    have hm' : m < (s.lockAgain n).clk.plls.length := (lockAgain_length s n).symm ▸ hm
    by_cases hmn : m = n
    · subst hmn
      exact foldl_lockAgain_keeps l hm' (lockAgain_locks hm hholds)
    · refine foldl_lockAgain_locks l hm' ((List.mem_cons.mp hmem).resolve_left hmn) ?_
      rw [lockAgain_other hmn, hholds]

/-! ### A lock that is done (R521, R498) -/

theorem enterTrain_trains (s : State) : s.enterTrain.lnk.state = 1 := rfl

theorem enterTrain_streams (s : State) : Streams s s.enterTrain := (abortAll_streams s 3).trans (lnk_quiet _ _).streams

theorem clockFaultEnd_quiet (s : State) : Quiet s s.clockFaultEnd := by
  unfold State.clockFaultEnd
  split
  · exact setReg_quiet _ _ _
  · rfl

theorem storePlan_plls (s : State) (n : Nat) (w0 w1 : Word) : (s.storePlan n w0 w1).clk.plls = s.clk.plls := rfl
theorem storePlan_sys (s : State) (n : Nat) (w0 w1 : Word) : (s.storePlan n w0 w1).sys = s.sys := rfl

/-- A lock that is done changes of the synthesisers the one alone, of `Sys` nothing, and that of PLL-L lets the link train. -/
theorem pllLocked_acts (s : State) (n band kvco : Nat) :
    (s.pllLocked n band kvco).clk.plls = s.clk.plls.modify n (fun q => { q with state := 2, search := false }) ∧
      (s.pllLocked n band kvco).sys = s.sys ∧ (n = 2 → (s.pllLocked n band kvco).lnk.state = 1) := by
  unfold State.pllLocked
  extract_lets p t m d found plan u v w
  have ht : t.clk.plls = s.clk.plls ∧ t.sys = s.sys := ⟨congrArg Clk.plls (State.elapse_clk _ _), State.elapse_sys _ _⟩
  obtain ⟨hplls, hsys⟩ := ht
  have hu : u.clk.plls = s.clk.plls ∧ u.sys = s.sys := by
    unfold u
    split
    · exact ⟨(storePlan_plls _ _ _ _).trans hplls, (storePlan_sys _ _ _ _).trans hsys⟩
    · exact ⟨hplls, hsys⟩
  have hv : Quiet u v := Quiet.trans (setRun_quiet u _ _) (wrs_quiet _ _)
  have hw := clockFaultEnd_quiet (v.mapPll n (fun q => { q with state := 2, search := false }))
  have hwplls : w.clk.plls = s.clk.plls.modify n (fun q => { q with state := 2, search := false }) := by
    rw [hw.clk, State.mapPll, hv.clk, hu.1]
  have hwsys : w.sys = s.sys := by
    rw [hw.sys, State.mapPll, hv.sys, hu.2]
  split
  · exact ⟨(congrArg Clk.plls (enterTrain_streams w).clk).trans hwplls, (enterTrain_streams w).sys.trans hwsys, fun _ => enterTrain_trains w⟩
  next hother => exact ⟨hwplls, hwsys, fun hn => absurd hn hother⟩

/-- Every synthesiser is locked once the last one is. -/
theorem plls_locked_of_last {n : Nat} (hlen : s.clk.plls.length = 4) (hothers : ∀ m, m < 4 → m ≠ n → (s.pll m).state = 2) {t : State}
    (hplls : t.clk.plls = s.clk.plls.modify n (fun q => { q with state := 2, search := false })) :
    t.clk.plls.all (fun p => p.state == 2) = true := by
  refine List.all_eq_true.mpr fun p hp => ?_
  rw [hplls] at hp
  obtain ⟨m, hm, rfl⟩ := List.mem_iff_getElem.mp hp
  rw [List.length_modify] at hm
  rw [List.getElem_modify]
  split
  · rfl
  next hne =>
    have hstate := hothers m (hlen ▸ hm) (Ne.symm hne)
    rw [State.pll, List.getD_eq_getElem _ _ hm] at hstate
    exact beq_iff_eq.mpr hstate

/-! ### Roll Call (R498, R499) -/

/-- `t` has the synthesisers of `s`, and differs from it in `Sys` in the failed bonds, in what comes of a failure, and in the writes
that wait for the MTP alone. -/
def KeepsRoll (s t : State) : Prop :=
  t.clk = s.clk ∧ t.sys = { s.sys with
    bonds := t.sys.bonds, black := t.sys.black, limpDue := t.sys.limpDue, mtpQueue := t.sys.mtpQueue }

theorem KeepsRoll.trans {s t u : State} (h : KeepsRoll s t) (g : KeepsRoll t u) : KeepsRoll s u := by
  refine ⟨g.1.trans h.1, ?_⟩
  rw [g.2, h.2]

theorem Recorded.keepsRoll {s t : State} (h : Recorded s t) : KeepsRoll s t := ⟨h.clk, by rw [h.sys]⟩

theorem Quiet.keepsRoll {s t : State} (h : Quiet s t) : KeepsRoll s t := h.recorded.keepsRoll

theorem KeepsRoll.rollDone {s t : State} (h : KeepsRoll s t) : t.sys.rollDone = s.sys.rollDone := by rw [h.2]
theorem KeepsRoll.rollUs {s t : State} (h : KeepsRoll s t) : t.sys.rollUs = s.sys.rollUs := by rw [h.2]

theorem limpFor_keepsRoll (s : State) (cause : Nat) : KeepsRoll s (s.limpFor cause) := by
  unfold State.limpFor
  split
  · exact ⟨rfl, rfl⟩
  · split <;> exact ⟨rfl, rfl⟩

theorem card_keepsRoll (s : State) (cause rail : Nat) (detail : List Word) : KeepsRoll s (s.card cause rail detail) := ⟨rfl, rfl⟩

theorem rollLimp_keepsRoll (s : State) (black : Bool) : KeepsRoll s (s.rollLimp black) := by
  unfold State.rollLimp
  extract_lets sys t
  have hblack : KeepsRoll s t := ⟨rfl, rfl⟩
  exact ((hblack.trans (fault_recorded t _ _).keepsRoll).trans (card_keepsRoll _ _ _ _)).trans (limpFor_keepsRoll _ _)

theorem bondsFound_keepsRoll (s : State) (bonds : List (Nat × Nat)) : KeepsRoll s (s.bondsFound bonds) := by
  unfold State.bondsFound
  extract_lets bad sys t u v
  have ht : KeepsRoll s t := ⟨rfl, rfl⟩
  have hu : KeepsRoll s u := ht.trans (wrs_quiet _ t).keepsRoll
  have hv : KeepsRoll s v := by
    unfold v
    split
    · exact hu.trans (wrs_quiet _ u).keepsRoll
    · exact hu
  split
  · exact hv.trans (fault_recorded v _ _).keepsRoll
  · exact hv

theorem rollPart1_acts (s : State) (r : RollCall) :
    (s.rollPart1 r).clk = s.clk ∧ (s.rollPart1 r).sys.rollDone = true ∧ (s.rollPart1 r).sys.rollUs = r.us % 65536 := by
  unfold State.rollPart1
  extract_lets fails t sys u v w x
  have hclk : u.clk = s.clk := State.elapse_clk _ _
  have hv : KeepsRoll u v := bondsFound_keepsRoll u _
  have hw : KeepsRoll u w := by
    unfold w
    split
    · exact hv.trans (rollLimp_keepsRoll v _)
    split
    · exact hv.trans (rollLimp_keepsRoll v _)
    · exact hv
  have hx : KeepsRoll u x := by
    unfold x
    split
    · exact hw.trans (wr_quiet w _ _).keepsRoll
    · exact hw
  have hend : KeepsRoll u (if fails / 32 % 4 != 0 then (x.faultC 7).card 0x0A 0xFF [] else x) := by
    split
    · exact (hx.trans (fault_recorded x _ _).keepsRoll).trans (card_keepsRoll _ _ _ _)
    · exact hx
  exact ⟨hend.1.trans hclk, hend.rollDone, hend.rollUs⟩

/-! ### The rows of the synthesisers (R520 to R529) -/

theorem pllLocked_locks {n : Nat} (hn : n < s.clk.plls.length) (band kvco : Nat) {t : State}
    (hplls : t.clk.plls = (s.pllLocked n band kvco).clk.plls) : (t.pll n).state = 2 := by
  rw [(pllLocked_acts s n band kvco).1] at hplls
  rw [State.pll, hplls]
  simp [List.getD_eq_getElem?_getD, hn]

section
variable {n : Nat} (hlocking : (s.pll n).state = 1) (band kvco : Nat) (roll : RollCall)
include hlocking

theorem exec_pllLockDone : exec (.pllLockDone n band kvco roll) s = .next (s.keepQueue (
    if (s.pllLocked n band kvco).sys.phase == .boot && !(s.pllLocked n band kvco).sys.rollDone &&
        (s.pllLocked n band kvco).clk.plls.all (fun p => p.state == 2)
    then (s.pllLocked n band kvco).rollPart1 roll else s.pllLocked n band kvco)) := by
  have hacts : ¬ ((s.pll n).state != 1) = true := by simp [hlocking]
  exact moves_of_row rfl (if_neg hacts)

theorem pllLockDone_of_run (hn : n < s.clk.plls.length) (hrun : s.sys.phase = .run) :
    ∃ t, exec (.pllLockDone n band kvco roll) s = .next t ∧ (t.pll n).state = 2 ∧ t.sys = s.sys ∧ (n = 2 → t.lnk.state = 1) := by
  obtain ⟨-, hsys, hlink⟩ := pllLocked_acts s n band kvco
  have hlate : ¬ ((s.pllLocked n band kvco).sys.phase == .boot && !(s.pllLocked n band kvco).sys.rollDone &&
      (s.pllLocked n band kvco).clk.plls.all (fun p => p.state == 2)) = true := by
    rw [hsys, hrun]
    simp
  refine ⟨_, moves_of_row (exec_pllLockDone hlocking band kvco roll) (if_neg hlate), pllLocked_locks hn band kvco rfl, ?_, ?_⟩
  · rw [State.keepQueue_sys, hsys]
  · rw [State.keepQueue_lnk]
    exact hlink

theorem pllLockDone_of_last (hlen : s.clk.plls.length = 4) (hn : n < 4) (hboot : s.sys.phase = .boot) (hroll : s.sys.rollDone = false)
    (hothers : ∀ m, m < 4 → m ≠ n → (s.pll m).state = 2) :
    ∃ t, exec (.pllLockDone n band kvco roll) s = .next t ∧ (t.pll n).state = 2 ∧ t.sys.rollDone = true ∧
      t.sys.rollUs = roll.us % 65536 := by
  obtain ⟨hplls, hsys, -⟩ := pllLocked_acts s n band kvco
  obtain ⟨hclk, hdone, hus⟩ := rollPart1_acts (s.pllLocked n band kvco) roll
  have hlast : ((s.pllLocked n band kvco).sys.phase == .boot && !(s.pllLocked n band kvco).sys.rollDone &&
      (s.pllLocked n band kvco).clk.plls.all (fun p => p.state == 2)) = true := by
    rw [hsys, hboot, hroll, plls_locked_of_last hlen hothers hplls]
    rfl
  refine ⟨_, moves_of_row (exec_pllLockDone hlocking band kvco roll) (if_pos hlast), ?_, ?_, ?_⟩
  · refine pllLocked_locks (hlen ▸ hn) band kvco ?_
    rw [State.keepQueue_clk, hclk]
  · rw [State.keepQueue_sys, hdone]
  · rw [State.keepQueue_sys, hus]

theorem moves_planLockTimeout (hplan : (s.pll n).search = false) :
    let t := s.elapse ((s.pll n).at_ + us 200)
    moves (.planLockTimeout n) s (t.mapPll n (fun q => { q with search := true, at_ := t.tt.clk })) := by
  have hacts : ¬ ((s.pll n).state != 1 || (s.pll n).search) = true := by simp [hlocking, hplan]
  rw [Nat.add_comm]
  exact moves_of_row rfl (if_neg hacts)

end

theorem moves_lossOfLock {n : Nat} (hlocked : (s.pll n).state = 2) :
    moves (.lossOfLock n) s (((s.bump ⟨pllAddr n 1, 16, 8⟩).fault 5 n).relock n) := by
  have hacts : ¬ ((s.pll n).state != 2) = true := by simp [hlocked]
  exact moves_of_row rfl (if_neg hacts)

theorem moves_referenceLost (hruns : ∃ p ∈ s.clk.plls, p.state ≠ 0 ∧ p.state ≠ 3) :
    let held := s.clk.plls.map (fun (p : Pll) => if p.state = 0 then p else { p with state := 3, ring := p.ring || p.state == 1 })
    moves .referenceLost s ((State.bump { s with clk := { s.clk with plls := held } } F.CLK_REFLOSS_COUNT).fault 5 0) := by
  have hacts : ¬ s.clk.plls.all (fun p => p.state == 0 || p.state == 3) = true := by
    obtain ⟨p, hp, h0, h3⟩ := hruns
    intro hall
    simpa [h0, h3] using List.all_eq_true.mp hall p hp
  exact moves_of_row rfl (if_neg hacts)

theorem referenceReturn_locks (hlen : s.clk.plls.length = 4) (hhold : ∀ n, n < 4 → (s.pll n).state = 3) :
    ∃ t, exec .referenceReturn s = .next t ∧ ∀ n, n < 4 → (t.pll n).state = 1 := by
  have hrow : exec .referenceReturn s = .next (s.keepQueue ((List.range 4).foldl State.lockAgain s)) := rfl
  refine ⟨_, hrow, fun n hn => ?_⟩
  rw [pll_congr (State.keepQueue_clk _ _)]
  exact foldl_lockAgain_locks (List.range 4) (hlen ▸ hn) (List.mem_range.mpr hn) (hhold n hn)

/-- A locked synthesiser slewed to a correction (R527). -/
def State.slewPll (c : Int) (u : State) (n : Nat) : State := if (u.pll n).state = 2 then u.mapPll n (fun p => { p with applied := c }) else u

theorem slewPll_same {n : Nat} (hn : n < s.clk.plls.length) (hlocked : (s.pll n).state = 2) (c : Int) :
    (State.slewPll c s n).pll n = { s.pll n with applied := c } := by
  rw [State.slewPll, if_pos hlocked, pll_mapPll_same hn]

theorem slewPll_other {m n : Nat} (hother : m ≠ n) (c : Int) : (State.slewPll c s n).pll m = s.pll m := by
  unfold State.slewPll
  split
  · exact pll_mapPll_other hother _
  · rfl

theorem slewPll_length (c : Int) (n : Nat) : (State.slewPll c s n).clk.plls.length = s.clk.plls.length := by
  unfold State.slewPll
  split
  · exact List.length_modify _ _ _
  · rfl

theorem foldl_range_two {α : Type} (f : α → Nat → α) (a : α) : (List.range 2).foldl f a = f (f a 0) 1 := rfl

section
variable (hlocked0 : (s.pll 0).state = 2) (hlocked1 : (s.pll 1).state = 2)
include hlocked0 hlocked1

/-- How far the locked ones of the two that slew are off is not 0 while PLL-0 is off. -/
theorem slew_far (hoff : (s.pll 0).applied ≠ s.corrPpm) :
    (((List.range 2).filter (fun n => (s.pll n).state == 2)).map (fun n => (s.corrPpm - (s.pll n).applied).natAbs)).foldl max 0 ≠ 0 := by
  simp only [List.range_succ, List.range_zero, List.nil_append, List.cons_append, List.filter_cons, hlocked0, hlocked1, BEq.rfl, if_true,
    List.filter_nil, List.map_cons, List.map_nil, List.foldl_cons, List.foldl_nil]
  omega

theorem slewComplete_applies (hlen : s.clk.plls.length = 4) (hoff : (s.pll 0).applied ≠ s.corrPpm) :
    ∃ t, exec .slewComplete s = .next t ∧ (t.pll 0).applied = s.corrPpm ∧ (t.pll 1).applied = s.corrPpm := by
  obtain ⟨u, hclk, hrow⟩ : ∃ u : State, u.clk = s.clk ∧
      exec .slewComplete s = .next (s.keepQueue ((List.range 2).foldl (State.slewPll s.corrPpm) u)) :=
    ⟨_, State.elapse_clk _ _, moves_of_row rfl (if_neg (slew_far hlocked0 hlocked1 hoff))⟩
  rw [foldl_range_two] at hrow
  have h0 : (u.pll 0).state = 2 := (pll_congr hclk 0).symm ▸ hlocked0
  have h1 : (u.pll 1).state = 2 := (pll_congr hclk 1).symm ▸ hlocked1
  have hulen : u.clk.plls.length = 4 := hclk.symm ▸ hlen
  have hother : (State.slewPll s.corrPpm u 0).pll 1 = u.pll 1 := slewPll_other (by decide) _
  refine ⟨_, hrow, ?_, ?_⟩
  · rw [pll_congr (State.keepQueue_clk _ _), slewPll_other (by decide), slewPll_same (by omega) h0]
  · rw [pll_congr (State.keepQueue_clk _ _), slewPll_same (by rw [slewPll_length]; omega) (hother.symm ▸ h1)]

end

/-! ### The rows of the start (R494 to R503) -/

theorem putFrame_sys (s : State) (period vtw : Nat) (stretch : Bool) : (s.putFrame period vtw stretch).sys = s.sys :=
  (wrs_quiet _ _).sys

theorem putHrFrame_sys (s : State) (ws : List Word) : (s.putHrFrame ws).sys = s.sys := putFrame_sys _ _ _ _

theorem putWarm_sys (s : State) (w : List Word) : (s.putWarm w).sys = s.sys := (wrs_quiet _ s).sys

theorem startSettings_sys (s : State) : s.startSettings.sys = s.sys := by
  unfold State.startSettings
  extract_lets ws t u
  have ht : t.sys = s.sys := (putHrFrame_sys _ _).trans (putWords_quiet _ _ _).sys
  dsimp only
  unfold u
  split
  · exact (putWarm_sys _ _).trans ht
  · exact ht

/-- With the DRAM passed and no self-test failed, the row brings the settings of the start after its notes (R498, R500). -/
theorem exec_dramReady (hboot : s.sys.phase = .boot) (hwaits : s.sys.dramReady = false) (hroll : s.sys.rollDone = true) :
    ∃ u : State, exec (.dramReady true 1000 0) s = .next (s.keepQueue u.startSettings) ∧ u.sys.dramReady = true ∧
      u.sys.rollUs2 = 1000 := by
  have hacts : ¬ (s.sys.phase != .boot || s.sys.dramReady || !s.sys.rollDone) = true := by
    simp [hboot, hwaits, hroll]
  obtain ⟨el, hel⟩ : ∃ el, State.elapse s = el := ⟨_, rfl⟩
  change ∃ u : State, execDramReady true 1000 0 s = _ ∧ _
  unfold execDramReady
  rw [hel, if_neg hacts]
  simp only [Nat.zero_testBit, Bool.false_eq_true, if_false, if_true]
  exact ⟨_, rfl, rfl, rfl⟩

theorem dramReady_notes (hboot : s.sys.phase = .boot) (hwaits : s.sys.dramReady = false) (hroll : s.sys.rollDone = true) :
    ∃ t, exec (.dramReady true 1000 0) s = .next t ∧ t.sys.dramReady = true ∧ t.sys.rollUs2 = 1000 := by
  obtain ⟨u, hrow, hready, hus⟩ := exec_dramReady hboot hwaits hroll
  refine ⟨_, hrow, ?_, ?_⟩
  · rw [State.keepQueue_sys, startSettings_sys, hready]
  · rw [State.keepQueue_sys, startSettings_sys, hus]

theorem quickCalDone_tt (s : State) (sums : List (Int × Int)) : (s.quickCalDone sums).tt = s.tt := by
  unfold State.quickCalDone State.setTable State.noteBad
  extract_lets t marked
  change (State.tt (match marked.getLast? with | some n => _ | none => _)) = _
  split <;> rfl

theorem quickCalibration_starts (sums : List (Int × Int)) (hboot : s.sys.phase = .boot) (hready : s.sys.dramReady = true) :
    let c := (s.elapse (us 256 + s.tt.clk)).quickCalDone sums
    ∃ t, exec (.quickCalibration sums) s = .next t ∧ t.sys.phase = .run ∧ t.tt.clk = us 256 + s.tt.clk ∧
      t.tt.startDue = some (t.tt.clk + leadSlots c.live * rpRaw c.live) := by
  have hacts : ¬ (s.sys.phase != .boot || !s.sys.dramReady) = true := by
    simp [hboot, hready]
  intro c
  have hclk : c.tt.clk = us 256 + s.tt.clk := by
    rw [quickCalDone_tt, elapse_tt_clk]
    exact max_eq_right (Nat.le_add_left _ _)
  exact ⟨_, moves_of_row rfl (if_neg hacts), rfl, hclk, rfl⟩

theorem held_finish (s : State) (op tag st fn : Nat) (pl : List Word) : (s.finish op tag st fn pl).fe.held = s.fe.held := by
  unfold State.finish
  split
  · rfl
  · unfold State.reply
    extract_lets c
    split
    · rw [fe_put]
    · rfl

/-- The commands begun are answered with nothing else of them left, and no held packet is taken (R502). -/
theorem answerBegun_acts (s : State) :
    Quiet s.dropTags s.answerBegun ∧ s.answerBegun.fe.held = s.fe.held := by
  refine ⟨foldl_quiet _ (fun t (o : OpenCmd) => finish_quiet t _ _ _ _ _) _ _, ?_⟩
  unfold State.answerBegun
  have hkeeps : ∀ (l : List OpenCmd) (t : State),
      (l.foldl (fun t o => t.finish o.op o.tag 0x0C t.tt.fn [w32 0xFE]) t).fe.held = t.fe.held := fun l => by
    induction l with
    | nil => exact fun _ => rfl
    | cons o l ih => exact fun t => (ih _).trans (held_finish t _ _ _ _ _)
  exact hkeeps _ _

theorem pump_of_none_held (hheld : s.fe.held = []) : s.pump = s := by
  rw [State.pump, hheld]
  rfl

theorem fwTakes_acts (s : State) : s.fwTakes.fe.held = s.fe.held ∧ s.fwTakes.sys.fw = .running ∧ s.fwTakes.saf.wdogRun = true ∧
    s.fwTakes.saf.kickAt = s.tt.clk := by
  unfold State.fwTakes
  extract_lets sys saf t u
  have hu : u.fe.held = s.fe.held ∧ u.sys.fw = .running ∧ u.saf.wdogRun = true ∧ u.saf.kickAt = s.tt.clk := by
    unfold u
    split
    · obtain ⟨hquiet, hheld⟩ := answerBegun_acts t
      exact ⟨hheld, by rw [hquiet.sys]; rfl, by rw [hquiet.saf]; rfl, by rw [hquiet.saf]; rfl⟩
    · exact ⟨rfl, rfl, rfl, rfl⟩
  split
  · exact hu
  · exact hu

section
variable (hruns : s.coreRuns = true)
include hruns

section
variable (himage : s.sys.imageGood = true) (hheld : s.fe.held = [])
include himage hheld

theorem moves_firmwareReady_of_rom (hrom : s.sys.fw = .rom) :
    moves .firmwareReady s { s with sys := { s.sys with fwReady := true } } := by
  have hready : s.firmwareReady = { s with sys := { s.sys with fwReady := true } } := by
    simp only [State.firmwareReady, hruns, himage, hrom, Bool.not_true, Bool.or_self, Bool.false_eq_true, if_false]
  refine moves_of_row (t := s.firmwareReady.pump) rfl ?_
  rw [hready]
  exact pump_of_none_held hheld

theorem firmwareReady_takes (hrestarts : s.sys.fw = .restarting) :
    ∃ t, exec .firmwareReady s = .next t ∧ t.sys.fw = .running ∧ t.saf.wdogRun = true ∧ t.saf.kickAt = s.tt.clk := by
  have hready : s.firmwareReady = s.fwTakes := by
    simp only [State.firmwareReady, hruns, himage, hrestarts, Bool.not_true, Bool.or_self, Bool.false_eq_true, if_false]
  obtain ⟨hkeeps, hfw, hdog, hkick⟩ := fwTakes_acts s
  have hpump : s.firmwareReady.pump = s.fwTakes := by
    rw [hready]
    exact pump_of_none_held (hkeeps.trans hheld)
  exact ⟨_, moves_of_row (t := s.firmwareReady.pump) rfl hpump, hfw, hdog, hkick⟩

end

theorem moves_takeoverTimeout (hrom : s.sys.fw = .rom) (hwaits : s.sys.fwReady = false) :
    moves .takeoverTimeout s ((s.elapse (ms 400 + s.sys.origin)).limpFor 2) := by
  have hacts : (s.coreRuns && s.sys.fw == .rom && !s.sys.fwReady) = true := by
    simp [hruns, hrom, hwaits]
  exact moves_of_row rfl (if_pos hacts)

theorem moves_healthTestPass : moves .healthTestPass s (s.wr F.SEC_STAT_RNG_OK 1) := by
  have hpowered : s.sys.phase ≠ .unpowered ∧ s.sys.phase ≠ .reset := by
    constructor <;> intro hphase <;> simp [State.coreRuns, hphase] at hruns
  have hacts : ¬ (s.sys.phase == .unpowered || s.sys.phase == .reset) = true := by
    simp [hpowered]
  exact moves_of_row rfl (if_neg hacts)

end

end

/-- Settles O23: each row of the start and of the synthesisers. -/
theorem startEventsAct : Obligations.StartEventsAct := fun _ =>
  ⟨fun _ band kvco roll hn hlen hlocking =>
      ⟨fun hrun => pllLockDone_of_run hlocking band kvco roll (hlen.symm ▸ hn) hrun,
        fun hboot hroll hothers => pllLockDone_of_last hlocking band kvco roll hlen hn hboot hroll hothers⟩,
    fun _ hlocking hplan => moves_planLockTimeout hlocking hplan, fun _ hlocked => moves_lossOfLock hlocked,
    fun hruns => moves_referenceLost hruns, fun hlen _ hhold => referenceReturn_locks hlen hhold,
    fun hlen hlocked0 hlocked1 hoff => slewComplete_applies hlocked0 hlocked1 hlen hoff,
    fun hboot hwaits hroll => dramReady_notes hboot hwaits hroll, fun sums hboot hready => quickCalibration_starts sums hboot hready,
    fun hruns himage hheld => ⟨fun hrom => moves_firmwareReady_of_rom hruns himage hheld hrom,
      fun hrestarts => firmwareReady_takes hruns himage hheld hrestarts⟩,
    fun hruns hrom hwaits => moves_takeoverTimeout hruns hrom hwaits, fun hruns => moves_healthTestPass hruns⟩

end Sys2Proof.Machine
end


section
/-!
PROOF. The rows of the companion (R301 to R324): its delays, transfers, frames and loss.
-/

namespace Sys2Proof.Machine

open Sys2Proof (Word Instr)

section
variable {s : State}

/-! ### Delays (R304, R311) -/

section
variable (hstate : s.pb.state = 1)
include hstate

theorem exec_companionPowerupDelay (hstep : 1 ≤ s.pb.step) (hlast : s.pb.step ≤ 3) :
    exec .companionPowerupDelay s = .next (s.keepQueue (
      let t := s.elapse (us (100 * bits (s.prof 5) (8 * (s.pb.step - 1)) 8) + s.pb.since)
      let t := { t with pb := { t.pb with since := t.tt.clk, step := t.pb.step + 1 } }
      if s.pb.step = 1 then { t with pb := { t.pb with pwdn := false } }
      else if s.pb.step = 2 then { t with pb := { t.pb with rstN := true } }
      else State.initAll { t with pb := { t.pb with state := 2, step := 0 } } 0)) := by
  have hacts : ¬ (s.pb.state ≠ 1 ∨ s.pb.step = 0 ∨ 3 < s.pb.step) := by omega
  exact moves_of_row rfl (if_neg hacts)

theorem moves_companionPowerupDelay_pwdn (hstep : s.pb.step = 1) :
    let t := s.elapse (us (100 * bits (s.prof 5) (8 * (s.pb.step - 1)) 8) + s.pb.since)
    moves .companionPowerupDelay s { t with pb := { t.pb with since := t.tt.clk, step := t.pb.step + 1, pwdn := false } } :=
  moves_of_row (exec_companionPowerupDelay hstate (by omega) (by omega)) (if_pos hstep)

theorem moves_companionPowerupDelay_reset (hstep : s.pb.step = 2) :
    let t := s.elapse (us (100 * bits (s.prof 5) (8 * (s.pb.step - 1)) 8) + s.pb.since)
    moves .companionPowerupDelay s { t with pb := { t.pb with since := t.tt.clk, step := t.pb.step + 1, rstN := true } } :=
  moves_of_row (exec_companionPowerupDelay hstate (by omega) (by omega)) ((if_neg (by omega)).trans (if_pos hstep))

theorem moves_companionPowerupDelay_init (hstep : s.pb.step = 3) :
    let t := s.elapse (us (100 * bits (s.prof 5) (8 * (s.pb.step - 1)) 8) + s.pb.since)
    moves .companionPowerupDelay s (State.initAll { t with pb := { t.pb with since := t.tt.clk, state := 2, step := 0 } } 0) :=
  moves_of_row (exec_companionPowerupDelay hstate (by omega) (by omega)) ((if_neg (by omega)).trans (if_neg (by omega)))

end

theorem moves_companionPowerdownDelay_pwdn (hstep : s.pb.step = 4) :
    let t := s.elapse (us (100 * bits (s.prof 5) 8 8) + s.pb.since)
    moves .companionPowerdownDelay s { t with pb := { t.pb with pwdn := true, step := 5, since := t.tt.clk } } :=
  moves_of_row rfl (if_pos hstep)

theorem moves_companionPowerdownDelay_down (hstep : s.pb.step = 5) :
    let t := s.elapse (us (100 * bits (s.prof 5) 0 8) + s.pb.since)
    let u := State.wr { t with pb := { t.pb with state := 0, step := 0, bufs := [.free, .free] } } F.CLK_OUT0_RUN 0
    moves .companionPowerdownDelay s (u.faultEnd 16).pbDown := by
  have hlater : s.pb.step ≠ 4 := by omega
  exact moves_of_row rfl ((if_neg hlater).trans (if_pos hstep))

theorem moves_companionStartTimeout (hstate : s.pb.state = 3) (hstep : s.pb.step < 4) :
    moves .companionStartTimeout s ((s.elapse (ms 500 + s.pb.since)).pbError 0xB []) := by
  have hacts : ¬ (s.pb.state ≠ 3 ∨ 4 ≤ s.pb.step) := by omega
  exact moves_of_row rfl (if_neg hacts)

/-! ### The bus (R312 to R316) -/

theorem moves_writeSetBurst (hstate : s.pb.state = 4) (hnew : s.pb.opened ≠ some s.pb.cfn)
    (hdue : ∃ w ∈ s.pb.queue, w.due s.pb.cfn ≠ none) :
    let t := s.elapse (ns (bits (s.prof 8) 0 12 * s.pb.line) + s.pb.vsAt)
    let u : State := { t with pb := { t.pb with opened := some t.pb.cfn } }
    moves .writeSetBurst s (if u.pb.now = .idle then u.nextBus else u) := by
  have hacts : ¬ (s.pb.state != 4 || s.pb.opened == some s.pb.cfn || s.pb.queue.all (fun w => (w.due s.pb.cfn).isNone)) = true := by
    have hsome : s.pb.queue.all (fun w => (w.due s.pb.cfn).isNone) = false := by simpa [List.all_eq_false] using hdue
    simp [hstate, hnew, hsome]
  exact moves_of_row rfl (if_neg hacts)

section
variable {i : Nat} (hinit : s.pb.now = .init i) (data : Word) (late : Bool)
include hinit

theorem exec_i2cTransferDone_init (res : I2cResult) :
    let r := i2cReg (s.prof (74 + 2 * i)) (s.prof (75 + 2 * i))
    let t := s.elapse (ns (s.i2cNs r) + s.tt.clk)
    exec (.i2cTransferDone res data late) s = .next (s.keepQueue (
      if res = .ack then (t.landRole r).initAll (i + 1)
      else
        let t := t.i2cFail r res
        State.pbError { t with pb := { t.pb with rstN := false } } 0xC [w32 i])) := by
  simp only [exec, execI2cTransferDone, hinit]

end

theorem moves_i2cTransferDone_job {j : I2cJob} {js : List I2cJob} (hjob : s.pb.now = .job) (hjobs : s.pb.jobs = j :: js)
    (res : I2cResult) (data : Word) (late : Bool) :
    moves (.i2cTransferDone res data late) s
      (State.nextBus ((s.elapse (ns (s.i2cNs (j.regs.getD j.done ⟨0, 1, 0, 0#32⟩)) + s.tt.clk)).jobDone res data)) := by
  simp only [moves, exec, execI2cTransferDone, hjob, hjobs]

theorem moves_i2cTransferDone_set {tag i : Nat} {w : WriteSet} (hset : s.pb.now = .set tag i)
    (hfind : s.pb.queue.find? (fun w => w.tag == tag) = some w) (res : I2cResult) (data : Word) (late : Bool) :
    moves (.i2cTransferDone res data late) s
      (State.nextBus ((s.elapse (ns (s.i2cNs (w.regs.getD i (0, ⟨0, 1, 0, 0#32⟩)).2) + s.tt.clk)).setDone tag i res late)) := by
  simp only [moves, exec, execI2cTransferDone, hset, hfind]

/-! ### Frames (R303, R304, R323, R324) -/

/-- `t` has the companion of `s` but for its buffers and what the bus does. -/
def SameFrame (s t : State) : Prop := t.pb = { s.pb with bufs := t.pb.bufs, now := t.pb.now }

theorem SameFrame.trans {s t u : State} (h : SameFrame s t) (g : SameFrame t u) : SameFrame s u := by
  unfold SameFrame at *
  rw [g, h]

theorem Quiet.sameFrame {s t : State} (h : Quiet s t) : SameFrame s t := by
  unfold SameFrame
  rw [h.pb]

theorem land_quiet (s : State) (o : Overlay) : Quiet s (s.land o) := foldl_quiet _ (fun t (_ : Nat × Word) => setReg_quiet t _ _) o s

theorem pbDrop_quiet (s : State) (cfn cause : Nat) : Quiet s (s.pbDrop cfn cause) := Quiet.trans (bump_quiet s _) (event_quiet _ _ _)

theorem takeBuffer_sameFrame (s : State) (cfn : Nat) : SameFrame s (s.takeBuffer cfn) := by
  unfold State.takeBuffer
  split
  · rfl
  split
  · exact SameFrame.trans (t := { s with pb := { s.pb with bufs := _ } }) rfl (pbDrop_quiet _ _ _).sameFrame
  · rfl

theorem nextBus_sameFrame (s : State) : SameFrame s s.nextBus := rfl

/-- A frame broken off leaves of the companion all but its buffers and whether a frame is received. -/
theorem dropReceiving_pb (s : State) (cause : Nat) :
    (s.dropReceiving cause).pb = { s.pb with bufs := (s.dropReceiving cause).pb.bufs, receiving := (s.dropReceiving cause).pb.receiving } ∧
      (s.dropReceiving cause).tt = s.tt := by
  unfold State.dropReceiving
  split
  · rw [(pbDrop_quiet _ _ _).pb, (pbDrop_quiet _ _ _).tt]
    exact ⟨rfl, rfl⟩
  · exact ⟨rfl, rfl⟩

section
variable (after line : Nat) (hlow : 3 ≤ s.pb.state) (hhigh : s.pb.state ≤ 5) (hstep : s.pb.step < 4) (hqueue : s.pb.queue = [])
include hlow hhigh hstep hqueue

/-- With no write queued a frame start numbers the frame, and notes its time and line period. -/
theorem companionFrameStart_notes :
    ∃ t, exec (.companionFrameStart after line) s = .next t ∧
      t.pb.cfn = (if s.pb.state = 4 then fnNext s.pb.cfn else s.pb.cfn) ∧ t.pb.receiving = true ∧
      t.pb.line = line ∧ t.pb.taken = [] ∧ t.pb.vsAt = (s.elapse (ns after + s.tt.clk)).tt.clk := by
  have hpb : (s.elapse (ns after + s.tt.clk)).pb = s.pb := State.elapse_pb _ _
  change ∃ t, execCompanionFrameStart after line s = .next t ∧ _
  unfold execCompanionFrameStart
  obtain ⟨u, hu⟩ : ∃ u, s.elapse (ns after + s.tt.clk) = u := ⟨_, rfl⟩
  rw [hu] at hpb ⊢
  extract_lets v w pbw x pbx y z settled pbs landed filling
  have hacts : ¬ (v.pb.state < 3 ∨ 5 < v.pb.state ∨ 4 ≤ v.pb.step) := by
    unfold v
    rw [hpb]
    omega
  rw [if_neg hacts]
  obtain ⟨hw, hwtt⟩ := dropReceiving_pb v 3
  have hx : x.pb.cfn = (if s.pb.state = 4 then fnNext s.pb.cfn else s.pb.cfn) ∧ x.pb.queue = [] ∧ x.tt = u.tt := by
    have hwpb : w.pb.state = s.pb.state ∧ w.pb.cfn = s.pb.cfn ∧ w.pb.queue = [] := by
      rw [hw, ← hqueue, ← hpb]
      exact ⟨rfl, rfl, rfl⟩
    obtain ⟨hstate, hcfn, hempty⟩ := hwpb
    unfold x
    rw [hstate]
    split
    · exact ⟨congrArg fnNext hcfn, hempty, hwtt⟩
    · exact ⟨hcfn, hempty, hwtt⟩
  obtain ⟨hcfn, hempty, htt⟩ := hx
  have hz : z.pb = y.pb := (wrs_quiet _ y).pb
  have hsettled : settled = z := by
    have hnone : z.pb.queue = [] := by
      rw [hz]
      exact hempty
    unfold settled
    rw [hnone]
    rfl
  have hlanded : landed.pb = { y.pb with taken := [] } := by
    rw [(land_quiet _ _).pb, ← hz, ← hsettled]
  have hend : SameFrame landed (if filling.pb.now = .idle then filling.nextBus else filling) := by
    have hfilling : SameFrame landed filling := takeBuffer_sameFrame _ _
    split
    · exact hfilling.trans (nextBus_sameFrame filling)
    · exact hfilling
  refine ⟨_, rfl, ?_⟩
  rw [State.keepQueue_pb, hend, hlanded]
  exact ⟨hcfn, rfl, rfl, rfl, congrArg Tt.clk htt⟩

end

/-- The companion runs with a whole frame that was neither late nor overrun; its first one answers the command (R303, R324). -/
def State.companionRuns (s : State) (cfn : Nat) (first : Bool) : State :=
  let u := (State.wr { s with pb := { s.pb with receiving := false, state := 4, cfn := cfn } } F.PB_CFN_CFN cfn).faultEnd 16
  if first then u.pbFinal 0 [w32 cfn] else u

theorem pbFinal_pb (s : State) (st : Nat) (pl : List Word) : (s.pbFinal st pl).pb = { s.pb with tag := none } := by
  unfold State.pbFinal
  split
  · rw [(finish_quiet _ _ _ _ _ _).pb]
  next hnone => rw [← hnone]

theorem companionRuns_pb (s : State) (cfn : Nat) (first : Bool) :
    (s.companionRuns cfn first).pb.receiving = false ∧ (s.companionRuns cfn first).pb.state = 4 ∧
      (s.companionRuns cfn first).pb.cfn = cfn := by
  unfold State.companionRuns
  extract_lets pb u
  split
  · rw [pbFinal_pb]
    exact ⟨rfl, rfl, rfl⟩
  · exact ⟨rfl, rfl, rfl⟩

section
variable {frame : CompFrame} (hreceives : s.pb.receiving = true) (hroom : frame.overflow = false) (hintime : frame.late = false)
  (hlines : frame.lines.length = s.profLines.1 + s.profLines.2.1 + s.profLines.2.2)
  (hwidths : frame.lines.all (fun l => l.length == bits (s.prof 2) 0 12) = true)
include hreceives hroom hintime hlines hwidths

/-- A whole frame that is neither late nor overrun leaves the companion running, whatever is made of its picture. -/
theorem exec_companionFrameEnd_whole :
    ∃ u : State, exec (.companionFrameEnd frame) s = .next (s.keepQueue (u.companionRuns
      (if s.pb.state = 3 then 0 else if s.pb.state = 5 then fnNext s.pb.cfn else s.pb.cfn) (s.pb.state == 3))) := by
  change ∃ u : State, execCompanionFrameEnd frame s = _
  unfold execCompanionFrameEnd
  rw [if_neg (by simp [hreceives])]
  rcases hsizes : s.profLines with ⟨emb, ob, h⟩
  rw [hsizes] at hlines
  have hwhole : ¬ (frame.lines.length ≠ emb + ob + h ∨ frame.lines.all (fun l => l.length == bits (s.prof 2) 0 12) = false) := by
    simp [hlines, hwidths]
  dsimp only
  rw [if_neg hwhole, if_neg (by simp [hroom])]
  split
  · exact ⟨_, rfl⟩
  · rw [if_neg (by simp [hintime])]
    exact ⟨_, rfl⟩

theorem companionFrameEnd_runs :
    ∃ t, exec (.companionFrameEnd frame) s = .next t ∧ t.pb.receiving = false ∧ t.pb.state = 4 ∧
      t.pb.cfn = (if s.pb.state = 3 then 0 else if s.pb.state = 5 then fnNext s.pb.cfn else s.pb.cfn) := by
  obtain ⟨u, hrow⟩ := exec_companionFrameEnd_whole hreceives hroom hintime hlines hwidths
  refine ⟨_, hrow, ?_⟩
  rw [State.keepQueue_pb]
  exact companionRuns_pb u _ _

end

/-! ### The loss of the companion (R323) -/

theorem moves_companionLost (hstate : s.pb.state = 4) (hstep : s.pb.step < 4) :
    let t := (s.elapse (us (20 * bits (s.prof 3) 16 16) + s.pb.vsAt)).dropReceiving 3
    moves .companionLost s (State.faultC { t with pb := { t.pb with state := 5 } } 16) := by
  have hacts : ¬ (s.pb.state ≠ 4 ∨ 4 ≤ s.pb.step) := by omega
  exact moves_of_row rfl (if_neg hacts)

end

/-- Settles O30: each row of the companion. -/
theorem companionEventsAct : Obligations.CompanionEventsAct := fun _ =>
  ⟨fun hstate => ⟨fun hstep => moves_companionPowerupDelay_pwdn hstate hstep,
      fun hstep => moves_companionPowerupDelay_reset hstate hstep, fun hstep => moves_companionPowerupDelay_init hstate hstep⟩,
    fun hstep => moves_companionPowerdownDelay_pwdn hstep, fun hstep => moves_companionPowerdownDelay_down hstep,
    fun hstate hstep => moves_companionStartTimeout hstate hstep, fun hstate hnew hdue => moves_writeSetBurst hstate hnew hdue,
    fun data late _ hinit => ⟨moves_of_row (exec_i2cTransferDone_init hinit data late .ack) (if_pos rfl),
      fun res hfails => moves_of_row (exec_i2cTransferDone_init hinit data late res) (if_neg hfails)⟩,
    fun res data late _ _ hjob hjobs => moves_i2cTransferDone_job hjob hjobs res data late,
    fun res data late _ _ _ hset hfind => moves_i2cTransferDone_set hset hfind res data late,
    fun after line hlow hhigh hstep hqueue _ => companionFrameStart_notes after line hlow hhigh hstep hqueue,
    fun _ hreceives hroom hintime hlines hwidths => companionFrameEnd_runs hreceives hroom hintime hlines hwidths,
    fun hstate hstep => moves_companionLost hstate hstep, rfl, rfl⟩

end Sys2Proof.Machine
end


section
/-!
PROOF. The rows of the lock to the reference (R86 to R99): marks, and the lock's time-outs.
-/

namespace Sys2Proof.Machine

open Sys2Proof (Word Instr)

section
variable {s : State}

/-! ### Marks (R89 to R97) -/

/-- The half of the mark interval within which a mark after the last one is too early (R92). -/
def State.markSoonest (t : State) (p : MarkAt) : Nat := p.at_ + t.rlTime (t.rd F.TT_REF_M) 2

/-- Whether a mark that arrives now comes too early: in ACQUIRE and TRACK (R92). -/
def State.markEarly (t : State) : Bool :=
  match t.tt.last with
  | some p => decide ((t.tt.lock = 1 ∨ t.tt.lock = 2) ∧ t.tt.clk < t.markSoonest p)
  | none => false

theorem markEarly_of_none (hnone : s.tt.last = none) : s.markEarly = false := by
  rw [State.markEarly, hnone]

theorem markEarly_iff {p : MarkAt} (hlast : s.tt.last = some p) :
    s.markEarly = true ↔ (s.tt.lock = 1 ∨ s.tt.lock = 2) ∧ s.tt.clk < s.markSoonest p := by
  rw [State.markEarly, hlast]
  exact decide_eq_true_iff

/-- A mark used as the lock state has it (R93 to R97). -/
def State.useMark (t : State) (m : MarkAt) : State :=
  match t.tt.lock, t.tt.last with
  | 1, _ => t.markAcquire m
  | 2, some p => t.markTrack p m
  | 2, none => t.validMark m
  | 3, _ => t.markCoast m
  | _, _ => t

theorem useMark_acquire (hlock : s.tt.lock = 1) (m : MarkAt) : s.useMark m = s.markAcquire m := by simp only [State.useMark, hlock]
theorem useMark_coast (hlock : s.tt.lock = 3) (m : MarkAt) : s.useMark m = s.markCoast m := by simp only [State.useMark, hlock]

theorem useMark_first (hlock : s.tt.lock = 2) (hnone : s.tt.last = none) (m : MarkAt) :
    s.useMark m = { s with tt := { s.tt with last := some m } } := by
  simp only [State.useMark, hlock, hnone, State.validMark]

theorem useMark_track (hlock : s.tt.lock = 2) {p : MarkAt} (hlast : s.tt.last = some p) (m : MarkAt) : s.useMark m = s.markTrack p m := by
  simp only [State.useMark, hlock, hlast]

section
variable {after line hfc crc : Nat} (hruns : s.coreRuns = true) {t : State} (ht : s.elapse (ns (2 * after) + s.tt.clk) = t)
include hruns ht

theorem exec_mark : exec (.mark after line hfc crc) s = .next (s.keepQueue (
    if crc8 [w8 (line / 256), w8 line, w8 (hfc / 256), w8 hfc] ≠ crc then t.bump F.LNK_MARKCRC_COUNT
    else if t.rd F.TT_REF_VTOTAL_RL ≤ line % 65536 then t.bump F.TT_MARKERR_DISCARD
    else if t.markEarly then t.bump F.TT_MARKERR_DISCARD
    else t.useMark ⟨line % 65536, hfc % 65536, t.tt.tb, t.tt.clk⟩)) := by
  have hpowered : s.sys.phase ≠ .unpowered ∧ s.sys.phase ≠ .reset := by
    constructor <;> intro hphase <;> simp [State.coreRuns, hphase] at hruns
  have hacts : ¬ (s.sys.phase == .unpowered || s.sys.phase == .reset) = true := by
    simp [hpowered]
  change execMark after line hfc crc s = _
  unfold execMark
  rw [if_neg hacts, ht]
  rfl

theorem moves_mark_of_bad_crc (hbad : crc8 [w8 (line / 256), w8 line, w8 (hfc / 256), w8 hfc] ≠ crc) :
    moves (.mark after line hfc crc) s (t.bump F.LNK_MARKCRC_COUNT) :=
  moves_of_row (exec_mark hruns ht) (if_pos hbad)

section
variable (hcrc : crc8 [w8 (line / 256), w8 line, w8 (hfc / 256), w8 hfc] = crc)
include hcrc

theorem moves_mark_beyond (hline : t.rd F.TT_REF_VTOTAL_RL ≤ line % 65536) :
    moves (.mark after line hfc crc) s (t.bump F.TT_MARKERR_DISCARD) :=
  moves_of_row (exec_mark hruns ht) ((if_neg (not_not_intro hcrc)).trans (if_pos hline))

variable (hline : line % 65536 < t.rd F.TT_REF_VTOTAL_RL)
include hline

theorem moves_mark_early (hearly : t.markEarly = true) : moves (.mark after line hfc crc) s (t.bump F.TT_MARKERR_DISCARD) :=
  moves_of_row (exec_mark hruns ht) ((if_neg (not_not_intro hcrc)).trans ((if_neg (Nat.not_le.mpr hline)).trans (if_pos hearly)))

theorem moves_mark_used {u : State} (hintime : ¬ t.markEarly = true) (huse : t.useMark ⟨line % 65536, hfc % 65536, t.tt.tb, t.tt.clk⟩ = u) :
    moves (.mark after line hfc crc) s u :=
  moves_of_row (exec_mark hruns ht)
    ((if_neg (not_not_intro hcrc)).trans ((if_neg (Nat.not_le.mpr hline)).trans ((if_neg hintime).trans huse)))

end

end

/-! ### Time-outs (R93, R95, R98) -/

theorem moves_markMissed {p : MarkAt} (hlast : s.tt.last = some p) (hlock : s.tt.lock ≠ 0) :
    moves .markMissed s ((s.elapse (p.at_ + s.rlTime (3 * s.rd F.TT_REF_M) 2)).bump F.TT_MARKERR_MISSED) := by
  simp only [moves, exec, execMarkMissed, hlast, if_neg hlock]

/-- With nothing to send, time leaves the front end as it is. -/
theorem elapse_fe (hwait : s.fe.waiting = []) (hevents : s.fe.events = []) (t : Nat) : (s.elapse t).fe = s.fe := by
  have hflush : ∀ u : State, u.fe = s.fe → u.flush = u := fun u hfe => by
    rw [State.flush, hfe, hwait, hevents]
    split <;> rfl
  unfold State.elapse
  split
  · rw [hflush _ (by split <;> rfl)]
    split <;> rfl
  · rfl

/-- An event that is neither masked nor waiting joins an empty queue (R479). -/
theorem event_of_empty {code : Nat} (hmask : s.fe.evMask.testBit code = false) (hevents : s.fe.events = []) (pl : List Word) :
    s.event code pl = { s with fe := { s.fe with events := [⟨code, 1, s.tt.fn, pl⟩] } } := by
  simp [State.event, hmask, hevents]

theorem coastTimeout_coasts {p : MarkAt} (hlast : s.tt.last = some p) (hlock : s.tt.lock = 2) (hmask : s.fe.evMask.testBit 9 = false)
    (hevents : s.fe.events = []) (hwait : s.fe.waiting = []) :
    ∃ t, exec .coastTimeout s = .next t ∧ t.tt.lock = 3 ∧ t.tt.coastAt = max s.tt.clk (p.at_ + s.rlTime (4 * s.rd F.TT_REF_M) 1) ∧
      t.fe.events = [⟨9, 1, s.tt.fn, [w32 (p.tb / 65536), w32 s.tt.fn]⟩] := by
  obtain ⟨u, hu⟩ : ∃ u, s.elapse (p.at_ + s.rlTime (4 * s.rd F.TT_REF_M) 1) = u := ⟨_, rfl⟩
  have hfe : u.fe = s.fe := hu ▸ elapse_fe hwait hevents _
  have hfn : u.tt.fn = s.tt.fn := hu ▸ State.elapse_fn s _
  have hclk : u.tt.clk = max s.tt.clk (p.at_ + s.rlTime (4 * s.rd F.TT_REF_M) 1) := hu ▸ elapse_tt_clk s _
  change ∃ t, execCoastTimeout s = .next t ∧ _
  unfold execCoastTimeout
  rw [hlast]
  dsimp only
  rw [if_neg (not_not_intro hlock), hu, event_of_empty (by rw [hfe]; exact hmask) (by rw [hfe]; exact hevents)]
  refine ⟨_, rfl, rfl, hclk, ?_⟩
  rw [State.keepQueue_fe, ← hfn]
  rfl

theorem opn_finish (s : State) (op tag st fn : Nat) (pl : List Word) :
    (s.finish op tag st fn pl).fe.opn = s.fe.opn.filter (fun p => !(p.op == op && p.tag == tag)) := by
  unfold State.finish
  split
  next hnone =>
    refine (List.filter_eq_self.mpr fun o ho => ?_).symm
    simpa [imp_iff_not_or] using List.find?_eq_none.mp hnone o ho
  · unfold State.reply
    extract_lets c
    split
    · rw [fe_put]
    · rfl

theorem mem_opn_foldl_finish {st fn : Nat} {pl : List Word} {o : OpenCmd} : ∀ (l : List OpenCmd) (s : State),
    o ∈ (l.foldl (fun t o => t.finish o.op o.tag st fn pl) s).fe.opn → o ∈ s.fe.opn ∧ o ∉ l
  | [], _, hmem => ⟨hmem, List.not_mem_nil⟩
  | p :: l, s, hmem => by
    obtain ⟨hkept, hnot⟩ := mem_opn_foldl_finish l _ hmem
    rw [opn_finish, List.mem_filter] at hkept
    obtain ⟨ho, hother⟩ := hkept
    refine ⟨ho, fun hin => ?_⟩
    rcases List.mem_cons.mp hin with rfl | htail
    · simp at hother
    · exact hnot htail

/-- A command answered is open no more. -/
theorem finishOp_closes (s : State) (op st fn : Nat) (pl : List Word) : (s.finishOp op st fn pl).isOpen op = false := by
  refine List.any_eq_false.mpr fun o ho hop => ?_
  obtain ⟨hmem, hnot⟩ := mem_opn_foldl_finish _ s ho
  exact hnot (List.mem_filter.mpr ⟨hmem, hop⟩)

theorem acquireTimeout_answers (hlock : s.tt.lock = 1) (hfirst : s.tt.acqLate = false) :
    ∃ t, exec .acquireTimeout s = .next t ∧ t.tt.lock = 1 ∧ t.tt.acqLate = true ∧ t.isOpen 0x21 = false := by
  have hacts : ¬ (s.tt.lock ≠ 1 ∨ s.tt.acqLate = true) := by simp [hlock, hfirst]
  refine ⟨_, moves_of_row rfl (if_neg hacts), ?_, ?_, finishOp_closes _ _ _ _ _⟩
  · rw [State.keepQueue_tt, (finishOp_quiet _ _ _ _ _).tt]
    obtain ⟨_, _, htt⟩ := elapse_tt s (ms (s.rd F.TT_LOCKCFG_ACQ_TO) + s.tt.acqAt)
    rw [htt]
    exact hlock
  · rw [State.keepQueue_tt, (finishOp_quiet _ _ _ _ _).tt]

end

/-- Settles O25: each row of the lock to the reference. -/
theorem referenceEventsAct : Obligations.ReferenceEventsAct := fun s => by
  refine ⟨fun after line hfc crc hruns => ?_,
    fun p hlast => ⟨fun hlock => moves_markMissed hlast hlock,
      fun hlock hmask hevents hwait => coastTimeout_coasts hlast hlock hmask hevents hwait⟩,
    fun hlock hfirst => acquireTimeout_answers hlock hfirst⟩
  obtain ⟨t, ht⟩ : ∃ t, s.elapse (ns (2 * after) + s.tt.clk) = t := ⟨_, rfl⟩
  rw [ht]
  refine ⟨fun hbad => moves_mark_of_bad_crc hruns ht hbad, fun hcrc => ⟨fun hline => moves_mark_beyond hruns ht hcrc hline, fun hline =>
    ⟨fun p hlast hlock hearly => moves_mark_early hruns ht hcrc hline ((markEarly_iff hlast).mpr ⟨hlock, hearly⟩),
      fun hnone => ?_, fun p hlast => ?_⟩⟩⟩
  · have hintime : ¬ t.markEarly = true := by simp [markEarly_of_none hnone]
    exact ⟨fun hlock => moves_mark_used hruns ht hcrc hline hintime (useMark_acquire hlock _),
      fun hlock => moves_mark_used hruns ht hcrc hline hintime (useMark_first hlock hnone _),
      fun hlock => moves_mark_used hruns ht hcrc hline hintime (useMark_coast hlock _)⟩
  · have hintime : t.markSoonest p ≤ t.tt.clk → ¬ t.markEarly = true := fun hlate hearly =>
      absurd ((markEarly_iff hlast).mp hearly).2 (Nat.not_lt.mpr hlate)
    have hcoasts : t.tt.lock = 3 → ¬ t.markEarly = true := fun hlock hearly => by
      have hstate := ((markEarly_iff hlast).mp hearly).1
      omega
    exact ⟨fun hlock hlate => moves_mark_used hruns ht hcrc hline (hintime hlate) (useMark_acquire hlock _),
      fun hlock hlate => moves_mark_used hruns ht hcrc hline (hintime hlate) (useMark_track hlock hlast _),
      fun hlock => moves_mark_used hruns ht hcrc hline (hcoasts hlock) (useMark_coast hlock _)⟩

end Sys2Proof.Machine
end


section
/-!
PROOF. The rows of the frame start, the COMMIT event, the frame end and the pending set (R110 to R118, R488 to R491).
-/

namespace Sys2Proof.Machine

open Sys2Proof (Word Instr)

/-! ### What time leaves of the registers -/

theorem reg_sendOne {a : Nat} (hstat : a ≠ R.LNK_STAT) (s : State) : s.sendOne.reg a = s.reg a := by
  unfold State.sendOne
  split
  · exact reg_sendPkt hstat _ 0 _
  split
  · exact reg_sendPkt hstat _ 0 _
  · rfl

theorem reg_iter_sendOne {a : Nat} (hstat : a ≠ R.LNK_STAT) : ∀ (n : Nat) (s : State), (iter State.sendOne n s).reg a = s.reg a
  | 0, _ => rfl
  | n + 1, s => (reg_iter_sendOne hstat n s.sendOne).trans (reg_sendOne hstat s)

theorem reg_flush {a : Nat} (hstat : a ≠ R.LNK_STAT) (s : State) : s.flush.reg a = s.reg a := by
  unfold State.flush
  split
  · exact reg_iter_sendOne hstat _ s
  · rfl

theorem reg_elapse {a : Nat} (hstat : a ≠ R.LNK_STAT) (s : State) (t : Nat) : (s.elapse t).reg a = s.reg a := by
  unfold State.elapse
  split
  · rw [reg_flush hstat]
    split <;> rfl
  · rfl

theorem applyFn_elapse (s : State) (t : Nat) : (s.elapse t).rd F.TT_APPLYFN_FN = s.rd F.TT_APPLYFN_FN :=
  State.rd_congr (reg_elapse (by decide) s t)

/-! ### What time leaves of the packets held -/

theorem held_sendOne (s : State) : s.sendOne.fe.held = s.fe.held := by
  unfold State.sendOne
  split
  · rw [fe_put]
  split
  · rw [fe_put]
  · rfl

theorem held_iter_sendOne : ∀ (n : Nat) (s : State), (iter State.sendOne n s).fe.held = s.fe.held
  | 0, _ => rfl
  | n + 1, s => (held_iter_sendOne n s.sendOne).trans (held_sendOne s)

theorem held_elapse (s : State) (t : Nat) : (s.elapse t).fe.held = s.fe.held := by
  have hflush : ∀ u : State, u.flush.fe.held = u.fe.held := fun u => by
    unfold State.flush
    split
    · exact held_iter_sendOne _ u
    · rfl
  unfold State.elapse
  split
  · rw [hflush]
    split <;> rfl
  · rfl

/-! ### The stream frames end (R364) -/

theorem framePacket_live (s : State) (f : StreamFrame) (ptype : Nat) (ws : List Word) : (s.framePacket f ptype ws).out.live = s.out.live := by
  unfold State.framePacket State.streamPacket
  split
  · split
    · rfl
    · extract_lets q words out
      rw [(sendData_quiet _ _ _).out]
  · rfl

/-- A stream frame that is broken off for another reason than the next one's start is gone. -/
theorem abortFrame_live {reason : Nat} (hreason : reason ≠ 1) (s : State) (f : StreamFrame) :
    (s.abortFrame reason f).out.live = s.out.live.filter (fun g => g != f) := by
  have hgone : (f.stream == 3 && reason == 1) = false := by simp [hreason]
  have hlive := framePacket_live s f 7 [w32 reason]
  have hkept : (s.framePacket f 7 [w32 reason]).out.live.filterMap (fun g => if g != f then some g else none) =
      s.out.live.filter (fun g => g != f) := by
    rw [hlive, ← List.filterMap_eq_filter]
    exact congrArg (List.filterMap · _) (funext fun g => by cases h : g != f <;> simp [Option.guard, h])
  unfold State.abortFrame
  rw [hgone]
  split
  · exact hkept
  · exact hkept

theorem foldl_abortFrame_live {reason : Nat} (hreason : reason ≠ 1) : ∀ (l : List StreamFrame) (s : State),
    (∀ g ∈ s.out.live, g ∈ l) → (l.foldl (fun t f => t.abortFrame reason f) s).out.live = []
  | [], s, hall => List.eq_nil_iff_forall_not_mem.mpr fun g hg => List.not_mem_nil (hall g hg)
  | f :: l, s, hall => by
    refine foldl_abortFrame_live hreason l _ fun g hg => ?_
    rw [abortFrame_live hreason, List.mem_filter] at hg
    obtain ⟨hmem, hother⟩ := hg
    exact (List.mem_cons.mp (hall g hmem)).resolve_left (bne_iff_ne.mp hother)

theorem abortAll_live {reason : Nat} (hreason : reason ≠ 1) (s : State) : (s.abortAll reason).out.live = [] :=
  foldl_abortFrame_live hreason _ s fun _ hg => hg

/-! ### What a mode change leaves of the frames (R488, R491) -/

/-- `t` has the mode of `s`, reads a frame where `s` does, and begins no stream frame where `s` has none. -/
def KeepsEnd (s t : State) : Prop :=
  t.sys.mode = s.sys.mode ∧ t.tt.run = s.tt.run ∧ (s.out.live = [] → t.out.live = [])

theorem KeepsEnd.refl (s : State) : KeepsEnd s s := ⟨rfl, rfl, id⟩

theorem KeepsEnd.trans {s t u : State} (h : KeepsEnd s t) (g : KeepsEnd t u) : KeepsEnd s u :=
  ⟨g.1.trans h.1, g.2.1.trans h.2.1, fun hnone => g.2.2 (h.2.2 hnone)⟩

/-- A step taken only under a condition. -/
theorem KeepsEnd.ite {s t u : State} (c : Prop) [Decidable c] (h : KeepsEnd s t) (g : KeepsEnd t u) : KeepsEnd s (if c then u else t) := by
  split
  · exact h.trans g
  · exact h

theorem Recorded.out {s t : State} (h : Recorded s t) : t.out = s.out := by rw [h]

theorem Recorded.keepsEnd {s t : State} (h : Recorded s t) : KeepsEnd s t := by
  refine ⟨?_, ?_, fun hnone => ?_⟩
  · rw [h.sys]
  · rw [h.tt]
  · rw [h.out, hnone]

theorem Quiet.keepsEnd {s t : State} (h : Quiet s t) : KeepsEnd s t := h.recorded.keepsEnd

theorem linkDown_keepsEnd (s : State) : KeepsEnd s s.linkDown := by
  refine ⟨congrArg Sys.mode (linkDown_streams s).sys, congrArg Tt.run (linkDown_streams s).tt, fun hnone => ?_⟩
  unfold State.linkDown
  split
  · exact hnone
  · exact abortAll_live (by decide) s

theorem relock_keepsEnd (s : State) (n : Nat) : KeepsEnd s (s.relock n) := by
  unfold State.relock
  extract_lets t
  have ht : KeepsEnd s t := ⟨rfl, rfl, id⟩
  split
  · exact ht.trans (linkDown_keepsEnd t)
  · exact ht

theorem calAbort_keepsEnd (s : State) : KeepsEnd s s.calAbort := by
  unfold State.calAbort
  split
  · exact ⟨rfl, rfl, id⟩
  · exact .refl s

theorem bellLeave_keepsEnd (s : State) : KeepsEnd s s.bellLeave := by
  unfold State.bellLeave
  extract_lets tags
  have hcleared : KeepsEnd s { s with bel := { s.bel with queue := none, raised := none, sched := none } } := ⟨rfl, rfl, id⟩
  exact hcleared.trans (foldl_quiet _ (fun t (g : Nat) => finish_quiet t _ _ _ _ _) _ _).keepsEnd

theorem leaveTriggered_keepsEnd (s : State) : KeepsEnd s s.leaveTriggered := by
  unfold State.leaveTriggered
  extract_lets t
  have ht : KeepsEnd s t := bellLeave_keepsEnd s
  split
  · split
    · split
      · exact ht.trans ⟨rfl, rfl, id⟩
      · exact ht.trans ⟨rfl, rfl, id⟩
    · exact ht
  · exact ht

theorem leaveRest_keepsEnd (s : State) : KeepsEnd s s.leaveRest := by
  unfold State.leaveRest
  extract_lets pwr t u
  have ht : KeepsEnd s t := ⟨rfl, rfl, id⟩
  have hu : KeepsEnd s u := ht.trans (relock_keepsEnd t 3)
  split
  · split
    · exact hu.trans (KeepsEnd.trans ⟨rfl, rfl, id⟩ (relock_keepsEnd _ 2))
    · exact hu
  · exact ht

theorem lockFree_keepsEnd (s : State) : KeepsEnd s s.lockFree := by
  unfold State.lockFree
  extract_lets tt t
  have ht : KeepsEnd s t := ⟨rfl, rfl, id⟩
  split
  · exact ht
  · exact ht.trans (finishOp_quiet _ _ _ _ _).keepsEnd

theorem dropReceiving_keepsEnd (s : State) (cause : Nat) : KeepsEnd s (s.dropReceiving cause) := by
  unfold State.dropReceiving
  split
  · exact KeepsEnd.trans ⟨rfl, rfl, id⟩ (pbDrop_quiet _ _ _).keepsEnd
  · exact .refl s

theorem dropSets_keepsEnd (s : State) : KeepsEnd s s.dropSets := by
  unfold State.dropSets
  extract_lets t
  have ht : KeepsEnd s t := (foldl_quiet _ (fun u (tag : Nat) => finish_quiet u _ _ _ _ _) _ _).keepsEnd
  exact ht.trans ⟨rfl, rfl, id⟩

theorem pbMode_keepsEnd (s : State) (m : Nat) : KeepsEnd s (s.pbMode m) := by
  unfold State.pbMode
  split
  · unfold State.pbStop
    split
    · exact .refl s
    · extract_lets t u
      have hu : KeepsEnd s u := (dropReceiving_keepsEnd s 3).trans (dropSets_keepsEnd t)
      exact hu.trans ⟨rfl, rfl, id⟩
  split
  · exact KeepsEnd.trans ⟨rfl, rfl, id⟩ (wrs_quiet _ _).keepsEnd
  · exact .refl s

theorem foldl_fresh_keepsEnd (l : List Nat) (q : List Word × State) :
    KeepsEnd q.2 (l.foldl (fun (q : List Word × State) _ => let f := q.2.fresh; (q.1 ++ [f.1], f.2)) q).2 := by
  induction l generalizing q with
  | nil => exact .refl _
  | cons n l ih => exact KeepsEnd.trans ⟨rfl, rfl, id⟩ (ih _)

theorem warmWords_keepsEnd (s : State) : KeepsEnd s s.warmWords.2 := foldl_fresh_keepsEnd _ _

theorem warmWrite_keepsEnd (s : State) : KeepsEnd s s.warmWrite := (warmWords_keepsEnd s).trans ⟨rfl, rfl, id⟩

theorem lanesIdle_keepsEnd (s : State) : KeepsEnd s s.lanesIdle := by
  unfold State.lanesIdle
  extract_lets sys park t
  have ht : KeepsEnd s (t.pllOff 2) := ⟨rfl, rfl, id⟩
  exact ht.trans (linkDown_keepsEnd _)

theorem enterParking_keepsEnd (s : State) : KeepsEnd s s.enterParking := by
  unfold State.enterParking
  extract_lets sys park t
  have ht : KeepsEnd s (t.pllOff 3) := ⟨rfl, rfl, id⟩
  exact ht.trans (lanesIdle_keepsEnd _)

/-- A mode entered is the mode, with no frame begun and none ended. -/
theorem enterMode_ends (s : State) (m fn : Nat) :
    (s.enterMode m fn).sys.mode = m ∧ (s.enterMode m fn).tt.run = s.tt.run ∧ (s.out.live = [] → (s.enterMode m fn).out.live = []) := by
  unfold State.enterMode
  extract_lets old cal lnk echo trig rest free sys set told replied locked companion warm
  have hleft : KeepsEnd s free := by
    have hcal : KeepsEnd s cal := .ite _ (.refl s) (calAbort_keepsEnd s)
    have hecho : KeepsEnd s echo := .ite _ hcal ⟨rfl, rfl, id⟩
    have htrig : KeepsEnd s trig := .ite _ hecho (leaveTriggered_keepsEnd echo)
    have hrest : KeepsEnd s rest := .ite _ htrig (leaveRest_keepsEnd trig)
    exact .ite _ hrest (lockFree_keepsEnd rest)
  have hentered : KeepsEnd set (if m = 7 then warm.enterParking else warm) := by
    have hreplied : KeepsEnd set replied := (event_quiet set _ _).keepsEnd.trans (finishOp_quiet _ _ _ _ _).keepsEnd
    have hlocked : KeepsEnd set locked := .ite _ hreplied (finishOp_quiet _ _ _ _ _).keepsEnd
    have hcompanion : KeepsEnd set companion := hlocked.trans (pbMode_keepsEnd locked m)
    have hwarm : KeepsEnd set warm := .ite _ hcompanion (warmWrite_keepsEnd companion)
    exact .ite _ hwarm (enterParking_keepsEnd warm)
  exact ⟨hentered.1, hentered.2.1.trans hleft.2.1, fun hnone => hentered.2.2 (hleft.2.2 hnone)⟩

/-! ### The frames stop (R488) -/

theorem setTable_keepsEnd (s : State) (ws : List Word) : KeepsEnd s (s.setTable ws) := by
  unfold State.setTable State.noteBad
  extract_lets t marked
  have ht : KeepsEnd s t := ⟨rfl, rfl, id⟩
  split
  · exact ht.trans ⟨rfl, rfl, id⟩
  · exact ht.trans ⟨rfl, rfl, id⟩

theorem calCopy_keepsEnd (s : State) : KeepsEnd s s.calCopy := by
  unfold State.calCopy
  split
  · have hcopied : KeepsEnd s { s with cnv := { s.cnv with shadow := none } } := ⟨rfl, rfl, id⟩
    exact (hcopied.trans (setTable_keepsEnd _ _)).trans (wr_quiet _ _ _).keepsEnd
  · exact .refl s

theorem spFrameEnd_keepsEnd (s : State) : KeepsEnd s s.spFrameEnd := by
  unfold State.spFrameEnd
  extract_lets run bad sp t u
  have hu : KeepsEnd s u := KeepsEnd.trans (t := t) ⟨rfl, rfl, id⟩ (wr_quiet t _ _).keepsEnd
  split
  · exact hu.trans (fault_recorded u _ _).keepsEnd
  · exact hu.trans (setReg_quiet u _ _).keepsEnd

theorem seqIdle_keepsEnd (s : State) : KeepsEnd s s.seqIdle := by
  unfold State.seqIdle
  split
  · split
    · exact ⟨rfl, rfl, id⟩
    · exact .refl s
  · exact .refl s

theorem frameStops_run (s : State) : s.frameStops.tt.run = false := rfl

theorem frameStops_live {s : State} (hnone : s.out.live = []) : s.frameStops.out.live = [] :=
  (((calCopy_keepsEnd s).trans (spFrameEnd_keepsEnd _)).trans (seqIdle_keepsEnd _)).2.2 hnone

/-- With every stream frame ended and no frame read, a non-streaming mode is entered with no frame due. -/
theorem enterIdle_ends {s : State} {m : Nat} (hidle : streamingMode m = false) (hrun : s.tt.run = false) (hnone : s.out.live = []) :
    (s.enterIdle m).sys.mode = m ∧ (s.enterIdle m).tt.run = false ∧ (s.enterIdle m).tt.startDue = none ∧ (s.enterIdle m).out.live = [] := by
  obtain ⟨hmode, hruns, hlive⟩ := enterMode_ends s m s.tt.fn
  unfold State.enterIdle
  rw [hidle, if_neg Bool.false_ne_true]
  exact ⟨hmode, hruns.trans hrun, rfl, hlive hnone⟩

/-! ### The rows -/

section
variable {s : State}

theorem moves_frameStart_of_run (hphase : s.sys.phase = .run) (hrun : s.tt.run = true) (hlimp : s.sys.limpDue = none)
    (hgoes : s.stopsFrames = false) (hmode : s.sys.mode ≠ 5) :
    let at_ := max s.frameEndAt (s.tt.startDue.getD 0)
    moves .frameStart s (((s.elapse (onCycle at_)).beginFrameNow at_).pump) := by
  have hready : ¬ (s.sys.phase != .run) = true := by simp [hphase]
  have hjoins : ¬ (!s.nextJoins) = true := by simp [State.nextJoins, hlimp, hgoes, hmode]
  have hstarts : s.frameStarts = (s.elapse (onCycle (max s.frameEndAt (s.tt.startDue.getD 0)))).beginFrameNow
      (max s.frameEndAt (s.tt.startDue.getD 0)) := by
    unfold State.frameStarts
    rw [if_neg hready, if_pos hrun, if_neg hjoins]
  exact moves_of_row (t := s.frameStarts.pump) rfl (congrArg State.pump hstarts)

theorem moves_frameStart_of_due {d : Nat} (hphase : s.sys.phase = .run) (hrun : s.tt.run = false) (hdue : s.tt.startDue = some d)
    (hpend : s.pend = none) : moves .frameStart s (((s.elapse (onCycle d)).beginFrameNow d).pump) := by
  have hready : ¬ (s.sys.phase != .run) = true := by simp [hphase]
  have hstarts : s.frameStarts = (s.elapse (onCycle d)).beginFrameNow d := by
    unfold State.frameStarts
    rw [if_neg hready, hrun, if_neg Bool.false_ne_true, hdue, hpend]
    dsimp only
    rw [hdue]
    rfl
  exact moves_of_row (t := s.frameStarts.pump) rfl (congrArg State.pump hstarts)

section
variable (hrun : s.tt.run = true) (hfirst : s.tt.committed = 0)
include hrun hfirst

theorem moves_commitEvent : moves .commitEvent s (s.commitEvent 0).pump := by
  have hcomes : s.commitComes = s.commitEvent 0 := by
    have hreads : ¬ (!s.tt.run) = true := by simp [hrun]
    unfold State.commitComes
    rw [if_neg hreads, if_pos hfirst]
  exact moves_of_row (t := s.commitComes.pump) rfl (congrArg State.pump hcomes)

end

theorem takePb_keeps (s : State) (ov : Overlay) :
    (s.takePb ov).pend = s.pend ∧ (s.takePb ov).taken = s.taken ∧ (s.takePb ov).tt = s.tt ∧ (s.takePb ov).sys = s.sys ∧
      (s.takePb ov).thm = s.thm ∧ (s.takePb ov).exp = s.exp ∧ (s.takePb ov).saf = s.saf ∧ (s.takePb ov).fe = s.fe := by
  unfold State.takePb
  extract_lets mine
  split
  · exact ⟨rfl, rfl, rfl, rfl, rfl, rfl, rfl, rfl⟩
  · exact ⟨rfl, rfl, rfl, rfl, rfl, rfl, rfl, rfl⟩

/-- The pending set taken stands among the taken ones, for the frame that TT_APPLYFN promises (R112). -/
theorem takePending_takes {p : PendSet} (hpend : s.pend = some p) :
    s.takePending.pend = none ∧ s.takePending.taken = s.taken ++ [⟨s.rd F.TT_APPLYFN_FN, p.ov.filter (fun w => !pbKey w.1)⟩] ∧
      s.takePending.tt = s.tt ∧ s.takePending.sys = s.sys ∧ s.takePending.thm = s.thm ∧ s.takePending.exp = s.exp ∧
      s.takePending.saf = s.saf ∧ s.takePending.fe = s.fe := by
  unfold State.takePending
  rw [hpend]
  exact takePb_keeps _ _

/-- A COMMIT event that nothing but a pending set waits for takes that set where its REQ came 1 RP before or earlier (R111, R112). -/
theorem commitEvent_takes {p : PendSet} (hpend : s.pend = some p) (hchg : s.sys.chg = none) (hwant : s.thm.want = none)
    (hseq : s.exp.seq = none) (hfw : s.sys.fw = .running) (hswitch : s.saf.switching = none)
    {u : State} (hu : s.elapse (onCycle (commitTime s 0)) = u) (hreq : p.reqAt + 16 * p.rp ≤ u.tt.clk) :
    s.commitEvent 0 = State.takePending { u with tt := { u.tt with committed := 0 + 1 } } := by
  have hupend : u.pend = some p := by rw [← hu, State.elapse_pend, hpend]
  have husys : u.sys = s.sys := hu ▸ State.elapse_sys _ _
  have huthm : u.thm = s.thm := hu ▸ State.elapse_thm _ _
  have huexp : u.exp = s.exp := hu ▸ State.elapse_exp _ _
  have husaf : u.saf = s.saf := hu ▸ State.elapse_saf _ _
  unfold State.commitEvent
  rw [hu]
  extract_lets t tt noted byRom now rp due fn taken sys changed thm limited stepped handed
  have hdue : due = some p := by
    unfold due
    rw [show noted.pend = some p from hupend]
    exact if_pos hreq
  have htaken : taken = noted.takePending := by
    unfold taken
    rw [hdue]
    rfl
  obtain ⟨-, -, -, htsys, htthm, htexp, htsaf, -⟩ := takePending_takes (s := noted) hupend
  have hchanged : changed = taken := by
    unfold changed
    rw [htaken, htsys, show noted.sys.chg = none from husys.symm ▸ hchg]
  have hlimited : limited = taken := by
    unfold limited
    rw [hchanged, htaken, htthm, show noted.thm.want = none from huthm.symm ▸ hwant]
  have hstepped : stepped = taken := by
    unfold stepped State.seqCommit
    rw [hlimited, htaken, htexp, show noted.exp.seq = none from huexp.symm ▸ hseq]
  have hhanded : handed = taken := by
    unfold handed
    rw [hstepped, htaken, htsys, show noted.sys.fw = .running from husys.symm ▸ hfw]
    rfl
  have hstays : ¬ (taken.saf.switching.isSome && taken.saf.switchReady) = true := by
    rw [htaken, htsaf, show noted.saf.switching = none from husaf.symm ▸ hswitch]
    exact Bool.false_ne_true
  rw [hhanded, State.switchNow, if_neg hstays, htaken]

theorem exec_commitEvent_takes {p : PendSet} (hrun : s.tt.run = true) (hfirst : s.tt.committed = 0) (hchg : s.sys.chg = none)
    (hwant : s.thm.want = none) (hseq : s.exp.seq = none) (hfw : s.sys.fw = .running) (hswitch : s.saf.switching = none)
    (hheld : s.fe.held = []) (hpend : s.pend = some p) (hreq : p.reqAt + 16 * p.rp ≤ (s.elapse (onCycle (commitTime s 0))).tt.clk) :
    ∃ t, exec .commitEvent s = .next t ∧ t.pend = none ∧
      t.taken = s.taken ++ [⟨s.rd F.TT_APPLYFN_FN, p.ov.filter (fun w => !pbKey w.1)⟩] := by
  obtain ⟨u, hu⟩ : ∃ u, s.elapse (onCycle (commitTime s 0)) = u := ⟨_, rfl⟩
  rw [hu] at hreq
  have hupend : u.pend = some p := by rw [← hu, State.elapse_pend, hpend]
  have huheld : u.fe.held = [] := by rw [← hu, held_elapse, hheld]
  obtain ⟨hnone, htaken, -, -, -, -, -, hfe⟩ :=
    takePending_takes (s := { u with tt := { u.tt with committed := 0 + 1 } }) hupend
  have hrow := moves_commitEvent hrun hfirst
  rw [moves, commitEvent_takes hpend hchg hwant hseq hfw hswitch hu hreq,
    pump_of_none_held ((congrArg Fe.held hfe).trans huheld)] at hrow
  refine ⟨_, hrow, ?_, ?_⟩
  · rw [State.keepQueue_pend, hnone]
  · have hnoted : ({ u with tt := { u.tt with committed := 0 + 1 } } : State).rd F.TT_APPLYFN_FN = s.rd F.TT_APPLYFN_FN :=
      (State.rd_congr (s := u) rfl).trans (hu ▸ applyFn_elapse s _)
    have hutaken : u.taken = s.taken := hu ▸ State.elapse_taken s _
    rw [State.keepQueue_taken, htaken, hnoted, hutaken]

/-! ### The frame end (R488) -/

theorem moves_frameEnd (hrun : s.tt.run = true) (hchg : s.sys.chg = none) (hmode : s.sys.mode ≠ 5) :
    moves .frameEnd s (s.elapse (onCycle s.frameEndAt)) := by
  obtain ⟨u, hu⟩ : ∃ u, s.elapse (onCycle s.frameEndAt) = u := ⟨_, rfl⟩
  have husys : u.sys = s.sys := hu ▸ State.elapse_sys _ _
  have hreads : ¬ (!s.tt.run) = true := by simp [hrun]
  change execFrameEnd s = _
  unfold execFrameEnd
  rw [if_neg hreads, hu]
  simp only [husys, hchg, hmode, beq_iff_eq, Bool.and_eq_true, false_and, if_false]

theorem frameEnd_stops {c : ModeChange} (hrun : s.tt.run = true) (hchg : s.sys.chg = some c) (hidle : streamingMode c.target = false) :
    ∃ t, exec .frameEnd s = .next t ∧ t.sys.mode = c.target ∧ t.tt.run = false ∧ t.tt.startDue = none ∧ t.out.live = [] := by
  obtain ⟨u, hu⟩ : ∃ u, s.elapse (onCycle s.frameEndAt) = u := ⟨_, rfl⟩
  have huchg : u.sys.chg = some c := by rw [← hu, State.elapse_sys, hchg]
  have hreads : ¬ (!s.tt.run) = true := by simp [hrun]
  have hrow : exec .frameEnd s = .next (s.keepQueue ((u.abortAll 2).frameStops.enterIdle c.target)) := by
    change execFrameEnd s = _
    unfold execFrameEnd
    rw [if_neg hreads, hu]
    dsimp only
    rw [huchg]
    dsimp only
    rw [hidle]
    rfl
  exact ⟨_, hrow, enterIdle_ends hidle (frameStops_run _) (frameStops_live (abortAll_live (by decide) u))⟩

/-! ### The pending set without frames (R112) -/

theorem pendingSetTaken_takes {p : PendSet} (hpend : s.pend = some p) (hrun : s.tt.run = false) (hdue : s.tt.startDue = none) :
    ∃ t, exec .pendingSetTaken s = .next t ∧ t.pend = none ∧
      t.taken = s.taken ++ [⟨s.rd F.TT_APPLYFN_FN, p.ov.filter (fun w => !pbKey w.1)⟩] := by
  obtain ⟨u, hu⟩ : ∃ u, s.elapse (p.reqAt + 16 * p.rp) = u := ⟨_, rfl⟩
  have hupend : u.pend = some p := by rw [← hu, State.elapse_pend, hpend]
  have hudue : u.tt.startDue = none := by
    obtain ⟨_, _, htt⟩ := elapse_tt s (p.reqAt + 16 * p.rp)
    rw [← hu, htt]
    exact hdue
  obtain ⟨hnone, htaken, htt, -⟩ := takePending_takes hupend
  have hidle : s.takeIdle = u.takePending := by
    unfold State.takeIdle
    rw [hpend]
    dsimp only
    rw [hrun, if_neg Bool.false_ne_true, hu, htt, hudue]
    rfl
  have hrow : exec .pendingSetTaken s = .next (s.keepQueue u.takePending) := moves_of_row (t := s.takeIdle) rfl hidle
  refine ⟨_, hrow, ?_, ?_⟩
  · rw [State.keepQueue_pend, hnone]
  · rw [State.keepQueue_taken, htaken, ← hu, State.elapse_taken, applyFn_elapse]

end

/-- Settles O26: each row of the frames. -/
theorem frameEventsAct : Obligations.FrameEventsAct := fun _ =>
  ⟨fun hphase hrun hlimp hgoes hmode => moves_frameStart_of_run hphase hrun hlimp hgoes hmode,
    fun _ hphase hrun hdue hpend => moves_frameStart_of_due hphase hrun hdue hpend,
    fun hrun hfirst => moves_commitEvent hrun hfirst,
    fun _ hrun hfirst hchg hwant hseq hfw hswitch hheld hpend hreq =>
      exec_commitEvent_takes hrun hfirst hchg hwant hseq hfw hswitch hheld hpend hreq,
    fun hrun hchg hmode => moves_frameEnd hrun hchg hmode, fun _ hrun hchg hidle => frameEnd_stops hrun hchg hidle,
    fun _ hpend hrun hdue => pendingSetTaken_takes hpend hrun hdue⟩

end Sys2Proof.Machine
end


section
/-!
PROOF. The rows within a frame (R38 to R46, R110, R114, R120, R340): resets, reads, the strobe, LSTEP and the cut of the statistics.
-/

namespace Sys2Proof.Machine

open Sys2Proof (Word Instr)

section
variable {s : State}

/-! ### Resets -/

theorem moves_rowReset {row fn at_ : Nat} {v : View} (hdue : s.rowDue row (fun v p => longStart v p 0) = some (fn, at_, v)) :
    moves (.rowReset row) s (if 48 ≤ row ∧ row % 4 = 0 then (s.elapse at_).issueRow fn ((row - 48) / 4) else s.elapse at_) := by
  obtain ⟨el, hel⟩ : ∃ el, State.elapse s = el := ⟨_, rfl⟩
  change execRowReset row s = _
  unfold execRowReset
  rw [hel, hdue]

theorem moves_blockReset {row k fn at_ : Nat} {v : View} (hdue : s.rowDue row (fun v p => longStart v p (min k 15)) = some (fn, at_, v)) :
    moves (.blockReset row k) s (s.elapse at_) := by
  obtain ⟨el, hel⟩ : ∃ el, State.elapse s = el := ⟨_, rfl⟩
  change execBlockReset row k s = _
  unfold execBlockReset
  rw [hel, hdue]

theorem moves_shortReset {row at_ : Nat} (hdue : s.shortDue row = some at_) : moves (.shortReset row) s (s.elapse at_) := by
  obtain ⟨el, hel⟩ : ∃ el, State.elapse s = el := ⟨_, rfl⟩
  change execShortReset row s = _
  unfold execShortReset
  rw [hel, hdue]

/-! ### Reads -/

section
variable {row : Nat} {p : Int} (hrun : s.tt.run = true) (hread : readRp s.live row = some p)
include hrun hread

theorem moves_longRead (record : List (Nat × Bool)) :
    let t := ((s.elapse (s.slotTime (16 * p))).lstepEdge false).fillBanks row p [0, 1, 2]
    moves (.longRead row record) s (if 48 ≤ row ∧ row % 4 = 0 then t.recordRow t.tt.fn ((row - 48) / 4) record else t) := by
  have hreads : ¬ (!s.tt.run) = true := by simp [hrun]
  obtain ⟨el, hel⟩ : ∃ el, State.elapse s = el := ⟨_, rfl⟩
  change execLongRead row record s = _
  unfold execLongRead
  rw [hel, if_neg hreads, hread]

theorem moves_shortRead (hshort : vShort s.live = true) :
    let n := shortRp s.live s.effNow row
    moves (.shortRead row) s (((s.elapse (s.slotTime (16 * n + 12 * vW s.live))).lstepEdge false).fillBanks row n [3]) := by
  have hreads : (s.tt.run && vShort s.live) = true := by simp [hrun, hshort]
  obtain ⟨el, hel⟩ : ∃ el, State.elapse s = el := ⟨_, rfl⟩
  change execShortRead row s = _
  unfold execShortRead
  extract_lets v
  rw [hel, if_pos hreads, hread]

end

/-! ### The strobe (R114, R120) -/

theorem tt_wr_if (t : State) (c : Prop) [Decidable c] (f : Fld) (v : Nat) : (if c then t.wr f v else t).tt = t.tt := by
  split <;> rfl

theorem strobeOn_acts {fn at_ : Nat} {acts : Bool} (hdue : s.strobeDue true = some (fn, at_, acts)) :
    ∃ t, exec .strobeOn s = .next t ∧ t.tt.strobe = (acts || s.tt.strobe) ∧ t.tt.strobeOnAt = some at_ ∧
      (acts = true → t.tt.lit.head? = some fn) ∧ (acts = false → t.tt.lit = s.tt.lit) := by
  obtain ⟨u, hu⟩ : ∃ u, s.elapse at_ = u := ⟨_, rfl⟩
  obtain ⟨tb, rem, htt⟩ : ∃ tb rem, u.tt = { s.tt with clk := max s.tt.clk at_, tb := tb, tbRem := rem } := hu ▸ elapse_tt s at_
  change ∃ t, execStrobeOn s = .next t ∧ _
  unfold execStrobeOn
  rw [hdue]
  dsimp only
  rw [hu]
  have hstrobe : u.tt.strobe = s.tt.strobe := by rw [htt]
  have hlit : u.tt.lit = s.tt.lit := by rw [htt]
  cases acts with
  | true =>
    rw [if_pos rfl]
    refine ⟨_, rfl, ?_⟩
    rw [State.keepQueue_tt, tt_wr_if]
    exact ⟨rfl, rfl, fun _ => rfl, fun hno => absurd hno Bool.true_eq_false.mp⟩
  | false =>
    rw [if_neg Bool.false_ne_true]
    exact ⟨_, rfl, hstrobe, rfl, fun hno => absurd hno Bool.false_ne_true, fun _ => hlit⟩

theorem strobeOff_acts {fn at_ : Nat} {acts : Bool} (hdue : s.strobeDue false = some (fn, at_, acts)) :
    ∃ t, exec .strobeOff s = .next t ∧ t.tt.strobe = (s.tt.strobe && !acts) ∧ t.tt.strobeOffAt = some at_ ∧ t.tt.lit = s.tt.lit := by
  obtain ⟨u, hu⟩ : ∃ u, s.elapse at_ = u := ⟨_, rfl⟩
  obtain ⟨tb, rem, htt⟩ : ∃ tb rem, u.tt = { s.tt with clk := max s.tt.clk at_, tb := tb, tbRem := rem } := hu ▸ elapse_tt s at_
  have hstrobe : u.tt.strobe = s.tt.strobe := by rw [htt]
  have hlit : u.tt.lit = s.tt.lit := by rw [htt]
  change ∃ t, execStrobeOff s = .next t ∧ _
  unfold execStrobeOff
  rw [hdue]
  dsimp only
  rw [hu]
  cases acts with
  | true =>
    rw [if_pos rfl]
    exact ⟨_, rfl, (Bool.and_false _).symm, rfl, hlit⟩
  | false =>
    rw [if_neg Bool.false_ne_true]
    exact ⟨_, rfl, hstrobe.trans (Bool.and_true _).symm, rfl, hlit⟩

/-! ### LSTEP (R101, R110, R543, R551) -/

/-- The least of some times, and of one more where there is one. -/
def leastOf (l : List Nat) (a : Option Nat) : Option Nat := l.foldl (fun (a : Option Nat) t => some (min t (a.getD t))) a

/-- What holds of every time of a list, and of the one more, holds of their least. -/
theorem leastOf_of_all {P : Nat → Prop} : ∀ (l : List Nat) (a : Option Nat), (∀ t ∈ l, P t) → (∀ t, a = some t → P t) →
    ∀ w, leastOf l a = some w → P w
  | [], _, _, ha, w, hw => ha w hw
  | t :: l, a, hl, ha, w, hw => by
    refine leastOf_of_all l _ (fun u hu => hl u (List.mem_cons_of_mem t hu)) (fun u hu => ?_) w hw
    obtain rfl : min t (a.getD t) = u := Option.some.inj hu
    have ht := hl t List.mem_cons_self
    cases a with
    | none => simpa using ht
    | some x =>
      rcases min_choice t x with h | h <;> rw [Option.getD_some, h]
      · exact ht
      · exact ha x rfl

theorem lstep_rises {w : Nat} (hdue : leastOf (s.lstepRises.filter (fun w => decide (s.tt.clk < w))) none = some w)
    (hen : s.tst F.TT_CTRL_LSTEP_EN = true) :
    ∃ t, exec .lstep s = .next t ∧ t.tt.lstep = true ∧ t.pwr.recess = false ∧ t.pwr.holdEnd = none ∧ t.rd F.PWR_SHED_ACTIVE = 15 ∧
      t.tt.clk = w := by
  have hlater : s.tt.clk < w := by
    refine leastOf_of_all (P := fun t => s.tt.clk < t) _ none (fun t ht => ?_) (fun _ hno => absurd hno (Option.some_ne_none _).symm) w hdue
    exact of_decide_eq_true (List.mem_filter.mp ht).2
  obtain ⟨u, hu⟩ : ∃ u, s.elapse w = u := ⟨_, rfl⟩
  have hclk : u.tt.clk = w := by rw [← hu, elapse_tt_clk, max_eq_right hlater.le]
  have hoff : ¬ (!s.tst F.TT_CTRL_LSTEP_EN && (s.sys.mode == 8 || s.sys.mode == 0xA)) = true := by simp [hen]
  have hrow : exec .lstep s = .next (s.keepQueue (u.lstepEdge true)) := by
    change execLstep s = _
    unfold execLstep
    extract_lets off due
    have hleast : due.foldl (fun (a : Option Nat) t => some (min t (a.getD t))) none = some w := hdue
    rw [hleast]
    dsimp only
    rw [if_neg hoff, hu]
  exact ⟨_, hrow, rfl, rfl, rfl, State.rd_wr_same (by decide) _ _, hclk⟩

/-! ### The cut of the statistics (R340) -/

theorem statsCut_notes {fn : Nat} (hopen : s.pix.opened.find? (fun n => !s.pix.cut.contains n) = some fn) :
    ∃ t, exec .statsCut s = .next t ∧ t.pix.cut = s.pix.cut ++ [fn] := by
  change ∃ t, execStatsCut s = .next t ∧ _
  unfold execStatsCut
  rw [hopen]
  dsimp -zeta only
  extract_lets v slot t pix
  refine ⟨_, rfl, ?_⟩
  have ht : t.pix = s.pix := by
    unfold t
    split
    · exact State.elapse_pix _ _
    · exact State.elapse_pix _ _
  exact congrArg (fun p : Pix => p.cut ++ [fn]) ht

end

/-- Settles O27: each row within a frame. -/
theorem rowEventsAct : Obligations.RowEventsAct := fun _ =>
  ⟨fun _ _ _ _ hdue => moves_rowReset hdue, fun _ _ _ _ _ hdue => moves_blockReset hdue, fun _ _ hdue => moves_shortReset hdue,
    fun _ record _ hrun hread => ⟨moves_longRead hrun hread record, fun hshort => moves_shortRead hrun hread hshort⟩,
    fun _ _ _ hdue => strobeOn_acts hdue, fun _ _ _ hdue => strobeOff_acts hdue, fun _ hdue hen => lstep_rises hdue hen,
    fun _ hopen => statsCut_notes hopen⟩

end Sys2Proof.Machine
end


section
/-!
PROOF. What follows the rows of a frame: conversions, tracking, closed sets, AE, AWB, display lines, DSTALL and calibration (R62 to R72,
R146, R340, R371 to R375, R665).
-/

namespace Sys2Proof.Machine

open Sys2Proof (Word Instr)

section
variable {s : State}

/-! ### Conversions, tracking and calibration -/

theorem moves_conversionCycle (hphase : s.sys.phase = .run) (hstarted : s.tt.started = true) (hrun : s.tt.run = true)
    (rows : List RowSample) : moves (.conversionCycle rows) s (rows.foldl (fun t r => t.takeRow r) (s.elapse (s.cycleEnd rows))) := by
  have hacts : ¬ (s.sys.phase != .run || !s.tt.started || !(s.tt.run || streamingMode s.sys.mode)) = true := by
    simp [hphase, hstarted, hrun]
  exact moves_of_row rfl (if_neg hacts)

theorem moves_offsetTracking_of_tracked (htracked : s.cnv.tracked = true) (sums : List Int) : moves (.offsetTracking sums) s s := by
  have hdone : (!s.tt.run || !streamingMode s.sys.mode || !s.tst F.CNV_CTRL_TRACK_EN || s.cnv.tracked) = true := by
    simp [htracked]
  exact moves_of_row rfl (if_pos hdone)

section
variable (hrun : s.tt.run = true) (hstreams : streamingMode s.sys.mode = true) (hen : s.tst F.CNV_CTRL_TRACK_EN = true)
  (hfirst : s.cnv.tracked = false) (sums : List Int)
include hrun hstreams hen hfirst

theorem exec_offsetTracking :
    let t : State := { s with cnv := { s.cnv with tracked := true } }
    exec (.offsetTracking sums) s = .next (s.keepQueue (
      if s.tt.vcur < trackStart s.live s.effNow + 2 * vW s.live then t.bump F.CNV_TRKSKIP_COUNT
      else (t.toSlot (trackStart s.live s.effNow + 2 * vW s.live) 0).trackAll sums)) := by
  have hacts : ¬ (!s.tt.run || !streamingMode s.sys.mode || !s.tst F.CNV_CTRL_TRACK_EN || s.cnv.tracked) = true := by
    simp [hrun, hstreams, hen, hfirst]
  exact moves_of_row rfl (if_neg hacts)

end

theorem moves_calibrationComplete (hbusy : s.cnv.calBusy = true) (sums : List (Int × Int)) :
    let n := 2 ^ s.rd F.CNV_CAL_AVG_LOG2
    let t := s.elapse (us (8 * n) + s.cnv.calAt)
    let u : State := { t with cnv := { t.cnv with calBusy := false, shadow := some (sums.map (calEntry n)) } }
    moves (.calibrationComplete sums) s (if u.inBlanking then u.calCopy else u) := by
  have hacts : ¬ (!s.cnv.calBusy) = true := by simp [hbusy]
  exact moves_of_row rfl (if_neg hacts)

/-! ### Closed sets, AE and AWB -/

theorem moves_statsSetClose {fn : Nat} (hcloses : s.closing = some fn) : moves .statsSetClose s (s.closeFrame fn) := by
  change execStatsSetClose s = _
  unfold execStatsSetClose
  rw [hcloses]

section
variable {set : StatSet} {rest : List StatSet} (hclosed : s.pix.closed = set :: rest)
include hclosed

theorem exec_aeRun : exec .aeRun s = .next (s.keepQueue (if s.exp.aeDone == some set.fn then s else s.runAe set)) := by
  change execAeRun s = _
  unfold execAeRun
  rw [hclosed]

theorem moves_aeRun (hnew : s.exp.aeDone ≠ some set.fn) : moves .aeRun s (s.runAe set) :=
  moves_of_row (exec_aeRun hclosed) (if_neg (by simp [hnew]))

theorem moves_aeRun_of_done (hdone : s.exp.aeDone = some set.fn) : moves .aeRun s s :=
  moves_of_row (exec_aeRun hclosed) (if_pos (by simp [hdone]))

theorem moves_awbRun (hfw : s.sys.fw = .running) (hen : s.tst F.PA_CTRL_AWB_EN = true) (hnew : s.exp.awbDone ≠ some set.fn) :
    let a := Sys2Proof.Config.freeWord s.free
    let b := Sys2Proof.Config.freeWord (s.free + 1)
    moves .awbRun s (State.aeCommit { s with exp := { s.exp with awbDone := some set.fn }, free := s.free + 2 }
      [(F.PA_WB0_GR, bits a 0 16), (F.PA_WB0_GG, bits a 16 16), (F.PA_WB1_GB, bits b 0 16), (F.PA_WB1_GI, bits b 16 16)]) := by
  have hacts : ¬ (s.sys.fw != .running || !s.tst F.PA_CTRL_AWB_EN || s.exp.awbDone == some set.fn) = true := by
    simp [hfw, hen, hnew]
  change execAwbRun s = _
  unfold execAwbRun
  rw [hclosed]
  dsimp only
  rw [if_neg hacts]
  rfl

theorem moves_awbRun_of_done (hdone : s.exp.awbDone = some set.fn) : moves .awbRun s s := by
  have hstays : (s.sys.fw != .running || !s.tst F.PA_CTRL_AWB_EN || s.exp.awbDone == some set.fn) = true := by
    simp [hdone]
  change execAwbRun s = _
  unfold execAwbRun
  rw [hclosed]
  dsimp only
  rw [if_pos hstays]

end

/-! ### Display lines and DSTALL -/

theorem moves_displayLineDue {line : Nat} (hrun : s.tt.run = true) (hmode : s.sys.mode = 4) (hlock : s.tt.lock = 2) {t : State}
    (ht : s.elapse (s.lineDue line) = t) (hbegun : t.pix.rows.any (fun c => c.fn == t.tt.fn && decide (48 ≤ c.row)) = true)
    {f : StreamFrame} (hlive : t.dispLive t.tt.fn = some f) {r : WinRect} (hwin : dispWin t.live = some r) {d : DispView}
    (hview : dispLineView t.live (t.halfSize t.live) = some d) :
    let l := min line (d.oh - 1)
    let p := t.dueLines t.live r d l (l + 1) f
    moves (.displayLineDue line) s ((p.2.setFrame f p.1).endDispA p.1) := by
  have hacts : ¬ (!s.tt.run || s.sys.mode != 4 || s.tt.lock != 2) = true := by
    simp [hrun, hmode, hlock]
  change execDisplayLineDue line s = _
  unfold execDisplayLineDue
  rw [if_neg hacts, ht]
  extract_lets u fn begun begin v
  have hbegin : begin = t := if_pos hbegun
  clear_value begin
  subst hbegin
  rw [show u.dispLive fn = some f from hlive, show dispWin v = some r from hwin, show dispLineView v (u.halfSize v) = some d from hview]

section
variable (hstreams : streamingMode s.sys.mode = true) (hphase : s.sys.phase = .run) {t : State}
  (ht : s.elapse (s.saf.dispFooterAt + max 2 (s.rd F.SAF_DSTALL_FRAMES) * 16 * s.rd F.TT_VTOTAL_VTOTAL * rpRaw s.live) = t)
include hstreams hphase ht

theorem exec_dstall : exec .dstall s = .next (s.keepQueue (
    if t.sys.mode == 0xB then
      let u := t.faultC 0
      { u with sys := { u.sys with black := true } }
    else (t.fault 0 (4 * 4096)).limpFor 4)) := by
  have hacts : ¬ (!streamingMode s.sys.mode || s.sys.phase != .run) = true := by
    simp [hstreams, hphase]
  subst ht
  exact moves_of_row rfl (if_neg hacts)

end

end

/-- Settles O28: each row of what follows the rows of a frame. -/
theorem pictureEventsAct : Obligations.PictureEventsAct := fun s => by
  refine ⟨fun rows hphase hstarted hrun => moves_conversionCycle hphase hstarted hrun rows,
    fun sums hrun hstreams hen => ⟨fun htracked => moves_offsetTracking_of_tracked htracked sums,
      fun hfirst hlate => moves_of_row (exec_offsetTracking hrun hstreams hen hfirst sums) (if_pos hlate),
      fun hfirst hintime => moves_of_row (exec_offsetTracking hrun hstreams hen hfirst sums) (if_neg (Nat.not_lt.mpr hintime))⟩,
    fun _ hcloses => moves_statsSetClose hcloses,
    fun _ _ hclosed => ⟨fun hnew => moves_aeRun hclosed hnew, fun hdone => moves_aeRun_of_done hclosed hdone,
      fun hfw hen => ⟨fun hnew => moves_awbRun hclosed hfw hen hnew, fun hdone => moves_awbRun_of_done hclosed hdone⟩⟩,
    fun _ _ _ _ hrun hmode hlock => fun hbegun hlive hwin hview => moves_displayLineDue hrun hmode hlock rfl hbegun hlive hwin hview,
    fun hstreams hphase => ?_, fun sums hbusy => moves_calibrationComplete hbusy sums⟩
  obtain ⟨t, ht⟩ :
      ∃ t, s.elapse (s.saf.dispFooterAt + max 2 (s.rd F.SAF_DSTALL_FRAMES) * 16 * s.rd F.TT_VTOTAL_VTOTAL * rpRaw s.live) = t := ⟨_, rfl⟩
  rw [ht]
  exact ⟨fun hmode => moves_of_row (exec_dstall hstreams hphase ht) (if_neg (by simp [hmode])),
    fun hlimp => moves_of_row (exec_dstall hstreams hphase ht) (if_pos (by simp [hlimp]))⟩

end Sys2Proof.Machine
end


section
/-!
PROOF. What sending, streams and lane settings leave of the link (R413 to R433).
-/

namespace Sys2Proof.Machine

open Sys2Proof (Word Instr)

/-- `t` has the link of `s` but for what is sent and what waits to be set, with the same LNK_CFG and the same OTP. -/
structure LinkStands (s t : State) : Prop where
  lnk : t.lnk = { s.lnk with
    lseq := t.lnk.lseq, replay := t.lnk.replay, tx := t.lnk.tx, kept := t.lnk.kept, ffeNext := t.lnk.ffeNext, lanes := t.lnk.lanes,
    rest := t.lnk.rest, change := t.lnk.change, blocks := t.lnk.blocks, resent := t.lnk.resent, index := t.lnk.index }
  cfg : t.reg R.LNK_CFG = s.reg R.LNK_CFG
  otp : t.otp = s.otp

theorem LinkStands.refl (s : State) : LinkStands s s := ⟨rfl, rfl, rfl⟩

theorem LinkStands.trans {s t u : State} (h : LinkStands s t) (g : LinkStands t u) : LinkStands s u :=
  ⟨by rw [g.lnk, h.lnk], g.cfg.trans h.cfg, g.otp.trans h.otp⟩

theorem LinkStands.ite {s t u : State} (c : Prop) [Decidable c] (h : LinkStands s t) (g : LinkStands t u) :
    LinkStands s (if c then u else t) := by
  split
  · exact h.trans g
  · exact h

theorem foldl_linkStands {α : Type} (f : State → α → State) (h : ∀ s a, LinkStands s (f s a)) :
    ∀ (l : List α) (s : State), LinkStands s (l.foldl f s)
  | [], s => .refl s
  | a :: l, s => (h s a).trans (foldl_linkStands f h l (f s a))

/-! ### Registers and packets -/

theorem setReg_linkStands {a : Nat} (haddr : R.LNK_CFG ≠ a) (s : State) (w : Word) : LinkStands s (s.setReg a w) :=
  ⟨rfl, Mem.get_set_other _ _ haddr, rfl⟩

theorem wr_linkStands {f : Fld} (haddr : R.LNK_CFG ≠ f.addr) (s : State) (v : Nat) : LinkStands s (s.wr f v) :=
  ⟨rfl, State.reg_wr_other haddr s v, rfl⟩

theorem bump_linkStands {f : Fld} (haddr : R.LNK_CFG ≠ f.addr) (s : State) : LinkStands s (s.bump f) := wr_linkStands haddr s _

theorem sendPkt_linkStands (s : State) (stream n : Nat) : LinkStands s (s.sendPkt stream n) := by
  unfold State.sendPkt
  extract_lets q total lnk t
  exact .ite _ ⟨rfl, rfl, rfl⟩ (wr_linkStands (by decide) t _)

theorem sendData_linkStands (s : State) (stream : Nat) (ws : List Word) : LinkStands s (s.sendData stream ws) :=
  (sendPkt_linkStands s stream ws.length).trans ⟨rfl, rfl, rfl⟩

theorem put_linkStands (s : State) (c : Ctl) : LinkStands s (s.put c) := by
  have hfe : LinkStands s { s with fe := { s.fe with out := s.fe.out ++ [c] } } := ⟨rfl, rfl, rfl⟩
  exact hfe.trans (sendData_linkStands _ _ _)

theorem finish_linkStands (s : State) (op tag st fn : Nat) (pl : List Word) : LinkStands s (s.finish op tag st fn pl) := by
  unfold State.finish
  split
  · exact .refl s
  · unfold State.reply
    extract_lets c
    split
    · refine .trans ?_ (put_linkStands _ c)
      exact ⟨rfl, rfl, rfl⟩
    · exact ⟨rfl, rfl, rfl⟩

theorem finishOp_linkStands (s : State) (op st fn : Nat) (pl : List Word) : LinkStands s (s.finishOp op st fn pl) :=
  foldl_linkStands _ (fun t (o : OpenCmd) => finish_linkStands t o.op o.tag st fn pl) _ s

theorem event_linkStands (s : State) (code : Nat) (pl : List Word) : LinkStands s (s.event code pl) := by
  unfold State.event
  split
  · exact .refl s
  split
  · exact ⟨rfl, rfl, rfl⟩
  split
  · exact ⟨rfl, rfl, rfl⟩
  · refine .trans ?_ (bump_linkStands (f := F.CMD_EVDROP_COUNT) (by decide) _)
    exact ⟨rfl, rfl, rfl⟩

theorem sendOne_linkStands (s : State) : LinkStands s s.sendOne := by
  unfold State.sendOne
  split
  · refine .trans ?_ (put_linkStands _ _)
    exact ⟨rfl, rfl, rfl⟩
  split
  · refine .trans ?_ (put_linkStands _ _)
    exact ⟨rfl, rfl, rfl⟩
  · exact .refl s

theorem iter_sendOne_linkStands : ∀ (n : Nat) (s : State), LinkStands s (iter State.sendOne n s)
  | 0, s => .refl s
  | n + 1, s => (sendOne_linkStands s).trans (iter_sendOne_linkStands n s.sendOne)

theorem flush_linkStands (s : State) : LinkStands s s.flush := .ite _ (.refl s) (iter_sendOne_linkStands _ s)

theorem elapse_linkStands (s : State) (t : Nat) : LinkStands s (s.elapse t) := by
  unfold State.elapse
  refine .ite _ (.refl s) (LinkStands.trans ?_ (flush_linkStands _))
  split
  · exact ⟨rfl, rfl, rfl⟩
  · exact ⟨rfl, rfl, rfl⟩

/-! ### Streams and shedding -/

theorem framePacket_linkStands (s : State) (f : StreamFrame) (ptype : Nat) (ws : List Word) : LinkStands s (s.framePacket f ptype ws) := by
  unfold State.framePacket State.streamPacket
  refine .ite _ (.refl s) ?_
  split
  · exact .refl s
  · extract_lets q words out
    refine .trans ?_ (sendData_linkStands _ _ _)
    exact ⟨rfl, rfl, rfl⟩

theorem abortFrame_linkStands (s : State) (reason : Nat) (f : StreamFrame) : LinkStands s (s.abortFrame reason f) := by
  unfold State.abortFrame
  extract_lets keep t out u
  have hu : LinkStands s u := (framePacket_linkStands s f 7 _).trans ⟨rfl, rfl, rfl⟩
  exact .ite _ hu (bump_linkStands (by decide) u)

theorem abortAll_linkStands (s : State) (reason : Nat) : LinkStands s (s.abortAll reason) :=
  foldl_linkStands _ (fun t f => abortFrame_linkStands t reason f) _ s

theorem showShed_linkStands (s : State) : LinkStands s s.showShed := by
  unfold State.showShed
  rw [wrs_two]
  exact (wr_linkStands (f := F.OUT_SHED_GROUPS) (by decide) s _).trans (wr_linkStands (by decide) _ _)

theorem abortShed_linkStands (s : State) : LinkStands s s.abortShed :=
  foldl_linkStands _ (fun u f => abortFrame_linkStands u 1 f) _ s

theorem reshed_linkStands (s : State) : LinkStands s s.reshed := by
  refine .trans ?_ (abortShed_linkStands _)
  refine .trans ?_ (showShed_linkStands _)
  exact ⟨rfl, rfl, rfl⟩

/-! ### Lanes and coefficients -/

theorem setFfe_linkStands (s : State) (lane cm1 cp1 : Nat) : LinkStands s (s.setFfe lane cm1 cp1) :=
  setReg_linkStands (by unfold ffeReg R.LNK_CFG R.LNK_FFE0; omega) s _

theorem settleFfe_linkStands (s : State) : LinkStands s s.settleFfe := by
  unfold State.settleFfe
  extract_lets now lnk t
  have ht : LinkStands s t := by
    refine .trans ?_ (foldl_linkStands _ (fun u (p : Nat × Nat × Nat) => setFfe_linkStands u p.1 p.2.1 p.2.2) now _)
    exact ⟨rfl, rfl, rfl⟩
  exact .ite _ ht (finishOp_linkStands t _ _ _ _)

theorem lanesSend_linkStands (s : State) (mask : Nat) (b : Nat → LaneBlock) : LinkStands s (s.lanesSend mask b) :=
  foldl_linkStands (fun (t : State) i => t.laneSend i (b i)) (fun _ _ => ⟨rfl, rfl, rfl⟩) _ s

end Sys2Proof.Machine
end

section
/-!
PROOF. The rows of the link (R412 to R435).
-/

namespace Sys2Proof.Machine

open Sys2Proof (Word Instr)

/-! ### The back channel (R421, R422, R425) -/

/-- A row that a device in reset leaves alone acts where the core runs. -/
theorem not_reset_of_coreRuns {s : State} (hruns : s.coreRuns = true) : ¬ (s.sys.phase == .unpowered || s.sys.phase == .reset) = true := by
  rw [out_of_reset_of_coreRuns hruns]
  exact Bool.false_ne_true

/-- What the last good LSTATE reported stands. -/
structure ReportStands (s t : State) : Prop where
  good : t.lnk.good = s.lnk.good
  silent : t.lnk.hostSilent = s.lnk.hostSilent
  at_ : t.lnk.lstateAt = s.lnk.lstateAt

theorem ReportStands.trans {s t u : State} (h : ReportStands s t) (g : ReportStands t u) : ReportStands s u :=
  ⟨g.good.trans h.good, g.silent.trans h.silent, g.at_.trans h.at_⟩

theorem LinkStands.report {s t : State} (h : LinkStands s t) : ReportStands s t :=
  ⟨congrArg (·.good) h.lnk, congrArg (·.hostSilent) h.lnk, congrArg (·.lstateAt) h.lnk⟩

theorem LinkStands.state {s t : State} (h : LinkStands s t) : t.lnk.state = s.lnk.state := congrArg (·.state) h.lnk

theorem replayFrom_linkStands (s : State) (ack : Nat) : LinkStands s (s.replayFrom ack) := by
  unfold State.replayFrom
  extract_lets want again head lost t lnk u goes
  have ht : LinkStands s t := bump_linkStands (by decide) s
  have hu : LinkStands s u := by
    refine ht.trans ?_
    dsimp only [u]
    split
    · exact .refl t
    · refine .trans ?_ (wr_linkStands (f := F.LNK_UNRECOV_COUNT) (by decide) _ _)
      exact ⟨rfl, rfl, rfl⟩
  exact hu.trans ⟨rfl, rfl, rfl⟩

theorem setLanes_linkStands (s : State) (mask lseq : Nat) :
    LinkStands { s with lnk := { s.lnk with active := mask } } (s.setLanes mask lseq) := by
  unfold State.setLanes
  extract_lets lnk t u
  have ht : LinkStands { s with lnk := { s.lnk with active := mask } } t := ⟨rfl, rfl, rfl⟩
  exact (ht.trans ((bump_linkStands (by decide) t).trans (reshed_linkStands _))).trans (settleFfe_linkStands u)

theorem setLanes_reports (s : State) (mask lseq : Nat) : ReportStands s (s.setLanes mask lseq) := by
  obtain ⟨hgood, hsilent, hat⟩ := (setLanes_linkStands s mask lseq).report
  exact ⟨hgood, hsilent, hat⟩

theorem trackGood_reports (s : State) : ReportStands s s.trackGood := ⟨rfl, rfl, rfl⟩

theorem laneEvent_linkStands (s : State) (old mask : Nat) (up : Bool) : LinkStands s (s.laneEvent old mask up) := event_linkStands s _ _

theorem goodLstate_reports (s : State) (g : Nat) (ready replay : Bool) (ack : Nat) :
    ReportStands { s with lnk := { s.lnk with good := g, hostSilent := false, lstateAt := s.tt.clk } } (s.goodLstate g ready replay ack) := by
  unfold State.goodLstate
  extract_lets lnk t lnk' u keep mask
  split
  · split
    · exact ⟨rfl, rfl, rfl⟩
    · exact ⟨rfl, rfl, rfl⟩
  · have hu : ReportStands t u := ⟨rfl, rfl, rfl⟩
    split
    · have hagain := (replayFrom_linkStands (u.setLanes mask ((ack + 1) % 65536)) ack).trans (laneEvent_linkStands _ u.lnk.active mask false)
      exact ((hu.trans (setLanes_reports u _ _)).trans hagain.report).trans (trackGood_reports _)
    split
    · exact (hu.trans (replayFrom_linkStands u ack).report).trans (trackGood_reports _)
    · exact hu.trans (trackGood_reports u)
  · exact ⟨rfl, rfl, rfl⟩

theorem goodLstate_ready {s : State} {g : Nat} (hstate : s.lnk.state = 1) (hlanes : g &&& s.lanes ≠ 0) (replay : Bool) (ack : Nat) :
    (s.goodLstate g true replay ack).lnk.ready = true := by
  unfold State.goodLstate
  extract_lets lnk t
  have ht : t.lnk.state = 1 := hstate
  have hcommon : (true && (g &&& t.lanes) != 0) = true := bne_iff_ne.mpr hlanes
  rw [ht, if_pos hcommon]
  rfl

theorem checkIdle_idleRun (s : State) (bs : List Sys2Proof.Byte) : (s.checkIdle bs).lnk.idleRun = s.lnk.idleRun := by
  unfold State.checkIdle
  split
  · rfl
  next r hr =>
    extract_lets q t
    split
    · split <;> rfl
    · split <;> rfl

section
variable {s : State}

section
variable (hruns : s.coreRuns = true)
include hruns

theorem moves_backChannelFrame_closed {chars : List Sys2Proof.Byte} (hlen : chars.length ≤ 1040) :
    moves (.backChannelFrame chars true) s
      (framePackets 261 (wordsOfBytes chars) (chars.length % 4) true (s.echoFrame chars)) := by
  have hwhole : (true && decide (chars.length ≤ 1040)) = true := decide_eq_true hlen
  simp only [moves, exec, execBackChannelFrame, if_neg (not_reset_of_coreRuns hruns), hwhole, if_true]

theorem moves_backChannelFrame_open (chars : List Sys2Proof.Byte) :
    moves (.backChannelFrame chars false) s
      (framePackets 261 (wordsOfBytes (chars.take 1040)) ((chars.take 1040).length % 4) false
        ((s.bump F.LNK_LONGFRM_COUNT).echoFrame (chars.take 1040))) := by
  simp only [moves, exec, execBackChannelFrame, if_neg (not_reset_of_coreRuns hruns), Bool.false_and, Bool.false_eq_true, if_false]

theorem moves_lstate_of_bad_crc {b ack crc : Nat} (hbad : crc8 [w8 b, w8 (ack / 256), w8 ack] ≠ crc) :
    moves (.lstate b ack crc) s (s.bump F.LNK_LSTCRC_COUNT) :=
  moves_of_row rfl ((if_neg (not_reset_of_coreRuns hruns)).trans (if_pos (bne_iff_ne.mpr hbad)))

theorem moves_lstate_of_good_crc (b ack : Nat) :
    moves (.lstate b ack (crc8 [w8 b, w8 (ack / 256), w8 ack])) s (s.goodLstate (b % 16) (b.testBit 4) (b.testBit 5) (ack % 65536)) :=
  moves_of_row rfl ((if_neg (not_reset_of_coreRuns hruns)).trans (if_neg (by simp)))

theorem lstate_reports (b ack : Nat) :
    ∃ t, exec (.lstate b ack (crc8 [w8 b, w8 (ack / 256), w8 ack])) s = .next t ∧
      t.lnk.good = b % 16 ∧ t.lnk.hostSilent = false ∧ t.lnk.lstateAt = s.tt.clk ∧
      (s.lnk.state = 1 → b.testBit 4 = true → (b % 16) &&& s.lanes ≠ 0 → t.lnk.ready = true) := by
  obtain ⟨hgood, hsilent, hat⟩ := goodLstate_reports s (b % 16) (b.testBit 4) (b.testBit 5) (ack % 65536)
  refine ⟨_, moves_lstate_of_good_crc hruns b ack, hgood, hsilent, hat, fun hstate hready hlanes => ?_⟩
  rw [hready]
  exact goodLstate_ready hstate hlanes _ _

theorem moves_bcIdle_violation (chars : List Sys2Proof.Byte) :
    moves (.bcIdle chars true) s (State.bump { s with lnk := { s.lnk with idleRun := 0 } } F.LNK_BCCODE_COUNT) :=
  moves_of_row rfl ((if_neg (not_reset_of_coreRuns hruns)).trans (if_pos rfl))

theorem bcIdle_runs_on (chars : List Sys2Proof.Byte) :
    ∃ t, exec (.bcIdle chars false) s = .next t ∧ t.lnk.idleRun = s.lnk.idleRun + 1 ∧ (64 ≤ s.lnk.idleRun + 1 → t.lnk.bcLock = true) := by
  refine ⟨_, moves_of_row rfl ((if_neg (not_reset_of_coreRuns hruns)).trans (if_neg Bool.false_ne_true)), ?_, fun hlong => ?_⟩
  · exact congrArg (· + 1) (checkIdle_idleRun s chars)
  · refine Bool.or_eq_true_iff.mpr (.inr (decide_eq_true ?_))
    rw [checkIdle_idleRun]
    exact hlong

end

/-! ### Lanes and the receiver (R423, R424, R425, R431) -/

theorem moves_laneReadd {lane since : Nat} (hsince : s.lnk.goodSince.getD lane none = some since) (hstate : s.lnk.state = 2)
    (hspeaks : s.lnk.hostSilent = false) :
    let t := s.elapse (ms (1000 * max 1 (s.rd F.LNK_TIMER_READD_S)) + since)
    let mask := t.lnk.active ||| 2 ^ lane
    let u : State := { t with lnk := { t.lnk with index := t.lnk.index / 16384 * 16384 + 16383 } }
    moves (.laneReadd lane) s (((u.setLanes mask t.lnk.lseq).laneStep.laneEvent t.lnk.active mask true).trackGood) := by
  have hacts : ¬ (s.lnk.state != 2 || s.lnk.hostSilent) = true := by simp [hstate, hspeaks]
  intro t mask u
  simp only [moves, exec, execLaneReadd, hsince, if_neg hacts, t, mask, u]

theorem moves_hostSilent (hstate : s.lnk.state ≠ 0) (hspeaks : s.lnk.hostSilent = false) :
    let t := s.elapse (ms (max 1 (s.rd F.LNK_TIMER_SILENT_MS)) + s.lnk.lstateAt)
    moves .hostSilent s { t with lnk := { t.lnk with hostSilent := true } } := by
  have hacts : ¬ (s.lnk.state == 0 || s.lnk.hostSilent) = true := by simp [hstate, hspeaks]
  intro t
  simp only [moves, exec, execHostSilent, if_neg hacts, t]

section
variable (hstate : s.lnk.state ≠ 0)
include hstate

theorem moves_bcAdaptWindow_frozen {n : Nat} {violation : Bool} (hbad : n < 256 ∨ violation = true) (steps : List Int) :
    moves (.bcAdaptWindow n violation steps) s (s.wrs [(F.LNK_EYE_DENS, min 255 (n * 100 / 1024)), (F.LNK_EYE_FROZEN, 1)]) := by
  have hacts : ¬ (s.lnk.state == 0 && !s.sys.park.idle) = true := by simp [hstate]
  have hgo : ((s.tst F.LNK_BCCLAMP_ADAPT_EN || s.sys.mode != 0x9) && decide (256 ≤ n) && !violation && !s.sys.park.idle) = false := by
    rcases hbad with hfew | hviolation
    · simp [Nat.not_le.mpr hfew]
    · simp [hviolation]
  simp only [moves, exec, execBcAdaptWindow, if_neg hacts, hgo, Bool.false_eq_true, if_false, Bool.not_false, flag, if_true]

theorem moves_bcAdaptWindow_adapts (hen : s.tst F.LNK_BCCLAMP_ADAPT_EN = true) (hawake : s.sys.park.idle = false) {n : Nat} (steps : List Int)
    (hmany : 256 ≤ n) :
    let t := s.wrs [(F.LNK_EYE_DENS, min 255 (n * 100 / 1024)), (F.LNK_EYE_FROZEN, 0)]
    let taps := (List.range 4).map (fun i =>
      tapStep t.lnk.centred (max 1 (t.rd F.LNK_BCCLAMP_WIN)) (t.lnk.centres.getD i 0) (t.taps.getD i 0) (steps.getD (i + 1) 0))
    moves (.bcAdaptWindow n false steps) s
      ((t.wr F.LNK_BCEQ_CTLE (clampI 0 15 (t.rd F.LNK_BCEQ_CTLE + (steps.getD 0 0).sign)).toNat).setTaps taps) := by
  have hacts : ¬ (s.lnk.state == 0 && !s.sys.park.idle) = true := by simp [hstate]
  have hgo : ((s.tst F.LNK_BCCLAMP_ADAPT_EN || s.sys.mode != 0x9) && decide (256 ≤ n) && !false && !s.sys.park.idle) = true := by
    simp [hen, hawake, hmany]
  intro t taps
  simp only [moves, exec, execBcAdaptWindow, if_neg hacts, hgo, if_true, Bool.not_true, flag, Bool.false_eq_true, if_false, t, taps]

theorem exec_eyeMonitor (h w : Nat) :
    exec (.eyeMonitor h w) s = .next (s.keepQueue (
      let t := s.wrs [(F.LNK_EYE_HEIGHT, min 255 h), (F.LNK_EYE_WIDTH, min 255 w)]
      if t.rd F.LNK_BCCLAMP_EYE_MIN ≤ h then { t with lnk := { t.lnk with centres := t.taps, centred := true } }
      else { t.setTaps t.lnk.centres with lnk := { t.lnk with centred := true } })) := by
  have hacts : ¬ (s.lnk.state == 0) = true := by simp [hstate]
  simp only [exec, execEyeMonitor, if_neg hacts]

theorem moves_eyeMonitor_open (h w : Nat) :
    let t := s.wrs [(F.LNK_EYE_HEIGHT, min 255 h), (F.LNK_EYE_WIDTH, min 255 w)]
    t.rd F.LNK_BCCLAMP_EYE_MIN ≤ h → moves (.eyeMonitor h w) s { t with lnk := { t.lnk with centres := t.taps, centred := true } } := by
  intro t hopen
  exact moves_of_row (exec_eyeMonitor hstate h w) (if_pos hopen)

theorem eyeMonitor_goes_back (h w : Nat) :
    let t := s.wrs [(F.LNK_EYE_HEIGHT, min 255 h), (F.LNK_EYE_WIDTH, min 255 w)]
    h < t.rd F.LNK_BCCLAMP_EYE_MIN → ∃ u, exec (.eyeMonitor h w) s = .next u ∧ u.taps = (t.setTaps s.lnk.centres).taps := by
  intro t hshut
  exact ⟨_, moves_of_row (exec_eyeMonitor hstate h w) (if_neg (Nat.not_le.mpr hshut)), rfl⟩

end

/-! ### The ends of training (R427, R440) -/

theorem marker_linkStands (s : State) (mask mcount : Nat) :
    LinkStands { s with lnk := { s.lnk with mcount := mcount } } (s.marker mask mcount) := by
  obtain ⟨hlnk, hcfg, hotp⟩ := lanesSend_linkStands s mask (fun i => dskBlock i s.lnk.active (s.rd F.LNK_CFG_RATE) mcount s.nextLseq)
  refine ⟨?_, hcfg, hotp⟩
  unfold State.marker
  dsimp only
  rw [hlnk]

/-- The link in ACTIVE on the lanes of a mask, before its deskew marker (R427 step 4). -/
def State.madeActive (s : State) (mask : Nat) : State :=
  { s with lnk := { s.lnk with
      state := 2, active := mask, mcount := 0, prevCfg := none, goodSince := [none, none, none, none] } }

theorem enterActive_linkStands (s : State) (mask : Nat) : LinkStands (s.madeActive mask) (s.enterActive mask) := by
  unfold State.enterActive
  extract_lets lnk t u v
  have ht : LinkStands (s.madeActive mask) { t with lnk := { t.lnk with mcount := 0 } } := ⟨rfl, rfl, rfl⟩
  have hu : LinkStands (s.madeActive mask) u := (ht.trans (marker_linkStands t s.lanes 0)).trans (reshed_linkStands _)
  have hv : LinkStands u v := (finishOp_linkStands u _ _ _ _).trans (finishOp_linkStands _ _ _ _ _)
  exact (hu.trans hv).trans (flush_linkStands v)

theorem LinkStands.lanes {s t : State} (h : LinkStands s t) : t.lanes = s.lanes := State.rd_congr h.cfg

theorem enterActive_margDue {mask : Nat} (hmarg : s.otp.margDue = []) : (s.enterActive mask).otp.margDue = [] := by
  rw [(enterActive_linkStands s mask).otp]
  exact hmarg

theorem linkActive_ends_training (hstate : s.lnk.state = 1) (hready : s.lnk.ready = true) (hmarg : s.otp.margDue = []) :
    ∃ t, exec .linkActive s = .next t ∧ t.lnk.state = 2 ∧ t.lnk.active = (s.lnk.good &&& s.lanes) ∧ t.lnk.mcount = 0 := by
  obtain ⟨u, hu⟩ : ∃ u, s.settleFfe.enterActive (s.lnk.good &&& s.lanes) = u := ⟨_, rfl⟩
  have hactive : linkActive s = u := (if_pos (by simp [hstate, hready])).trans hu
  have hstands : LinkStands (s.settleFfe.madeActive (s.lnk.good &&& s.lanes)) u := hu ▸ enterActive_linkStands _ _
  have hin : u.lnk.state = 2 := hstands.state
  have hnone : u.otp.margDue = [] := hu ▸ enterActive_margDue ((congrArg (·.margDue) (settleFfe_linkStands s).otp).trans hmarg)
  change ∃ t, execLinkActive s = .next t ∧ _
  unfold execLinkActive
  rw [hactive]
  dsimp only
  rw [if_pos hin, hnone]
  exact ⟨_, rfl, hin, congrArg (·.active) hstands.lnk, congrArg (·.mcount) hstands.lnk⟩

/-- The lanes set back to a former LNK_CFG train again on it. -/
theorem enterTrain_setReg_cfg (t : State) (w : Word) :
    (State.enterTrain { t.setReg R.LNK_CFG w with lnk := { t.lnk with prevCfg := none } }).reg R.LNK_CFG = w ∧
    (State.enterTrain { t.setReg R.LNK_CFG w with lnk := { t.lnk with prevCfg := none } }).lnk.prevCfg = none := by
  obtain ⟨v, hv⟩ : ∃ v : State, { t.setReg R.LNK_CFG w with lnk := { t.lnk with prevCfg := none } } = v := ⟨_, rfl⟩
  have hcfg : v.reg R.LNK_CFG = w := hv ▸ Mem.get_set_same _ _ _
  have hprev : v.lnk.prevCfg = none := hv ▸ rfl
  obtain ⟨hlnk, hreg, -⟩ := abortAll_linkStands v 3
  rw [hv]
  exact ⟨hreg.trans hcfg, (congrArg (·.prevCfg) hlnk).trans hprev⟩

section
variable (hstate : s.lnk.state = 1) (hready : s.lnk.ready = false)
include hstate hready

theorem trainTimeout_restores {w : Word} (hprev : s.lnk.prevCfg = some w) :
    ∃ t, exec .trainTimeout s = .next t ∧ t.reg R.LNK_CFG = w ∧ t.lnk.prevCfg = none := by
  obtain ⟨e, he⟩ : ∃ e, s.elapse (ms (max 1 (s.rd F.LNK_TIMER_TRAIN_TO)) + s.lnk.trainAt) = e := ⟨_, rfl⟩
  have hstands : LinkStands s e := he ▸ elapse_linkStands s _
  have heprev : e.lnk.prevCfg = some w := (congrArg (·.prevCfg) hstands.lnk).trans hprev
  obtain ⟨hcfg, hnone⟩ := enterTrain_setReg_cfg e w
  have hacts : ¬ (s.lnk.state != 1 || s.lnk.ready) = true := by simp [hstate, hready]
  change ∃ t, execTrainTimeout s = .next t ∧ _
  unfold execTrainTimeout
  rw [if_neg hacts, he]
  dsimp only
  rw [heprev]
  dsimp only
  obtain ⟨v, hv⟩ : ∃ v : State, State.enterTrain { e.setReg R.LNK_CFG w with lnk := { e.lnk with prevCfg := none } } = v := ⟨_, rfl⟩
  rw [hv] at hcfg hnone ⊢
  obtain ⟨hlnk, hreg, -⟩ := (finishOp_linkStands v 0x81 0x0B v.tt.fn []).trans (finishOp_linkStands _ 0x82 0x0B v.tt.fn [])
  exact ⟨_, rfl, hreg.trans hcfg, (congrArg (·.prevCfg) hlnk).trans hnone⟩

theorem trainTimeout_goes_on (hprev : s.lnk.prevCfg = none) :
    ∃ t, exec .trainTimeout s = .next t ∧ t.lnk.state = 2 ∧ t.lnk.noLstate = true ∧ t.lnk.active = s.lanes := by
  obtain ⟨e, he⟩ : ∃ e, s.elapse (ms (max 1 (s.rd F.LNK_TIMER_TRAIN_TO)) + s.lnk.trainAt) = e := ⟨_, rfl⟩
  have hstands : LinkStands s e := he ▸ elapse_linkStands s _
  have heprev : e.lnk.prevCfg = none := (congrArg (·.prevCfg) hstands.lnk).trans hprev
  have hacts : ¬ (s.lnk.state != 1 || s.lnk.ready) = true := by simp [hstate, hready]
  change ∃ t, execTrainTimeout s = .next t ∧ _
  unfold execTrainTimeout
  rw [if_neg hacts, he]
  dsimp only
  rw [heprev]
  dsimp only
  obtain ⟨v, hv⟩ : ∃ v, e.settleFfe.enterActive e.lanes = v := ⟨_, rfl⟩
  have hactive : LinkStands (e.settleFfe.madeActive e.lanes) v := hv ▸ enterActive_linkStands _ _
  have hin : v.lnk.state = 2 := hactive.state
  have hlanes : v.lnk.active = e.lanes := congrArg (·.active) hactive.lnk
  rw [hv]
  exact ⟨_, rfl, hin, rfl, hlanes.trans hstands.lanes⟩

end

/-! ### Coefficients and tests (R412, R435) -/

theorem moves_ffeApply {lane : Nat} {p : Nat × Nat × Nat} (hwaits : s.lnk.ffeNext.find? (fun q => q.1 == lane) = some p) :
    let t : State := { s with lnk := { s.lnk with index := s.lnk.index / 16384 * 16384 + 16383 } }
    let u := (t.setFfe lane p.2.1 p.2.2).marker t.lanes (s.lnk.mcount + 1)
    moves (.ffeApply lane) s (State.settleFfe { u with lnk := { u.lnk with ffeNext := u.lnk.ffeNext.filter (fun q => q.1 != lane) } }) := by
  intro t u
  simp only [moves, exec, execFfeApply, hwaits, t, u]

theorem moves_testEnd_of_test {x : LinkTest} (htest : s.lnk.test = some x) (hloop : s.lnk.loop = none) :
    moves .testEnd s (retrainAfter (endTest (s.elapse x.endAt))) := by
  simp only [moves, exec, execTestEnd, htest, hloop]

theorem moves_testEnd_of_loop {y : LinkTest} (htest : s.lnk.test = none) (hloop : s.lnk.loop = some y) :
    moves .testEnd s (retrainAfter (endLoop (s.elapse y.endAt))) := by
  simp only [moves, exec, execTestEnd, htest, hloop]

end

/-- Settles O24: each row of the link. -/
theorem linkEventsAct : Obligations.LinkEventsAct := fun _ =>
  ⟨fun hruns =>
      ⟨fun _ hlen => moves_backChannelFrame_closed hruns hlen, moves_backChannelFrame_open hruns,
        fun _ _ _ hbad => moves_lstate_of_bad_crc hruns hbad, lstate_reports hruns, moves_bcIdle_violation hruns, bcIdle_runs_on hruns⟩,
    fun _ _ hsince hstate hspeaks => moves_laneReadd hsince hstate hspeaks,
    fun hstate hspeaks => moves_hostSilent hstate hspeaks,
    fun hstate _ _ steps hbad => moves_bcAdaptWindow_frozen hstate hbad steps,
    fun hstate hen hawake _ steps hmany => moves_bcAdaptWindow_adapts hstate hen hawake steps hmany,
    fun hstate h w => ⟨moves_eyeMonitor_open hstate h w, eyeMonitor_goes_back hstate h w⟩,
    fun hstate hready hmarg => linkActive_ends_training hstate hready hmarg,
    fun hstate hready => ⟨fun _ hprev => trainTimeout_restores hstate hready hprev, fun hprev => trainTimeout_goes_on hstate hready hprev⟩,
    fun _ _ hwaits => moves_ffeApply hwaits,
    fun _ htest hloop => moves_testEnd_of_test htest hloop,
    fun _ htest hloop => moves_testEnd_of_loop htest hloop⟩

end Sys2Proof.Machine
end
